-- ==== Sys2Proof/Word.lean ====
section
/-! DEFINITION. The word types of the station's wires: a byte of the rail link and the service port, a word of the effector port. -/

namespace Sys2Proof

/-- A byte of the rail link or the service port. -/
abbrev Byte := BitVec 8

/-- A word of the effector port; also the plan check word (R1) and the CRC register (R189). -/
abbrev Word := BitVec 16

/-- The 12 data bits of a report word (ch. 12, 12.2). -/
abbrev Data := BitVec 12

/-- A line stamp: 32 bits, wrapping (R48). -/
abbrev Stamp := BitVec 32

end Sys2Proof
end

