-- ==== Sys2Proof/Syntax.lean ====
section
/-! DEFINITION. The commands of spec/opcode_table.json, one constructor per row, with the physical unit each carries. -/

namespace Sys2Proof

/-- The two reference holes of a frame (ch. 2). -/
inductive Datum where
  | a | b
  deriving DecidableEq, Repr

/-- The two sides of a station: the left neighbour is station k−1, the right one station k+1 (ch. 4). -/
inductive Side where
  | left | right
  deriving DecidableEq, Repr

/-- A command of the table. Frames heard carry the bytes of the frame, its CRC included (ch. 12, 12.1);
a request carries the bytes that complete it (ch. 12, 12.3: all of its bytes, or what SERVICE_BYTE has not
brought already); a report word carries its data bits and the MARK level, its tag being the row's (ch. 12,
12.2). Edges of lines whose other edge has no row carry the time until that other edge (log entry 4). -/
inductive Instr where
  -- lines
  | powerOn
  | jigClosed
  | jigOpen
  | stationReset (width : Nat)
  | ack (width : Nat)
  | effectorReadyFall (width : Nat)
  -- service port
  | serviceByte (b : Byte)
  | serviceByteGap
  | answerSent
  | writeSetup (bytes : List Byte)
  | readSetup (bytes : List Byte)
  | loadPlanHeader (bytes : List Byte)
  | loadPlanGroup (bytes : List Byte)
  | loadPlanHole (bytes : List Byte)
  | commitPlan (bytes : List Byte)
  | readStatus (bytes : List Byte)
  | readHole (bytes : List Byte)
  | readPeer (bytes : List Byte)
  | readEvents (bytes : List Byte)
  | errorClear (bytes : List Byte)
  | stationClear (bytes : List Byte)
  | reworkHole (bytes : List Byte)
  -- frames heard on the rail link
  | frameDiscarded (frame : List Byte)
  | presenceReceived (frame : List Byte)
  | datumReceived (frame : List Byte)
  | claimReceived (frame : List Byte)
  | releaseReceived (frame : List Byte)
  | reportDrilledReceived (frame : List Byte)
  | reportSetReceived (frame : List Byte)
  | reportRejectedReceived (frame : List Byte)
  | correctionReceived (frame : List Byte)
  | reworkCorrectionReceived (frame : List Byte)
  | zoneSeizeReceived (frame : List Byte)
  | zoneReleaseReceived (frame : List Byte)
  | zoneRequestReceived (frame : List Byte)
  | drawIntentReceived (frame : List Byte)
  | drawDoneReceived (frame : List Byte)
  | drawWithdrawReceived (frame : List Byte)
  -- own transmission
  | transmitStart (quiet : Nat)
  | attemptFailed
  | presenceReadBack
  | datumReadBack
  | claimReadBack
  | releaseReadBack
  | reportReadBack
  | correctionReadBack
  | zoneSeizeReadBack
  | zoneRequestReadBack
  | zoneReleaseReadBack
  | drawIntentReadBack
  | drawWithdrawReadBack
  | drawDoneReadBack
  -- timers
  | presenceIntervalExpiry
  | datumExpiry (d : Datum)
  | proberAgeDue
  | retryDeadline
  | peerSilent (j : Nat)
  | peerLost (j : Nat)
  | selfLapse (side : Side)
  | yieldDeadline (side : Side)
  | drawEntryExpiry (j : Nat)
  | settleDeadline
  | waitDeadline
  | nextPoll
  | pressureWaitLimit
  | ownIntentRenewal
  | clampSettleExpiry
  | ramRecoveryExpiry
  -- effector port
  | resumeRise
  | resumeFall
  | responseTimeout
  | completionDeadline
  | reportFlagFall
  | reportWord (word : Word) (mark : Bool)
  | doneReport (data : Data) (mark : Bool)
  | positionReport (data : Data) (mark : Bool)
  | thrustReport (data : Data) (mark : Bool)
  | senseReport (data : Data) (mark : Bool)
  | gaugeReport (data : Data) (mark : Bool)
  | squeezeReport (data : Data) (mark : Bool)
  | pressureReport (data : Data) (mark : Bool)
  | faultReport (data : Data) (mark : Bool)
  | refusedReport (data : Data) (mark : Bool)
  | serviceLineQuiet
  deriving DecidableEq, Repr

end Sys2Proof
end

