-- ==== Sys2Proof/Decode.lean ====
section
/-! DEFINITION. The commands that words spell by the table's bits: none, since no row of spec/opcode_table.json gives bits. -/

namespace Sys2Proof

/-- The command a word of the table spells. A command of this block is an event, a frame, a request or a report word, which
carry their own layouts (Machine/Operands.lean); the table gives no row bits or fields. -/
def decodeTableWord (_nbits _w : Nat) : Option Instr := none

end Sys2Proof
end

