-- ==== Sys2Proof/Config.lean ====
section
/-! DEFINITION. The figures the reference fixes for every station, and the free values. -/

namespace Sys2Proof.Config

/-- Entries of the transmit queue (R49). -/
def queueSize : Nat := 16
/-- Free entries a CLAIM needs (R50). -/
def claimReserve : Nat := 4
/-- Failed attempts in a row that raise LINK FAULT (R47). -/
def linkFaultCount : Nat := 8
/-- The base gap, in bit times (ch. 3, 3.1). -/
def baseGap : Nat := 32
/-- A slot, in bit times (ch. 3, 3.1). -/
def slotBits : Nat := 4
/-- The rest that ends a frame, in bit times (R41). -/
def frameEndRest : Nat := 20
/-- The retry interval of a prober and the floor on demand, in ms (R28, R31). -/
def probeRetry : Nat := 10000
/-- Time between two asks of READ PRESSURE, in ms (R155). -/
def pollInterval : Nat := 50
/-- Failed supply waits in a row that take the station into FAULTED (R156). -/
def supplyFaultCount : Nat := 3
/-- The rework limit of a hole (R22). -/
def reworkLimit : Nat := 3
/-- The gap that ends an incomplete request, and the quiet that ends the ignoring of bytes, in ms (R176). -/
def serviceGap : Nat := 10
/-- The greatest length a request may state (R176). -/
def maxRequestLength : Nat := 512
/-- The highest rail position, in ju (R23, R60). -/
def railMax : Nat := 524287
/-- The highest cross position, in ju (R23). -/
def crossMax : Nat := 40000
/-- The highest plan x, in ju (R1, R3). -/
def planXMax : Nat := 400000
/-- The highest hole number (ch. 12, hole word). -/
def holeMax : Nat := 2047

/-- FREE VALUE (log entry 3). The request code echoed by the BAD-FORMAT answer to a request whose
length field is 0 or above 512: no code has been received and the reference states none (R176, R177).
The argument is `State.freeCount`, so each such answer has a value of its own. -/
opaque unreceivedCode : Nat → Byte

end Sys2Proof.Config
end

