-- ==== Sys2Proof/Machine/State.lean ====
section
/-! DEFINITION. The state of one H31 station, block by block, as plain data; the state after reset (power-on, R175, R188). -/

namespace Sys2Proof.Machine

open Sys2Proof (Byte Word Data Stamp Datum Side Instr)

/-! ### Names used by several blocks -/

/-- The two kinds of work on a hole. -/
inductive Phase where
  | drill | set
  deriving DecidableEq, Repr

/-- The station work state (R86). -/
inductive WorkState where
  | unconfigured | idle | waiting | working | finished | faulted | halted
  deriving DecidableEq, Repr

/-- A hole with the phase of the work on it (R94). -/
structure Claim where
  hole : Nat
  phase : Phase
  deriving DecidableEq, Repr

/-! ### Plan Store (ch. 1) -/

/-- The plan status (ch. 1, 1.2). -/
inductive PlanStatus where
  | invalid | loading | valid
  deriving DecidableEq, Repr

/-- How a group's visiting order is formed (R2, R8). -/
inductive OrderMode where
  | ascendingWrap | xorInterleaved
  deriving DecidableEq, Repr

/-- The plan header (R1). -/
structure PlanHeader where
  frameType : Nat
  holeCount : Nat
  groupCount : Nat
  xA : Nat
  yA : Nat
  xB : Nat
  yB : Nat
  check : Word
  deriving DecidableEq, Repr

/-- A group entry; its number is its key in the group table (R2). -/
structure GroupEntry where
  size : Nat
  order : OrderMode
  start : Nat
  deriving DecidableEq, Repr

/-- A hole entry of the plan; its number is its key in the hole list (R3). -/
structure PlanHole where
  x : Nat
  y : Nat
  group : Nat
  index : Nat
  nominal : Nat
  tolerance : Nat
  plies : Nat
  deriving DecidableEq, Repr

/-- The plan store. The keys of `groups` and `holes` are the record of loaded numbers (R5); both lists
are kept with keys strictly rising. -/
structure PlanStore where
  status : PlanStatus := .invalid
  header : Option PlanHeader := none
  groups : List (Nat × GroupEntry) := []
  holes : List (Nat × PlanHole) := []
  deriving DecidableEq, Repr

/-! ### The setup record (ch. 10, ch. 7) -/

/-- The setup's datum role (R27). -/
inductive DatumRole where
  | no | a | b
  deriving DecidableEq, Repr

/-- A grip class (R144). -/
structure GripClass where
  minStack : Nat
  maxStack : Nat
  rivet : Nat
  pressure : Nat
  draw : Nat
  minStroke : Nat
  maxStroke : Nat
  deriving DecidableEq, Repr

/-- The setup record, in the order of the table of R180; times in ms (ch. 12, 12.3). -/
structure Setup where
  station : Nat
  stations : Nat
  low : Nat
  high : Nat
  crossLimit : Nat
  railOrigin : Nat
  crossOrigin : Nat
  park : Nat
  gap : Nat
  hardGap : Nat
  role : DatumRole
  window : Nat
  datumLife : Nat
  scaleLimit : Nat
  skewLimit : Nat
  tolerance : Nat
  presenceInterval : Nat
  holdPeriod : Nat
  lapseMargin : Nat
  lossPeriod : Nat
  quota : Nat
  yieldPeriod : Nat
  capacity : Nat
  settleInterval : Nat
  drawLife : Nat
  supplyFloor : Nat
  pressureWait : Nat
  clampSettle : Nat
  ramRecovery : Nat
  responseTimeout : Nat
  travelTimeout : Nat
  drillTimeout : Nat
  squeezeTimeout : Nat
  otherTimeout : Nat
  te : Nat
  tx : Nat
  runK : Nat
  feedStep : Nat
  overtravel : Nat
  classes : List GripClass
  levels : List Nat
  deriving DecidableEq, Repr

/-! ### Hole Table (ch. 1) -/

/-- The state of a hole table entry (R10). -/
inductive HoleState where
  | planned | drillClaimed | drilled | setClaimed | set | rejected
  deriving DecidableEq, Repr

/-- Where a stack figure came from (R10). -/
inductive StackSource where
  | drill | gauge
  deriving DecidableEq, Repr

/-- The reject causes (R10). -/
inductive RejectCause where
  | obstructed | position | noHole | noEntry | noExit | feedEnded | stack | plies | grip | squeeze | abortCut | halt
  deriving DecidableEq, Repr

/-- A stack with its source: the source is present exactly when the stack is (R10). -/
structure Stack where
  value : Nat
  source : StackSource
  deriving DecidableEq, Repr

/-- A judged squeeze: the stroke is present with the peak (R10). -/
structure Squeeze where
  peak : Nat
  stroke : Nat
  deriving DecidableEq, Repr

/-- Reject cause and phase: the phase is present with the cause (R10). -/
structure Reject where
  cause : RejectCause
  phase : Phase
  deriving DecidableEq, Repr

/-- A hole table entry (R10). -/
structure HoleEntry where
  state : HoleState := .planned
  claimant : Option Nat := none
  drillWorker : Option Nat := none
  setWorker : Option Nat := none
  stack : Option Stack := none
  plies : Option Nat := none
  grip : Option Nat := none
  squeeze : Option Squeeze := none
  reject : Option Reject := none
  rework : Nat := 0
  owed : Bool := false
  deriving DecidableEq, Repr

/-! ### Position Unit (ch. 2) -/

/-- The status of a datum record (R23). -/
inductive DatumStatus where
  | absent | valid | expired
  deriving DecidableEq, Repr

/-- The fields of a datum record that are present in VALID and EXPIRED (R23). -/
structure DatumFix where
  r : Nat
  q : Nat
  source : Nat
  time : Nat
  stamp : Stamp
  deriving DecidableEq, Repr

/-- A datum record (R23): `fix` is present exactly when the status is not ABSENT. -/
structure DatumRecord where
  status : DatumStatus := .absent
  fix : Option DatumFix := none
  deriving DecidableEq, Repr

/-- The prober status (R27). -/
inductive ProberStatus where
  | current | due | inCycle | awaitingReadBack | retryWait
  deriving DecidableEq, Repr

/-- The prober record (R27): `measured` is the position between a successful sense and its read-back. -/
structure Prober where
  status : ProberStatus := .due
  retryDeadline : Option Nat := none
  measured : Option (Nat × Nat) := none
  deriving DecidableEq, Repr

/-- A VALID correction record (R32). -/
structure Correction where
  rA : Int
  s : Int
  oA : Int
  oB : Int
  xA : Int
  span : Int
  deriving DecidableEq, Repr

/-- The position unit. The correction is NONE as `none`; the concern set is `none` while not known (R37). -/
structure PositionUnit where
  datumA : DatumRecord := {}
  datumB : DatumRecord := {}
  prober : Option Prober := some {}
  correction : Option Correction := none
  concern : Option (List Nat) := none
  deriving DecidableEq, Repr

/-! ### Messages of the rail link (ch. 3, ch. 12) -/

/-- The contents of a PRESENCE (R53). -/
structure Presence where
  state : WorkState
  heldLeft : Bool
  heldRight : Bool
  requestedLeft : Bool
  requestedRight : Bool
  datumA : DatumStatus
  datumB : DatumStatus
  position : Nat
  target : Nat
  low : Nat
  high : Nat
  claim : Option Claim
  check : Word
  deriving DecidableEq, Repr

/-- The outcome of a REPORT (ch. 12, 12.1). -/
inductive ReportOutcome where
  | drilled | set | rejected (cause : RejectCause)
  deriving DecidableEq, Repr

/-- A REPORT: a ply count of 0 means that the stack came from a gauge (R16). -/
structure Report where
  hole : Nat
  phase : Phase
  outcome : ReportOutcome
  stack : Option Nat
  plies : Nat
  grip : Nat
  peak : Nat
  stroke : Nat
  deriving DecidableEq, Repr

/-- A CORRECTION (R14, R19, R20). -/
structure CorrectionMsg where
  hole : Nat
  rework : Bool
  asserted : HoleState
  worker : Nat
  stack : Option Stack
  grip : Option Nat
  reject : Option Reject
  deriving DecidableEq, Repr

/-- The action of a ZONE frame (R71). -/
inductive ZoneAction where
  | seize | release | request
  deriving DecidableEq, Repr

/-- The action of a DRAW frame (ch. 8). -/
inductive DrawAction where
  | intent | done | withdraw
  deriving DecidableEq, Repr

/-- What a frame says. `owed` is no frame: it stands among the held frames for HT's owed correction, which HT
builds from the entry when LC admits it (R49). -/
inductive Body where
  | presence (p : Presence)
  | datum (d : Datum) (rail cross : Nat) (check : Word)
  | claim (c : Claim)
  | release (c : Claim)
  | report (r : Report)
  | correction (m : CorrectionMsg)
  | zone (side : Side) (action : ZoneAction)
  | draw (action : DrawAction) (amount hole : Nat)
  | owed
  deriving DecidableEq, Repr

/-- The blocks that offer frames (R49); LC itself sends the presence slot. -/
inductive Owner where
  | lc | ht | pu | ws | cs | zc | du
  deriving DecidableEq, Repr

/-- A frame of the queue, held, or in an attempt. `id` names it for its owner (R51). `void` marks a frame whose
read-back its owner no longer acts on (R27, R85). `mark` is DU's count of own INTENT read-backs when it offered
the frame (R154, R158). -/
structure TxFrame where
  id : Nat
  owner : Owner
  body : Body
  void : Bool := false
  mark : Nat := 0
  deriving DecidableEq, Repr

/-- The attempt in progress: the frame and the bytes sent (R42, R46). -/
structure Attempt where
  frame : TxFrame
  bytes : List Byte
  deriving DecidableEq, Repr

/-- The link controller (ch. 3). `slot` is the presence slot's contents; `timer` is the next expiry of the
presence interval, `none` while the timer is stopped. `quiet` is the line's quiet time in bit times as last known,
`none` while the line is busy (R41). -/
structure LinkController where
  queue : List TxFrame := []
  held : List TxFrame := []
  attempt : Option Attempt := none
  slot : Option Presence := none
  due : Bool := false
  promoted : Bool := false
  timer : Option Nat := none
  stamp : Stamp := 0
  failures : Nat := 0
  recovery : Bool := false
  foreignTime : Option Nat := none
  rxBuffer : List Byte := []
  quiet : Option Nat := some 0
  nextId : Nat := 0
  deriving DecidableEq, Repr

/-! ### Peer Table (ch. 4) -/

/-- The status of a peer (R61). -/
inductive PeerStatus where
  | unknown | heard | silent | lost
  deriving DecidableEq, Repr

/-- The fields of a peer entry that a PRESENCE gives (R60). -/
structure PeerInfo where
  state : WorkState
  position : Nat
  target : Nat
  low : Nat
  high : Nat
  heldLeft : Bool
  heldRight : Bool
  requestedLeft : Bool
  requestedRight : Bool
  claim : Option Claim
  check : Word
  time : Nat
  deriving DecidableEq, Repr

/-- A peer entry: `info` is absent exactly in UNKNOWN (R60). -/
structure PeerEntry where
  status : PeerStatus := .unknown
  info : Option PeerInfo := none
  deriving DecidableEq, Repr

/-- The peer table: the entry of station j is at place j − 1; the station's own place stays UNKNOWN and is not read
(R60). `frozen` is the time at which ages stopped, on entry into HALTED (R62). -/
structure PeerTable where
  peers : List PeerEntry := List.replicate 8 {}
  conflict : Bool := false
  frozen : Option Nat := none
  deriving DecidableEq, Repr

/-! ### Zone Controller (ch. 4) -/

/-- The state of a zone (R69); `noZone` is NONE. -/
inductive ZoneState where
  | noZone | free | heldOwn | heldOther | requested | blocked | yielding
  deriving DecidableEq, Repr

/-- The own ZONE frame outstanding (R69). -/
inductive Outstanding where
  | no | seize | request
  deriving DecidableEq, Repr

/-- The release progress of a zone (R69). -/
inductive Progress where
  | no | due | retreating | sent
  deriving DecidableEq, Repr

/-- A zone record (R69) with its bounds (R68). `frameId` names the outstanding own frame in LC. A cleared stamp of own SEIZE, yield
deadline or bounds is absent, and every other cleared field none, clear or 0 (R85; DESIGN CHOICE, log entry 68). -/
structure ZoneRecord where
  state : ZoneState := .noZone
  pending : Bool := false
  cycles : Nat := 0
  laterSeize : Bool := false
  ownStamp : Option Stamp := none
  outstanding : Outstanding := .no
  frameId : Nat := 0
  progress : Progress := .no
  dual : Bool := false
  releaseHeard : Bool := false
  yieldDeadline : Option Nat := none
  bounds : Option (Nat × Nat) := none
  deriving DecidableEq, Repr

/-- The zone controller (ch. 4), with the three times of R81. -/
structure ZoneController where
  left : ZoneRecord := {}
  right : ZoneRecord := {}
  presenceBack : Option Nat := none
  idleEntry : Option Nat := none
  clearTime : Option Nat := none
  deriving DecidableEq, Repr

/-! ### Work Selector (ch. 5) -/

/-- What a selection works on (R93). -/
inductive Work where
  | hole (c : Claim)
  | datum
  deriving DecidableEq, Repr

/-- The stage of a selection (R93). -/
inductive SelStage where
  | seizeWait | claimQueued | claimWithdrawn | inCycle
  deriving DecidableEq, Repr

/-- The current selection (R93). `frameId` names its CLAIM in LC. -/
structure Selection where
  work : Work
  rail : Int
  cross : Int
  zone : Option Side
  stage : SelStage
  claimStamp : Option Stamp := none
  frameId : Nat := 0
  deriving DecidableEq, Repr

/-- The park status (R106). -/
inductive Park where
  | no | waitingForClearance | travelling
  deriving DecidableEq, Repr

/-- The work selector (ch. 5). `retest` is set within a command when HT or ZC reports a change to the selected
hole or zone (R100). -/
structure WorkSelector where
  state : WorkState := .unconfigured
  selection : Option Selection := none
  claim : Option Claim := none
  park : Park := .no
  jigOpened : Bool := false
  retest : Bool := false
  deriving DecidableEq, Repr

/-! ### Effector commands and the Cycle Sequencer (ch. 6) -/

/-- The effector commands (R111). -/
inductive Command where
  | travel (target : Nat)
  | slide (target : Nat)
  | sense
  | clamp
  | unclamp
  | drill (limit : Nat)
  | feedStop
  | gauge
  | squeeze (rivet pressure : Nat)
  | retract
  | stopMotion
  | readPressure
  | halt
  deriving DecidableEq, Repr

/-- The stages of a cycle (R118). -/
inductive Stage where
  | claiming | moving | sensing | gauging | clamping | cutting | budgeting | squeezing | retracting | reporting
  deriving DecidableEq, Repr

/-- The outcome of a cycle (R118, R125). -/
inductive CycleOutcome where
  | drilled (stack plies : Nat)
  | set (grip peak stroke : Nat)
  | rejected (cause : RejectCause) (measured : Option (Nat × Nat)) (grip : Option Nat) (squeeze : Option Squeeze)
  | foundDrilled
  | foundSet
  deriving DecidableEq, Repr

/-- The causes of an early ending (ch. 6, 6.5). -/
inductive EndCause where
  | jigOpen | clear | fault | abandon | zoneLost | orderLost
  deriving DecidableEq, Repr

/-- The actions an early ending may take (R128). -/
inductive EndAction where
  | stopMotion | feedStop | retract | unclamp
  deriving DecidableEq, Repr

/-- An early ending under way (R118, R128, R129). `stage` is the stage reached when it was taken, `todo` the actions
still to come, `void` that a frame cycle start has taken place since (R128). -/
structure Ending where
  cause : EndCause
  through : Bool
  stage : Stage
  todo : List EndAction
  void : Bool := false
  deriving DecidableEq, Repr

/-- What a cycle has asked of the effector port: nothing, a command still to be placed (`asked` once the three
checks of a TRAVEL have been made, R119), or a command placed and not yet ended. -/
inductive Task where
  | idle
  | toPlace (c : Command) (asked : Bool)
  | placed (c : Command)
  deriving DecidableEq, Repr

/-- A frame heard, with its sender and its line stamp. -/
structure Heard where
  sender : Nat
  body : Body
  stamp : Stamp
  deriving DecidableEq, Repr

/-- The cycle record (R118). `stopAsked` is PT's one STOP MOTION request for the TRAVEL in progress (R66);
`reposition` holds the corrected cross target still to be slid to (R121); `zone` is the zone the cycle was selected in
(R68); `grip` is the class kept (R122, R145), with its number; `left` are the frames left to HT until the cycle has ended (R104, R129). -/
structure Cycle where
  work : Work
  rail : Nat
  cross : Nat
  zone : Option Side := none
  stage : Stage
  senses : Nat := 0
  clamped : Bool := false
  outcome : Option CycleOutcome := none
  ending : Option Ending := none
  task : Task := .idle
  stopAsked : Bool := false
  reposition : Option Nat := none
  grip : Option (Nat × GripClass) := none
  left : List Heard := []
  deriving DecidableEq, Repr

/-- The owner of a lone motion (R127). -/
inductive LoneOwner where
  | retreat (side : Side)
  | park
  deriving DecidableEq, Repr

/-- How a lone motion is being ended (R127): `fault` when entry into FAULTED ended it (R170). -/
inductive LoneEnd where
  | plain | fault
  deriving DecidableEq, Repr

/-- A lone motion (R127): waiting for permission, or with its TRAVEL placed. -/
structure Lone where
  owner : LoneOwner
  target : Nat
  placed : Bool := false
  stopAsked : Bool := false
  ending : Option LoneEnd := none
  deriving DecidableEq, Repr

/-- The cycle sequencer (ch. 6). `interject` is an interjection asked for and not yet placed. -/
structure CycleSequencer where
  cycle : Option Cycle := none
  lone : Option Lone := none
  interject : Option Command := none
  lastClamp : Option Nat := none
  lastSqueeze : Option Nat := none
  deriving DecidableEq, Repr

/-! ### Effector Port (ch. 6) -/

/-- Where the transfer of the current command word stands (R109). -/
inductive Handshake where
  | ready | awaitingResume | awaitingRelease
  deriving DecidableEq, Repr

/-- Who asked for a command: the cycle, a lone motion, or EP itself for HALT (R110). -/
inductive PortUser where
  | cycle | lone | port
  deriving DecidableEq, Repr

/-- The command in transfer with its words still to send (R109). -/
structure Transfer where
  command : Command
  user : PortUser
  rest : List Word
  deriving DecidableEq, Repr

/-- The open stream (R109). `lastPosition` is the last POSITION received in it (R114). -/
structure OpenStream where
  command : Command
  user : PortUser
  lastPosition : Option Nat := none
  deriving DecidableEq, Repr

/-- The stopped mark (R109). -/
inductive Stopped where
  | no | stopMotion | feedStop
  deriving DecidableEq, Repr

/-- The effector port (R109), with its lines. `partialReport` holds the data of the words received so far of a
multi-word report; `ownPos` is the last position reported or reached since power-on; `haltWaiting` is set while HALT
waits to be placed, and `flagFell` is the time COMMAND FLAG last fell (R116). -/
structure EffectorPort where
  handshake : Handshake := .ready
  transfer : Option Transfer := none
  responseDeadline : Option Nat := none
  lastResume : Nat := 0
  stream : Option OpenStream := none
  partialReport : List Data := []
  deadline : Option Nat := none
  stopped : Stopped := .no
  discard : Bool := false
  haltedMark : Bool := false
  haltWaiting : Bool := false
  ownPos : Option Nat := none
  travelStart : Nat := 0
  commandLines : Word := 0
  commandFlag : Bool := false
  flagFell : Nat := 0
  taken : Bool := false
  deriving DecidableEq, Repr

/-! ### Stack Analyser (ch. 7) -/

/-- The status of the stream analysis record (R131). -/
inductive SaStatus where
  | no | seekingEntry | inStack | exited | limitReached | closed | failed
  deriving DecidableEq, Repr

/-- The stream analysis record (R131). Of "absent or zero" at power-on, the hole and the optional fields are absent and the other
fields zero (DESIGN CHOICE, log entry 64). -/
structure StackAnalyser where
  status : SaStatus := .no
  hole : Option Nat := none
  nominal : Nat := 0
  tolerance : Nat := 0
  expected : Nat := 0
  step : Nat := 0
  te : Nat := 0
  tx : Nat := 0
  runK : Nat := 0
  limit : Nat := 0
  analysed : Nat := 0
  entryDepth : Option Nat := none
  runStart : Option Nat := none
  runLength : Nat := 0
  interfaces : Nat := 0
  exitDepth : Option Nat := none
  feedStopAsked : Bool := false
  overrun : Nat := 0
  outcome : Option CycleOutcome := none
  deriving DecidableEq, Repr

/-! ### Draw Unit (ch. 8) -/

/-- A draw table entry (R147). -/
structure DrawEntry where
  amount : Nat
  hole : Nat
  stamp : Stamp
  time : Nat
  deriving DecidableEq, Repr

/-- The state of the own intent (ch. 8, 8.2). -/
inductive IntentState where
  | no | queued | settling | supplyCheck | allowed | squeezing | waiting
  deriving DecidableEq, Repr

/-- The own intent record (ch. 8, 8.2). R148 names no power-on value for the amount, the hole, the own stamp and the read-back
time: each is 0 (DESIGN CHOICE, log entry 58). `lastBelow`: the last PRESSURE report was below the floor (R155);
`pollAsked`: a READ PRESSURE is asked and not yet placed; `intentId`, `withdrawId`: the own frames in LC. -/
structure OwnIntent where
  state : IntentState := .no
  amount : Nat := 0
  hole : Nat := 0
  ownStamp : Stamp := 0
  readBack : Nat := 0
  announced : Bool := false
  settleDeadline : Option Nat := none
  waitDeadline : Option Nat := none
  supplyStart : Option Nat := none
  nextPoll : Option Nat := none
  lastBelow : Bool := false
  pollAsked : Bool := false
  intentId : Option Nat := none
  withdrawId : Option Nat := none
  deriving DecidableEq, Repr

/-- The draw unit (ch. 8): the entry of station j is at place j − 1 of the table. `intentBacks` counts the own
INTENT read-backs (R154, R158). -/
structure DrawUnit where
  table : List (Option DrawEntry) := List.replicate 8 none
  own : OwnIntent := {}
  supplyWaits : Nat := 0
  intentBacks : Nat := 0
  deriving DecidableEq, Repr

/-! ### Event Unit (ch. 9) -/

/-- The fourteen event sources, in the order of the table of R161. -/
inductive EventSource where
  | zoneGranted | zoneLapsed | neighbourLost | planMismatch | datumFault | datumExpired | holeRejected | supplyLow
  | linkFault | duplicateStation | effectorFault | clearanceHalt | finished | configConflict
  deriving DecidableEq, Repr

/-- The pending flag and occurrence count of a source (R161); its level is the setup's, or the default. -/
structure SourceRecord where
  pending : Bool := false
  count : Nat := 0
  deriving DecidableEq, Repr

/-- The kinds of effector failure (R113). -/
inductive FailKind where
  | noResume | timeout | fault (code : Nat) | refused | unsolicited | notReady
  deriving DecidableEq, Repr

/-- The check that failed for a CLEARANCE HALT (R166). -/
inductive HaltCheck where
  | hardGap (neighbour : Nat)
  | order (neighbour : Nat)
  | travelLimit
  deriving DecidableEq, Repr

/-- The source of a fault cause with its detail (R166). -/
inductive FaultSource where
  | linkFault | duplicateStation | effectorFault (kind : FailKind) | supplyLow | clearanceHalt (check : HaltCheck)
  deriving DecidableEq, Repr

/-- The fault cause record (R166). -/
structure FaultCause where
  source : FaultSource
  stateLeft : WorkState
  time : Nat
  cleared : Bool
  deriving DecidableEq, Repr

/-- The event unit (ch. 9); the sources stand in the order of R161. -/
structure EventUnit where
  sources : List SourceRecord := List.replicate 14 {}
  cause : Option FaultCause := none
  linkSuccess : Bool := false
  annunciator : Nat := 0
  deriving DecidableEq, Repr

/-! ### Service Port (ch. 10) -/

/-- The receive state (R176). -/
inductive RxState where
  | ready | receiving | answering
  deriving DecidableEq, Repr

/-- The service port (R176). `ignoring`: bytes are ignored until the line is quiet. `answer`: the bytes of the last
answer. `lastByte`: the time of the last byte. -/
structure ServicePort where
  rx : RxState := .ready
  ignoring : Bool := false
  buffer : List Byte := []
  answer : List Byte := []
  lastByte : Nat := 0
  deriving DecidableEq, Repr

/-! ### Lines -/

/-- Input levels and the two output lines of the station. A level whose other edge has no row of the table is held
as the time until which the last edge lasts (log entry 4). -/
structure Lines where
  jigClosed : Bool := false
  resetHighUntil : Nat := 0
  ackHighUntil : Nat := 0
  readyLowUntil : Nat := 0
  resume : Bool := false
  reportFlag : Bool := false
  mark : Bool := false
  finishedLine : Bool := false
  faultLine : Bool := false
  deriving DecidableEq, Repr

/-! ### The state -/

/-- The whole state of the station. -/
structure State where
  pending : List Instr := []
  clock : Nat := 0
  freeCount : Nat := 0
  lines : Lines := {}
  ps : PlanStore := {}
  setup : Option Setup := none
  ht : List HoleEntry := []
  pu : PositionUnit := {}
  lc : LinkController := {}
  pt : PeerTable := {}
  zc : ZoneController := {}
  ws : WorkSelector := {}
  cs : CycleSequencer := {}
  ep : EffectorPort := {}
  sa : StackAnalyser := {}
  du : DrawUnit := {}
  eu : EventUnit := {}
  sp : ServicePort := {}
  deriving DecidableEq, Repr

/-- The machine right after reset: power-on (R175, R188). The defaults of the structures above are the power-on
values of R4, R11, R23, R27, R32, R44, R47, R48, R52, R53, R62, R85, R86, R93, R109, R117, R118, R131, R148, R163,
R172, R176 and R179. -/
def State.reset : State := {}

/-- The reasons a step can stop with a fault. There are none: every command of the table has an effect in every
state, so no meaning raises one (safe). -/
inductive Fault where
  deriving DecidableEq, Repr

/-- The reasons a step can refuse a command. -/
inductive Refusal where
  /-- Raised only by `exec`'s arm of a command that has no meaning yet; this model has no such arm. Safe. -/
  | notModelled (mnemonic : String)
  deriving DecidableEq, Repr

end Sys2Proof.Machine
end

