-- ==== Sys2Proof/Machine/Bits.lean ====
section
/-! DEFINITION. Byte order, bit fields, the CRC-16 and the rounded division: the small arithmetic the wire formats and PU use. -/

namespace Sys2Proof.Machine

/-- A number in `n` bytes, most significant byte first (ch. 12). -/
def toBytes : Nat → Nat → List Byte
  | 0, _ => []
  | n + 1, v => toBytes n (v / 256) ++ [BitVec.ofNat 8 v]

/-- The number that bytes give, most significant byte first (ch. 12). -/
def ofBytes (bs : List Byte) : Nat := bs.foldl (fun v b => v * 256 + b.toNat) 0

/-- Bytes `a` to `b` of a frame as ch. 12 numbers them, taken from its content, whose first byte is byte 2. -/
def frameField (content : List Byte) (a b : Nat) : Nat := ofBytes ((content.drop (a - 2)).take (b + 1 - a))

/-- Bits `hi` to `lo` of a number. -/
def bits (v hi lo : Nat) : Nat := v / 2 ^ lo % 2 ^ (hi + 1 - lo)

/-- One flag as a number. -/
def flagNat (b : Bool) : Nat := if b then 1 else 0

/-- One shift of the CRC register (R189). -/
def crcShift (r : Word) : Word := if r.msb then (r <<< 1) ^^^ 0x1021#16 else r <<< 1

/-- One byte into the CRC register: combined into its high byte, then eight shifts (R189). -/
def crcByte (r : Word) (b : Byte) : Word :=
  crcShift (crcShift (crcShift (crcShift (crcShift (crcShift (crcShift (crcShift (r ^^^ (b.setWidth 16 <<< 8)))))))))

/-- The CRC-16 of bytes, the register starting at all ones (R189). -/
def crc16 (bs : List Byte) : Word := bs.foldl crcByte 0xFFFF#16

/-- A CRC as it is sent, high byte first (R189). -/
def crcBytes (bs : List Byte) : List Byte := toBytes 2 (crc16 bs).toNat

/-- The bytes before the last two, and whether the last two are their CRC (R55 check 1, R177 check 1). -/
def crcChecks (bs : List Byte) : Bool :=
  2 ≤ bs.length && bs.drop (bs.length - 2) == crcBytes (bs.take (bs.length - 2))

/-- Division rounded to the nearest integer, halves away from zero (R35); the divisor is positive. -/
def roundDiv (n d : Int) : Int :=
  let q : Int := (2 * n.natAbs + d.natAbs) / (2 * d.natAbs)
  if n < 0 then -q else q

/-- A 12-bit two's complement value, −2,048..2,047 (R111, ch. 12 12.2). -/
def signed12 (d : Data) : Int := d.toInt

/-- A signed value in four bytes, two's complement (ch. 12, 12.3). -/
def signedBytes (v : Int) : List Byte := toBytes 4 (BitVec.ofInt 32 v).toNat

/-- Division rounded up on the exact quotient (R132). -/
def ceilDiv (n d : Nat) : Nat := (n + d - 1) / d

/-- Stamp `a` is earlier than stamp `b` (R48). -/
def stampEarlier (a b : Stamp) : Bool :=
  let d := (b - a).toNat
  1 ≤ d && d ≤ 2 ^ 31 - 1

/-! ### Tables with rising keys -/

/-- The entry of a key. -/
def lookupKey {α : Type} (n : Nat) : List (Nat × α) → Option α
  | [] => none
  | (m, a) :: t => if m = n then some a else lookupKey n t

/-- Stores an entry under a key, replacing an earlier one, the keys kept strictly rising. -/
def insertKey {α : Type} (n : Nat) (a : α) : List (Nat × α) → List (Nat × α)
  | [] => [(n, a)]
  | (m, b) :: t => if n < m then (n, a) :: (m, b) :: t else if n = m then (n, a) :: t else (m, b) :: insertKey n a t

/-- The least number below `n` that satisfies `p`. -/
def leastBelow (n : Nat) (p : Nat → Bool) : Option Nat := (List.range n).find? p

end Sys2Proof.Machine
end

