-- ==== Sys2Proof/Machine/Operands.lean ====
section
/-! DEFINITION. The operands: rail link frames, effector words and service requests in the layouts of ch. 12, read and written. -/

namespace Sys2Proof.Machine

/-! ### Codes (ch. 12) -/

def Phase.code : Phase → Nat
  | .drill => 0 | .set => 1

/-- The work states as a PRESENCE codes them (ch. 12); UNCONFIGURED and HALTED are never sent. -/
def WorkState.code : WorkState → Nat
  | .unconfigured => 0 | .idle => 1 | .waiting => 2 | .working => 3 | .finished => 4 | .faulted => 5 | .halted => 6

def WorkState.ofCode : Nat → Option WorkState
  | 1 => some .idle | 2 => some .waiting | 3 => some .working | 4 => some .finished | 5 => some .faulted
  | _ => none

def DatumStatus.code : DatumStatus → Nat
  | .absent => 0 | .valid => 1 | .expired => 2

def DatumStatus.ofCode : Nat → Option DatumStatus
  | 0 => some .absent | 1 => some .valid | 2 => some .expired
  | _ => none

def RejectCause.code : RejectCause → Nat
  | .obstructed => 1 | .position => 2 | .noHole => 3 | .noEntry => 4 | .noExit => 5 | .feedEnded => 6
  | .stack => 7 | .plies => 8 | .grip => 9 | .squeeze => 10 | .abortCut => 11 | .halt => 12

def RejectCause.ofCode : Nat → Option RejectCause
  | 1 => some .obstructed | 2 => some .position | 3 => some .noHole | 4 => some .noEntry | 5 => some .noExit
  | 6 => some .feedEnded | 7 => some .stack | 8 => some .plies | 9 => some .grip | 10 => some .squeeze
  | 11 => some .abortCut | 12 => some .halt
  | _ => none

def HoleState.code : HoleState → Nat
  | .planned => 0 | .drillClaimed => 1 | .drilled => 2 | .setClaimed => 3 | .set => 4 | .rejected => 5

def HoleState.ofCode : Nat → Option HoleState
  | 0 => some .planned | 1 => some .drillClaimed | 2 => some .drilled | 3 => some .setClaimed | 4 => some .set
  | 5 => some .rejected
  | _ => none

def StackSource.code : StackSource → Nat
  | .drill => 0 | .gauge => 1

def ZoneAction.code : ZoneAction → Nat
  | .seize => 1 | .release => 2 | .request => 3

def DrawAction.code : DrawAction → Nat
  | .intent => 1 | .done => 2 | .withdraw => 3

def sideCode : Side → Nat
  | .left => 0 | .right => 1

def datumCode : Datum → Nat
  | .a => 1 | .b => 2

def OrderMode.code : OrderMode → Nat
  | .ascendingWrap => 0 | .xorInterleaved => 1

def DatumRole.code : DatumRole → Nat
  | .no => 0 | .a => 1 | .b => 2

/-! ### Frame kinds (R42) -/

/-- The kind code of a frame (R42); HT's placeholder stands for a CORRECTION. -/
def Body.kind : Body → Nat
  | .presence _ => 1 | .datum .. => 2 | .claim _ => 3 | .release _ => 4 | .report _ => 5 | .correction _ => 6
  | .zone .. => 7 | .draw .. => 8 | .owed => 6

/-- The length of a frame of a kind, in bytes; none for a code that is no kind (R42). -/
def kindLength : Nat → Option Nat
  | 1 => some 22 | 2 => some 11 | 3 => some 5 | 4 => some 5 | 5 => some 12 | 6 => some 10 | 7 => some 4 | 8 => some 7
  | _ => none

/-- The access class of a queued frame (R42). The presence slot's class is 2, or 1 when promoted (R54). -/
def Body.accessClass : Body → Nat
  | .presence _ => 2
  | .zone .. => 0
  | .draw .. => 0
  | _ => 1

/-! ### Frames written (ch. 12, 12.1) -/

/-- A hole word: the hole in bits 10..0, `top` in bit 15 (ch. 12). -/
def holeWord (hole top : Nat) : Nat := hole % 2048 + 32768 * (top % 2)

def claimWord (c : Claim) : Nat := holeWord c.hole c.phase.code

/-- A PRESENCE's claim word: bit 14 set when a claim is present (ch. 12). -/
def presenceClaimWord : Option Claim → Nat
  | none => 0
  | some c => claimWord c + 16384

def encodePresence (p : Presence) : List Byte :=
  toBytes 1 p.state.code
  ++ toBytes 1 (flagNat p.heldLeft + 2 * flagNat p.heldRight + 4 * flagNat p.requestedLeft + 8 * flagNat p.requestedRight)
  ++ toBytes 1 (p.datumA.code + 4 * p.datumB.code)
  ++ toBytes 3 p.position ++ toBytes 3 p.target ++ toBytes 3 p.low ++ toBytes 3 p.high
  ++ toBytes 2 (presenceClaimWord p.claim) ++ toBytes 2 p.check.toNat

def ReportOutcome.code : ReportOutcome → Nat
  | .drilled => 64 | .set => 128 | .rejected c => 192 + c.code

def encodeReport (r : Report) : List Byte :=
  toBytes 2 (holeWord r.hole r.phase.code)
  ++ toBytes 1 r.outcome.code
  ++ toBytes 2 (r.stack.getD 0)
  ++ toBytes 1 (128 * flagNat r.stack.isSome + 16 * (r.plies % 8) + r.grip % 8)
  ++ toBytes 3 (r.peak % 4096 * 4096 + r.stroke % 4096)

def encodeCorrection (m : CorrectionMsg) : List Byte :=
  toBytes 2 (holeWord m.hole (flagNat m.rework))
  ++ toBytes 1 (32 * m.asserted.code + m.worker % 16)
  ++ toBytes 2 ((m.stack.map (·.value)).getD 0)
  ++ toBytes 1 (128 * flagNat m.stack.isSome + 64 * ((m.stack.map (·.source.code)).getD 0)
      + 8 * flagNat m.grip.isSome + m.grip.getD 0 % 8)
  ++ toBytes 1 (match m.reject with
      | none => 0
      | some r => 128 * r.phase.code + r.cause.code)

/-- The content bytes of a frame, between its kind byte and its CRC (ch. 12, 12.1). -/
def Body.content : Body → List Byte
  | .presence p => encodePresence p
  | .datum d r q c => toBytes 1 (datumCode d) ++ toBytes 3 r ++ toBytes 2 q ++ toBytes 2 c.toNat
  | .claim c => toBytes 2 (claimWord c)
  | .release c => toBytes 2 (claimWord c)
  | .report r => encodeReport r
  | .correction m => encodeCorrection m
  | .zone side a => toBytes 1 (128 * sideCode side + a.code)
  | .draw a amount hole => toBytes 1 a.code ++ toBytes 1 amount ++ toBytes 2 hole
  | .owed => []

/-- A frame as it is sent by station `k`: kind and sender byte, content, CRC (R42). -/
def frameBytes (k : Nat) (b : Body) : List Byte :=
  let head := toBytes 1 (16 * b.kind + k % 16) ++ b.content
  head ++ crcBytes head

/-! ### Frames read (ch. 12, 12.1) -/

def Phase.ofBit (b : Bool) : Phase := if b then .set else .drill

/-- A value with a range: none above it (ch. 12: a frame whose field exceeds its range is ignored whole). -/
def atMost (v hi : Nat) : Option Nat := if v ≤ hi then some v else none

def decodeClaim (w : Nat) : Claim := { hole := w % 2048, phase := Phase.ofBit (w.testBit 15) }

def decodePresence (c : List Byte) : Option Presence := do
  let state ← WorkState.ofCode (frameField c 2 2)
  let flags := frameField c 3 3
  let dA ← DatumStatus.ofCode (bits (frameField c 4 4) 1 0)
  let dB ← DatumStatus.ofCode (bits (frameField c 4 4) 3 2)
  let position ← atMost (frameField c 5 7) Config.railMax
  let target ← atMost (frameField c 8 10) Config.railMax
  let low ← atMost (frameField c 11 13) Config.railMax
  let high ← atMost (frameField c 14 16) Config.railMax
  let cw := frameField c 17 18
  some { state, heldLeft := flags.testBit 0, heldRight := flags.testBit 1, requestedLeft := flags.testBit 2,
         requestedRight := flags.testBit 3, datumA := dA, datumB := dB, position, target, low, high,
         claim := if cw.testBit 14 then some (decodeClaim cw) else none,
         check := BitVec.ofNat 16 (frameField c 19 20) }

def decodeDatum (c : List Byte) : Option Body := do
  let d ← match frameField c 2 2 with
    | 1 => some Datum.a
    | 2 => some Datum.b
    | _ => none
  let r ← atMost (frameField c 3 5) Config.railMax
  let q ← atMost (frameField c 6 7) Config.crossMax
  some (.datum d r q (BitVec.ofNat 16 (frameField c 8 9)))

/-- The content of a REPORT. In DRILLED and SET the cause field means something as 0 alone; any other value has the frame ignored
whole (R189; DEDUCED, log entry 45). -/
def decodeReport (c : List Byte) : Option Report := do
  let w := decodeClaim (frameField c 2 3)
  let o := frameField c 4 4
  let outcome ← match o / 64, o % 16 with
    | 1, 0 => some ReportOutcome.drilled
    | 2, 0 => some ReportOutcome.set
    | 3, cause => (RejectCause.ofCode cause).map ReportOutcome.rejected
    | _, _ => none
  let b7 := frameField c 7 7
  let ps := frameField c 8 10
  some { hole := w.hole, phase := w.phase, outcome,
         stack := if b7.testBit 7 then some (frameField c 5 6) else none,
         plies := bits b7 6 4, grip := bits b7 2 0, peak := ps / 4096, stroke := ps % 4096 }

def decodeCorrection (c : List Byte) : Option CorrectionMsg := do
  let w := frameField c 2 3
  let rework := w.testBit 15
  let b4 := frameField c 4 4
  let asserted ← HoleState.ofCode (bits b4 7 5)
  -- R20: with the rework flag a CORRECTION asserts PLANNED or DRILLED and nothing else
  if rework && asserted != .planned && asserted != .drilled then none
  let worker ← atMost (bits b4 3 0) 8
  let b7 := frameField c 7 7
  let b8 := frameField c 8 8
  let reject ← if asserted = .rejected then
      (RejectCause.ofCode (b8 % 16)).map (fun cause => some { cause, phase := Phase.ofBit (b8.testBit 7) : Reject })
    else some none
  some { hole := w % 2048, rework, asserted, worker,
         stack := if b7.testBit 7 then
             some { value := frameField c 5 6, source := if b7.testBit 6 then .gauge else .drill } else none,
         grip := if b7.testBit 3 then some (bits b7 2 0) else none,
         reject }

def decodeZone (c : List Byte) : Option Body := do
  let b := frameField c 2 2
  let side : Side := if b.testBit 7 then .right else .left
  match b % 4 with
  | 1 => some (.zone side .seize)
  | 2 => some (.zone side .release)
  | 3 => some (.zone side .request)
  | _ => none

/-- A DRAW's content (ch. 12, 12.1, R189). A hole number above 2,047 makes the frame ignored whole, and one within 0..2,047 that the
plan does not have is taken: no rule gives the range of this frame's two-byte hole number (DESIGN CHOICE, log entry 75). -/
def decodeDraw (c : List Byte) : Option Body := do
  let hole ← atMost (frameField c 4 5) Config.holeMax
  match frameField c 2 2 with
  | 1 => some (.draw .intent (frameField c 3 3) hole)
  | 2 => some (.draw .done (frameField c 3 3) hole)
  | 3 => some (.draw .withdraw (frameField c 3 3) hole)
  | _ => none

/-- What the content of a frame of a kind says; none for a frame that its block ignores whole (ch. 12, R189). -/
def decodeBody (kind : Nat) (c : List Byte) : Option Body :=
  match kind with
  | 1 => (decodePresence c).map .presence
  | 2 => decodeDatum c
  | 3 => some (.claim (decodeClaim (frameField c 2 3)))
  | 4 => some (.release (decodeClaim (frameField c 2 3)))
  | 5 => (decodeReport c).map .report
  | 6 => (decodeCorrection c).map .correction
  | 7 => decodeZone c
  | 8 => decodeDraw c
  | _ => none

/-- A frame's kind code, sender and content (R42). -/
structure RawFrame where
  kind : Nat
  sender : Nat
  content : List Byte
  deriving DecidableEq, Repr

/-- The kind and length check of reception (R55 check 3) on a frame whose CRC has checked. -/
def splitFrame (bytes : List Byte) : Option RawFrame :=
  match bytes with
  | [] => none
  | b :: rest =>
    let kind := b.toNat / 16
    if kindLength kind = some bytes.length then
      some { kind, sender := b.toNat % 16, content := rest.take (rest.length - 2) }
    else none

/-! ### Effector words (ch. 12, 12.2) -/

/-- The code of a command (ch. 12). -/
def Command.code : Command → Nat
  | .travel _ => 1 | .slide _ => 2 | .sense => 3 | .clamp => 4 | .unclamp => 5 | .drill _ => 6 | .feedStop => 7
  | .gauge => 8 | .squeeze .. => 9 | .retract => 10 | .stopMotion => 11 | .readPressure => 12 | .halt => 15

/-- The argument of a command word (ch. 12). -/
def Command.argument : Command → Nat
  | .travel t => t / 65536 % 8
  | .drill n => n
  | .squeeze rivet _ => rivet
  | _ => 0

/-- The extension words of a command; `tol` is the setup's position tolerance (ch. 12). -/
def Command.extension (tol : Nat) : Command → List Word
  | .travel t => [BitVec.ofNat 16 t, BitVec.ofNat 16 tol]
  | .slide q => [BitVec.ofNat 16 q]
  | .squeeze _ p => [BitVec.ofNat 16 p]
  | _ => []

/-- The command word: code in bits 15..12, argument in bits 11..0 (ch. 12). -/
def Command.word (c : Command) : Word := BitVec.ofNat 16 (4096 * c.code + c.argument % 4096)

/-! ### Service framing (ch. 12, 12.3) -/

/-- The status codes of an answer (ch. 12). -/
inductive Status where
  | accepted | badFormat | badCheck | wrongState | badValue | range | causePresent | limit
  deriving DecidableEq, Repr

def Status.code : Status → Nat
  | .accepted => 0 | .badFormat => 1 | .badCheck => 2 | .wrongState => 3 | .badValue => 4 | .range => 5
  | .causePresent => 6 | .limit => 7

/-- The start byte of requests and answers (ch. 12). -/
def startByte : Byte := 0xA5#8

/-- The target of a rework (R22). -/
inductive ReworkTarget where
  | planned | drilled
  deriving DecidableEq, Repr

/-- The thirteen requests (R178). `count` is the grip class count byte as sent: the record holds at most eight. -/
inductive Request where
  | writeSetup (setup : Setup) (count : Nat)
  | readSetup
  | loadPlanHeader (h : PlanHeader)
  | loadPlanGroup (n : Nat) (g : GroupEntry)
  | loadPlanHole (n : Nat) (h : PlanHole)
  | commitPlan
  | readStatus
  | readHole (n : Nat)
  | readPeer (j : Nat)
  | readEvents
  | errorClear
  | stationClear
  | reworkHole (n : Nat) (target : ReworkTarget)
  deriving DecidableEq, Repr

/-- The payload length of a request code; none for a code that is no request (ch. 12). -/
def payloadLength : Nat → Option Nat
  | 1 => some 236 | 2 => some 0 | 3 => some 18 | 4 => some 4 | 5 => some 13 | 6 => some 0 | 7 => some 0 | 8 => some 2
  | 9 => some 1 | 10 => some 0 | 11 => some 0 | 12 => some 0 | 13 => some 3
  | _ => none

/-- Bytes `a` to `a + n − 1` of a payload, counted from 0. -/
def field (p : List Byte) (a n : Nat) : Nat := ofBytes ((p.drop a).take n)

/-- Scalar `i` (from 0) of a WRITE SETUP payload: three bytes (ch. 12). -/
def scalar (p : List Byte) (i : Nat) : Nat := field p (3 * i) 3

/-- Grip class slot `i` of a WRITE SETUP payload: 13 bytes from offset 118 (ch. 12). -/
def decodeClass (p : List Byte) (i : Nat) : GripClass :=
  let o := 118 + 13 * i
  { minStack := field p o 2, maxStack := field p (o + 2) 2, rivet := field p (o + 4) 2, pressure := field p (o + 6) 2,
    draw := field p (o + 8) 1, minStroke := field p (o + 9) 2, maxStroke := field p (o + 11) 2 }

/-- The setup record of a WRITE SETUP payload; none when the datum role's code is undefined (R177 check 4). -/
def decodeSetup (p : List Byte) : Option Setup := do
  let f := scalar p
  let role ← match f 10 with
    | 0 => some DatumRole.no
    | 1 => some DatumRole.a
    | 2 => some DatumRole.b
    | _ => none
  some { station := f 0, stations := f 1, low := f 2, high := f 3, crossLimit := f 4, railOrigin := f 5,
         crossOrigin := f 6, park := f 7, gap := f 8, hardGap := f 9, role, window := f 11, datumLife := f 12,
         scaleLimit := f 13, skewLimit := f 14, tolerance := f 15, presenceInterval := f 16, holdPeriod := f 17,
         lapseMargin := f 18, lossPeriod := f 19, quota := f 20, yieldPeriod := f 21, capacity := f 22,
         settleInterval := f 23, drawLife := f 24, supplyFloor := f 25, pressureWait := f 26, clampSettle := f 27,
         ramRecovery := f 28, responseTimeout := f 29, travelTimeout := f 30, drillTimeout := f 31,
         squeezeTimeout := f 32, otherTimeout := f 33, te := f 34, tx := f 35, runK := f 36, feedStep := f 37,
         overtravel := f 38,
         classes := (List.range (min (field p 117 1) 8)).map (decodeClass p),
         levels := (List.range 14).map (fun i => field p (222 + i) 1) }

/-- The scalars of a setup record in the order of R180. -/
def Setup.scalars (c : Setup) : List Nat :=
  [c.station, c.stations, c.low, c.high, c.crossLimit, c.railOrigin, c.crossOrigin, c.park, c.gap, c.hardGap,
   c.role.code, c.window, c.datumLife, c.scaleLimit, c.skewLimit, c.tolerance, c.presenceInterval, c.holdPeriod,
   c.lapseMargin, c.lossPeriod, c.quota, c.yieldPeriod, c.capacity, c.settleInterval, c.drawLife, c.supplyFloor,
   c.pressureWait, c.clampSettle, c.ramRecovery, c.responseTimeout, c.travelTimeout, c.drillTimeout,
   c.squeezeTimeout, c.otherTimeout, c.te, c.tx, c.runK, c.feedStep, c.overtravel]

/-- The fields of a grip class slot with their widths (ch. 12). -/
def GripClass.fields (g : GripClass) : List (Nat × Nat) :=
  [(2, g.minStack), (2, g.maxStack), (2, g.rivet), (2, g.pressure), (1, g.draw), (2, g.minStroke), (2, g.maxStroke)]

def GripClass.bytes (g : GripClass) : List Byte := g.fields.flatMap fun f => toBytes f.1 f.2

/-- A setup record in the layout of the WRITE SETUP payload (R183, ch. 12). -/
def Setup.bytes (c : Setup) : List Byte :=
  c.scalars.flatMap (toBytes 3)
  ++ toBytes 1 c.classes.length
  ++ c.classes.flatMap GripClass.bytes
  ++ List.replicate (13 * (8 - c.classes.length)) 0#8
  ++ c.levels.flatMap (toBytes 1)

def PlanHeader.bytes16 (h : PlanHeader) : List Byte :=
  toBytes 2 h.frameType ++ toBytes 2 h.holeCount ++ toBytes 2 h.groupCount ++ toBytes 3 h.xA ++ toBytes 2 h.yA
  ++ toBytes 3 h.xB ++ toBytes 2 h.yB

/-- A LOAD PLAN GROUP payload (ch. 12). -/
def groupBytes (n : Nat) (g : GroupEntry) : List Byte :=
  toBytes 1 n ++ toBytes 1 g.size ++ toBytes 1 g.order.code ++ toBytes 1 g.start

/-- A LOAD PLAN HOLE payload (ch. 12). -/
def holeBytes (n : Nat) (h : PlanHole) : List Byte :=
  toBytes 2 n ++ toBytes 3 h.x ++ toBytes 2 h.y ++ toBytes 1 h.group ++ toBytes 1 h.index ++ toBytes 2 h.nominal
  ++ toBytes 1 h.tolerance ++ toBytes 1 h.plies

/-- The request that a code and payload give; none when a coded field holds an undefined code (R177 check 4). -/
def decodeRequest (code : Nat) (p : List Byte) : Option Request :=
  match code with
  | 1 => (decodeSetup p).map (fun c => .writeSetup c (field p 117 1))
  | 2 => some .readSetup
  | 3 => some (.loadPlanHeader
      { frameType := field p 0 2, holeCount := field p 2 2, groupCount := field p 4 2, xA := field p 6 3,
        yA := field p 9 2, xB := field p 11 3, yB := field p 14 2, check := BitVec.ofNat 16 (field p 16 2) })
  | 4 =>
    match field p 2 1 with
    | 0 => some (.loadPlanGroup (field p 0 1) { size := field p 1 1, order := .ascendingWrap, start := field p 3 1 })
    | 1 => some (.loadPlanGroup (field p 0 1) { size := field p 1 1, order := .xorInterleaved, start := field p 3 1 })
    | _ => none
  | 5 => some (.loadPlanHole (field p 0 2)
      { x := field p 2 3, y := field p 5 2, group := field p 7 1, index := field p 8 1, nominal := field p 9 2,
        tolerance := field p 11 1, plies := field p 12 1 })
  | 6 => some .commitPlan
  | 7 => some .readStatus
  | 8 => some (.readHole (field p 0 2))
  | 9 => some (.readPeer (field p 0 1))
  | 10 => some .readEvents
  | 11 => some .errorClear
  | 12 => some .stationClear
  | 13 =>
    match field p 2 1 with
    | 0 => some (.reworkHole (field p 0 2) .planned)
    | 2 => some (.reworkHole (field p 0 2) .drilled)
    | _ => none
  | _ => none

/-- The request code of a complete request: its fourth byte (ch. 12). -/
def requestCode (bytes : List Byte) : Byte := (bytes[3]?).getD 0#8

/-- Checks 1 to 4 of R177 on a complete request, in their order. -/
def parseRequest (bytes : List Byte) : Except Status Request :=
  if !crcChecks bytes then .error .badCheck
  else
    let code := (requestCode bytes).toNat
    let payload := (bytes.drop 4).take (bytes.length - 6)
    if payloadLength code = some payload.length then
      match decodeRequest code payload with
      | some r => .ok r
      | none => .error .badFormat
    else .error .badFormat

/-- A request as the terminal sends it (ch. 12, 12.3). -/
def requestBytes (code : Nat) (payload : List Byte) : List Byte :=
  let head := [startByte] ++ toBytes 2 (payload.length + 1) ++ toBytes 1 code ++ payload
  head ++ crcBytes head

/-- The codes of a rework target (ch. 12). -/
def ReworkTarget.code : ReworkTarget → Nat
  | .planned => 0 | .drilled => 2

/-- The code of a request (ch. 12, 12.3). -/
def Request.code : Request → Nat
  | .writeSetup .. => 1 | .readSetup => 2 | .loadPlanHeader _ => 3 | .loadPlanGroup .. => 4 | .loadPlanHole .. => 5
  | .commitPlan => 6 | .readStatus => 7 | .readHole _ => 8 | .readPeer _ => 9 | .readEvents => 10 | .errorClear => 11
  | .stationClear => 12 | .reworkHole .. => 13

/-- The payload of a request (ch. 12, 12.3). -/
def Request.payload : Request → List Byte
  | .writeSetup c _ => c.bytes
  | .loadPlanHeader h => h.bytes16 ++ toBytes 2 h.check.toNat
  | .loadPlanGroup n g => groupBytes n g
  | .loadPlanHole n h => holeBytes n h
  | .readHole n => toBytes 2 n
  | .readPeer j => toBytes 1 j
  | .reworkHole n target => toBytes 2 n ++ toBytes 1 target.code
  | .readSetup | .commitPlan | .readStatus | .readEvents | .errorClear | .stationClear => []

/-- The bytes of a request, from its start byte to its CRC (ch. 12, 12.3). -/
def Request.bytes (r : Request) : List Byte := requestBytes r.code r.payload

/-- An answer: the request code as received, the status, the data, closed by its CRC (R177, ch. 12). -/
def answerBytes (code : Byte) (st : Status) (data : List Byte) : List Byte :=
  let head := [startByte] ++ toBytes 2 (data.length + 2) ++ [code] ++ toBytes 1 st.code ++ data
  head ++ crcBytes head

end Sys2Proof.Machine
end

