-- ==== Sys2Proof/Machine/Flags.lean ====
section
/-! DEFINITION. The flags the station shows: the fourteen event sources, the annunciator, ACK, and the FINISHED and FAULT lines (ch. 9, R86). -/

namespace Sys2Proof.Machine

/-- The place of a source in the table of R161. -/
def EventSource.index : EventSource → Nat
  | .zoneGranted => 0 | .zoneLapsed => 1 | .neighbourLost => 2 | .planMismatch => 3 | .datumFault => 4
  | .datumExpired => 5 | .holeRejected => 6 | .supplyLow => 7 | .linkFault => 8 | .duplicateStation => 9
  | .effectorFault => 10 | .clearanceHalt => 11 | .finished => 12 | .configConflict => 13

/-- The default levels of R161. -/
def defaultLevels : List Nat := [1, 4, 5, 5, 5, 3, 3, 4, 6, 6, 6, 7, 1, 5]

/-- The levels in force: the setup's, or the defaults while the setup is not VALID (R163). -/
def State.levels (s : State) : List Nat :=
  match s.setup with
  | none => defaultLevels
  | some c => c.levels

/-- The highest level among pending sources, 0 when none is pending (R164). -/
def highestPending (levels : List Nat) (sources : List SourceRecord) : Nat :=
  ((levels.zip sources).map fun p => if p.2.pending then p.1 else 0).foldl max 0

/-- EU sets the annunciator afresh (R164). -/
def State.annunciate (s : State) : State :=
  { s with eu.annunciator := highestPending s.levels s.eu.sources }

/-- One raising of a source (R162). -/
def SourceRecord.raised (level : Nat) (r : SourceRecord) : SourceRecord :=
  { pending := r.pending || decide (0 < level), count := min 255 (r.count + 1) }

/-- A block raises a source: counted, pending when its level is above 0, the annunciator following (R162, R164).
The station state effect of R161 is made by the block's caller. -/
def State.raise (e : EventSource) (s : State) : State :=
  State.annunciate
    { s with eu.sources := s.eu.sources.modify e.index (SourceRecord.raised (s.levels.getD e.index 0)) }

/-- An ACK pulse: every source whose level is the level shown loses its pending flag; at level 0 nothing happens (R165). -/
def State.acknowledge (s : State) : State :=
  if s.eu.annunciator = 0 then s
  else
    let shown := s.eu.annunciator
    let sources := (s.levels.zip s.eu.sources).map fun p => if p.1 = shown then { p.2 with pending := false } else p.2
    State.annunciate { s with eu.sources := sources }

/-- The effect of new levels on the pending flags: a source whose level is 0 loses its flag (R163). -/
def State.relevel (s : State) : State :=
  let sources := (s.levels.zip s.eu.sources).map fun p => if p.1 = 0 then { p.2 with pending := false } else p.2
  State.annunciate { s with eu.sources := sources }

/-- Station clear at EU: every pending flag clear, the counts kept, no fault cause, link success mark clear (R163, R174). -/
def State.clearEvents (s : State) : State :=
  State.annunciate
    { s with eu.sources := s.eu.sources.map (fun r => { r with pending := false }), eu.cause := none,
             eu.linkSuccess := false }

/-- WS takes a work state; the FINISHED line is driven in FINISHED, the FAULT line in FAULTED and HALTED
(R86, R168, R171). -/
def State.setWork (w : WorkState) (s : State) : State :=
  { s with ws.state := w, lines.finishedLine := decide (w = .finished),
           lines.faultLine := decide (w = .faulted) || decide (w = .halted) }

end Sys2Proof.Machine
end

