-- ==== Sys2Proof/Machine/Ops.lean ====
section
/-! DEFINITION. The shared operations: the setup in force, time, own position, peers, LC's queue, and the hole table's entries. -/

namespace Sys2Proof.Machine

/-! ### The setup in force -/

/-- What a setup field reads as while the setup is INVALID. The station is UNCONFIGURED then and no rule consults a
setup value, so nothing rests on these zeros. -/
def blankSetup : Setup :=
  { station := 0, stations := 0, low := 0, high := 0, crossLimit := 0, railOrigin := 0, crossOrigin := 0, park := 0,
    gap := 0, hardGap := 0, role := .no, window := 0, datumLife := 0, scaleLimit := 0, skewLimit := 0, tolerance := 0,
    presenceInterval := 0, holdPeriod := 0, lapseMargin := 0, lossPeriod := 0, quota := 0, yieldPeriod := 0,
    capacity := 0, settleInterval := 0, drawLife := 0, supplyFloor := 0, pressureWait := 0, clampSettle := 0,
    ramRecovery := 0, responseTimeout := 0, travelTimeout := 0, drillTimeout := 0, squeezeTimeout := 0,
    otherTimeout := 0, te := 0, tx := 0, runK := 0, feedStep := 0, overtravel := 0, classes := [], levels := [] }

/-- The setup in force. -/
def State.cfg (s : State) : Setup := s.setup.getD blankSetup

/-- This station's number. -/
def State.k (s : State) : Nat := s.cfg.station

/-! ### Station states -/

/-- IDLE, WAITING, WORKING, FINISHED and FAULTED: the states in which LC sends and checks whole, PT and ZC keep
their records and a station clear acts (R56, R59, R61, R174). -/
def WorkState.online : WorkState → Bool
  | .idle | .waiting | .working | .finished | .faulted => true
  | .unconfigured | .halted => false

/-- WAITING, WORKING, FINISHED and FAULTED: the states in which every frame kind is sent and dispatched (R59) and the
hard checks are made (R67). -/
def WorkState.active : WorkState → Bool
  | .waiting | .working | .finished | .faulted => true
  | .unconfigured | .idle | .halted => false

/-! ### Time -/

/-- A timer's command never acts before its time: the clock is at least the time it names. -/
def State.reach (t : Nat) (s : State) : State := { s with clock := max s.clock t }

/-- EFFECTOR READY's level: inactive while the last fall lasts. -/
def State.effectorReady (s : State) : Bool := decide (s.lines.readyLowUntil ≤ s.clock)

/-- An interval measured from a time; one measured from none has run out (R117). -/
def intervalOver (last : Option Nat) (d clock : Nat) : Bool :=
  match last with
  | none => true
  | some t => decide (t + d ≤ clock)

/-! ### Own position -/

/-- The own position: the last one reported or reached, or the setup's park position (R109, R114). -/
def State.own (s : State) : Nat := s.ep.ownPos.getD s.cfg.park

/-- The rail target of the cycle's TRAVEL in progress, from its issue on (R66). -/
def State.cycleTravel (s : State) : Option Nat :=
  s.cs.cycle.bind fun cy => match cy.task with
    | .placed (.travel t) => some t
    | _ => none

/-- The rail target of a lone motion's TRAVEL in progress, from its issue on (R66, R127). -/
def State.loneTravel (s : State) : Option Nat := s.cs.lone.bind fun l => if l.placed then some l.target else none

/-- The rail target of the TRAVEL in progress (R53, R66). -/
def State.travelTarget (s : State) : Option Nat := s.cycleTravel <|> s.loneTravel

/-! ### Peers and neighbours -/

/-- The existing adjacent neighbour on a side (R60). -/
def Setup.neighbour (c : Setup) : Side → Option Nat
  | .left => if 1 < c.station then some (c.station - 1) else none
  | .right => if c.station < c.stations then some (c.station + 1) else none

/-- The existing adjacent neighbours (R60). -/
def Setup.neighbours (c : Setup) : List Nat := (c.neighbour .left).toList ++ (c.neighbour .right).toList

/-- The side an adjacent neighbour is on. -/
def Setup.sideOf (c : Setup) (j : Nat) : Option Side :=
  if c.neighbour .left = some j then some .left
  else if c.neighbour .right = some j then some .right
  else none

/-- The peer entry of station j (R60). -/
def State.peer (s : State) (j : Nat) : PeerEntry := s.pt.peers.getD (j - 1) {}

def State.setPeer (j : Nat) (e : PeerEntry) (s : State) : State := { s with pt.peers := s.pt.peers.set (j - 1) e }

/-- What the neighbour on a side last said. -/
def State.sideInfo (s : State) (side : Side) : Option PeerInfo :=
  (s.cfg.neighbour side).bind fun j => (s.peer j).info

/-- The occupied interval of a peer (R64). -/
def PeerInfo.interval (i : PeerInfo) : Nat × Nat := (min i.position i.target, max i.position i.target)

/-- The distance between two intervals (R64). -/
def intervalGap (a b : Nat × Nat) : Nat :=
  if a.2 < b.1 then b.1 - a.2 else if b.2 < a.1 then a.1 - b.2 else 0

/-- An interval is inside a zone when it shares at least one position with it (R64). -/
def intervalInside (a z : Nat × Nat) : Bool := decide (a.1 ≤ z.2) && decide (z.1 ≤ a.2)

/-- A path keeps the minimum gap from every existing adjacent neighbour; a neighbour not yet heard fails the check
(R64, R65, R66). -/
def State.pathClear (s : State) (p t : Nat) : Bool :=
  s.cfg.neighbours.all fun j =>
    match (s.peer j).info with
    | none => false
    | some i => decide (s.cfg.gap ≤ intervalGap (min p t, max p t) i.interval)

/-- PT's answer on a TRAVEL to a rail target (R65). -/
def State.permitted (s : State) (t : Nat) : Bool := s.pathClear s.own t

/-- The hard gap check against one neighbour (R67). -/
def State.hardGapFails (s : State) (j : Nat) : Bool :=
  match (s.peer j).info with
  | none => false
  | some i => decide (max i.position s.own - min i.position s.own < s.cfg.hardGap)

/-- The order check against one neighbour (R67). -/
def State.orderFails (s : State) (j : Nat) : Bool :=
  match (s.peer j).info with
  | none => false
  | some i => if j < s.k then decide (s.own ≤ i.position) else decide (i.position ≤ s.own)

/-- The hard check that fails, if any: the hard gap before the order, the left neighbour before the right (R67). -/
def State.hardCheck (s : State) : Option HaltCheck :=
  match s.cfg.neighbours.find? s.hardGapFails with
  | some j => some (.hardGap j)
  | none => (s.cfg.neighbours.find? s.orderFails).map .order

/-- Every existing adjacent neighbour has been heard at least once (R60, R90). -/
def State.neighboursHeard (s : State) : Bool := s.cfg.neighbours.all fun j => decide ((s.peer j).status ≠ .unknown)

/-! ### The plan's check word -/

/-- The plan check word of the plan held (R1). -/
def State.planCheck (s : State) : Word := (s.ps.header.map (·.check)).getD 0

/-! ### The hole table's entries (R10) -/

def State.entry? (s : State) (h : Nat) : Option HoleEntry := s.ht[h]?

/-- The hole and phase of some work; none for a datum (R93, R118). -/
def Work.claim? : Work → Option Claim
  | .hole c => some c
  | .datum => none

/-- The hole WS has selected (R93). -/
def State.selectedHole (s : State) : Option Nat := s.ws.selection.bind fun sel => sel.work.claim?.map (·.hole)

/-- The selection's CLAIM is queued, and its read-back may open a cycle (R93, R101). -/
def State.claimQueued (s : State) : Bool := (s.ws.selection.map fun sel => decide (sel.stage = .claimQueued)).getD false

/-- A lone motion may be begun: no cycle is in flight, and none can open while it goes on (R127; DEDUCED, log entry 60). -/
def State.motionFree (s : State) : Bool := s.cs.cycle.isNone && !s.claimQueued

/-- HT writes an entry; a change to the selected hole is reported to WS (R10, R100). -/
def State.putEntry (h : Nat) (e : HoleEntry) (s : State) : State :=
  if s.ht[h]? = some e then s
  else { s with ht := s.ht.set h e, ws.retest := s.ws.retest || decide (s.selectedHole = some h) }

/-- Every entry through one change, with the report to WS (R10). -/
def State.mapEntries (f : HoleEntry → HoleEntry) (s : State) : State :=
  (List.range s.ht.length).foldl
    (fun s h => match s.ht[h]? with
      | none => s
      | some e => s.putEntry h (f e)) s

/-- The claimed forms (R10). -/
def HoleState.claimed : HoleState → Bool
  | .drillClaimed | .setClaimed => true
  | .planned | .drilled | .set | .rejected => false

/-- The terminal states (R10). -/
def HoleState.terminal : HoleState → Bool
  | .set | .rejected => true
  | .planned | .drillClaimed | .drilled | .setClaimed => false

/-- Claimed by station m. -/
def HoleEntry.claimedBy (e : HoleEntry) (m : Nat) : Bool := e.state.claimed && decide (e.claimant = some m)

/-- DRILL-CLAIMED becomes PLANNED and SET-CLAIMED becomes DRILLED, drill worker and stack kept (R15, R128). -/
def HoleEntry.revert (e : HoleEntry) : HoleEntry :=
  match e.state with
  | .drillClaimed => { e with state := .planned, claimant := none }
  | .setClaimed => { e with state := .drilled, claimant := none }
  | .planned | .drilled | .set | .rejected => e

/-- The CORRECTION that states an entry (R14). R14 names a worker for claimed, DRILLED, SET and REJECTED entries alone; the CORRECTION of
an owed entry that stands PLANNED by the time it is queued carries worker 0 (DESIGN CHOICE, log entry 76). -/
def HoleEntry.correction (h : Nat) (e : HoleEntry) : CorrectionMsg :=
  { hole := h, rework := false, asserted := e.state,
    worker := match e.state with
      | .planned => 0
      | .drillClaimed | .setClaimed => e.claimant.getD 0
      | .drilled => e.drillWorker.getD 0
      | .set => e.setWorker.getD 0
      | .rejected => e.drillWorker.getD 0
    stack := e.stack,
    grip := if e.state = .set then e.grip else none,
    reject := e.reject }

/-! ### LC's queue (R49 to R51) -/

/-- A frame enters the queue behind the frames of its class and of lower classes (R49). -/
def insertByClass (f : TxFrame) : List TxFrame → List TxFrame
  | [] => [f]
  | g :: q => if g.body.accessClass ≤ f.body.accessClass then g :: insertByClass f q else f :: g :: q

/-- The held frame LC admits next: lowest class, held longest (R49). -/
def nextHeld (held : List TxFrame) : Option TxFrame :=
  match held.find? (fun f => f.body.accessClass = 0) with
  | some f => some f
  | none => held.head?

/-- The lowest-numbered entry with correction owed (R14). -/
def State.lowestOwed (s : State) : Option Nat := s.ht.findIdx? (·.owed)

/-- Queues the CORRECTION of an owed entry as it stands; correction owed returns to no, a change to the entry like any
other (R10, R14). -/
def State.queueOwed (h : Nat) (s : State) : State :=
  match s.ht[h]? with
  | none => s
  | some e =>
    let f : TxFrame := { id := s.lc.nextId, owner := .ht, body := .correction (e.correction h) }
    State.putEntry h { e with owed := false }
      { s with lc.queue := insertByClass f s.lc.queue, lc.nextId := s.lc.nextId + 1 }

/-- LC admits one held frame while the queue has room (R49). HT's held correction is built now, from the entry. -/
def State.admitOne (s : State) : State :=
  if s.lc.queue.length < Config.queueSize then
    match nextHeld s.lc.held with
    | none => s
    | some f =>
      let s := { s with lc.held := s.lc.held.erase f }
      match f.body with
      | .owed =>
        match s.lowestOwed with
        | some h => s.queueOwed h
        | none => s
      | _ => { s with lc.queue := insertByClass f s.lc.queue }
  else s

/-- A state function done a number of times. -/
def repeatState (f : State → State) : Nat → State → State
  | 0, s => s
  | n + 1, s => repeatState f n (f s)

/-- LC admits held frames for the room there is (R49). -/
def State.admitHeld (s : State) : State := repeatState State.admitOne s.lc.held.length s

/-- HT's owed corrections: queued in ascending hole number while there is room; otherwise HT holds one place (R14, R49). -/
def State.offerOwed (s : State) : State :=
  let s := repeatState
    (fun s => if s.lc.queue.length < Config.queueSize && s.lc.held.isEmpty then
        match s.lowestOwed with
        | some h => s.queueOwed h
        | none => s
      else s) s.ht.length s
  match s.lowestOwed with
  | none => { s with lc.held := s.lc.held.filter (fun f => f.body != .owed) }
  | some _ =>
    if s.lc.held.any (fun f => f.body == .owed) then s
    else { s with lc.held := s.lc.held ++ [{ id := s.lc.nextId, owner := .ht, body := .owed }], lc.nextId := s.lc.nextId + 1 }

/-- A block offers a frame: admitted at once while the queue holds fewer than 16, held otherwise (R49). The frame's
`id` is the `nextId` before the offer. -/
def State.offer (owner : Owner) (b : Body) (s : State) : State :=
  let f : TxFrame := { id := s.lc.nextId, owner, body := b, mark := s.du.intentBacks }
  if s.lc.queue.length < Config.queueSize then
    { s with lc.queue := insertByClass f s.lc.queue, lc.nextId := s.lc.nextId + 1 }
  else { s with lc.held := s.lc.held ++ [f], lc.nextId := s.lc.nextId + 1 }

/-- An attempt at the frame is in progress: LC answers IN FLIGHT (R51). -/
def State.inFlight (id : Nat) (s : State) : Bool :=
  match s.lc.attempt with
  | some a => decide (a.frame.id = id)
  | none => false

/-- The owner asks LC to remove a frame; nothing changes when LC answers IN FLIGHT (R51). -/
def State.removeFrame (id : Nat) (s : State) : State :=
  if s.inFlight id then s
  else State.admitHeld
    { s with lc.queue := s.lc.queue.filter (fun f => f.id != id), lc.held := s.lc.held.filter (fun f => f.id != id) }

/-- The owner asks LC to replace a frame's content with one of the same class; nothing changes when LC answers
IN FLIGHT (R51). -/
def State.replaceFrame (id : Nat) (b : Body) (s : State) : State :=
  if s.inFlight id then s
  else
    let sub := fun f : TxFrame => if f.id = id then { f with body := b } else f
    { s with lc.queue := s.lc.queue.map sub, lc.held := s.lc.held.map sub }

/-- The frame is queued or held. -/
def State.frameKept (id : Nat) (s : State) : Bool :=
  s.lc.queue.any (fun f => f.id == id) || s.lc.held.any (fun f => f.id == id)

/-- The attempt in progress, if its frame meets a test, will not be acted on at its read-back (R27, R85). The queued
copy of the frame, which is sent again should the attempt fail, is marked with it. -/
def State.voidInFlight (p : Body → Bool) (s : State) : State :=
  match s.lc.attempt with
  | some a =>
    if p a.frame.body then
      { s with lc.attempt := some { a with frame := { a.frame with void := true } },
               lc.queue := s.lc.queue.map (fun f => if f.id = a.frame.id then { f with void := true } else f) }
    else s
  | none => s

end Sys2Proof.Machine
end

