-- ==== Sys2Proof/Machine/Plan.lean ====
section
/-! DEFINITION. The Plan Store: loading, commit validation, and the group visiting order (ch. 1, 1.1 to 1.3). -/

namespace Sys2Proof.Machine

/-! ### Group visiting order (R8, R9) -/

/-- The index in group visited at an order position (R8). -/
def GroupEntry.visitedAt (g : GroupEntry) (p : Nat) : Nat :=
  match g.order with
  | .ascendingWrap => (g.start + p) % g.size
  | .xorInterleaved => Nat.xor g.start p

/-- The order position of the hole with an index (R8). -/
def GroupEntry.positionOf (g : GroupEntry) (i : Nat) : Nat :=
  match g.order with
  | .ascendingWrap => (i + (g.size - g.start % g.size)) % g.size
  | .xorInterleaved => Nat.xor i g.start

/-- The hole count of the header held; 0 while none is. -/
def PlanStore.holeCount (p : PlanStore) : Nat := (p.header.map (·.holeCount)).getD 0

/-- The group count of the header held; 0 while none is. -/
def PlanStore.groupCount (p : PlanStore) : Nat := (p.header.map (·.groupCount)).getD 0

/-- The hole of a group with an index. -/
def PlanStore.holeWith (p : PlanStore) (group index : Nat) : Option Nat :=
  (p.holes.find? fun e => e.2.group = group && e.2.index = index).map (·.1)

/-- The predecessor of a hole; none at order position 0 or while the plan is not VALID (R9). -/
def PlanStore.predecessor (p : PlanStore) (h : Nat) : Option Nat := do
  if p.status ≠ .valid then none
  let hole ← lookupKey h p.holes
  let g ← lookupKey hole.group p.groups
  match g.positionOf hole.index with
  | 0 => none
  | n + 1 => p.holeWith hole.group (g.visitedAt n)

/-- The members of a hole's group in visiting order; none while the plan is not VALID (R9). -/
def PlanStore.members (p : PlanStore) (h : Nat) : List Nat :=
  if p.status = .valid then
    match lookupKey h p.holes with
    | none => []
    | some hole =>
      match lookupKey hole.group p.groups with
      | none => []
      | some g => (List.range g.size).filterMap fun q => p.holeWith hole.group (g.visitedAt q)
  else []

/-! ### Commit (R6, R7) -/

/-- The bytes the plan CRC is taken over (R7). -/
def PlanStore.bytes (p : PlanStore) : List Byte :=
  (p.header.map PlanHeader.bytes16).getD []
  ++ p.groups.flatMap (fun e => groupBytes e.1 e.2)
  ++ p.holes.flatMap (fun e => holeBytes e.1 e.2)

/-- A failed check of COMMIT PLAN (R6). -/
structure CommitFault where
  check : Nat
  status : Status
  number : Option Nat
  deriving DecidableEq, Repr

/-- Check 3 on the datum positions. -/
def PlanHeader.datumsInRange (h : PlanHeader) : Bool :=
  decide (h.xA ≤ Config.planXMax) && decide (h.xB ≤ Config.planXMax) && decide (h.yA ≤ Config.crossMax)
  && decide (h.yB ≤ Config.crossMax)

/-- Check 3 on a hole. -/
def PlanHole.positionInRange (h : PlanHole) : Bool := decide (h.x ≤ Config.planXMax) && decide (h.y ≤ Config.crossMax)

/-- Check 5 on a group. -/
def GroupEntry.sizeInRange (g : GroupEntry) : Bool :=
  decide (1 ≤ g.size) && decide (g.size ≤ 16) && decide (g.start < g.size)

/-- Check 6 on a group. -/
def GroupEntry.modeAgrees (g : GroupEntry) : Bool :=
  match g.order with
  | .ascendingWrap => true
  | .xorInterleaved => [2, 4, 8, 16].contains g.size

/-- Check 7 on a hole. -/
def PlanHole.stackInRange (h : PlanHole) : Bool :=
  decide (40 ≤ h.nominal) && decide (h.nominal ≤ 2000) && decide (1 ≤ h.tolerance) && decide (h.tolerance ≤ 200)
  && decide (h.plies ≤ 6)

/-- Check 8 on a group: exactly `size` member holes, their indices distinct and below `size`. -/
def PlanStore.groupFilled (p : PlanStore) (n : Nat) (g : GroupEntry) : Bool :=
  let indices := (p.holes.filter fun e => e.2.group = n).map (·.2.index)
  decide (indices.length = g.size) && decide indices.Nodup && indices.all (· < g.size)

/-- The first failing check of COMMIT PLAN, with the lowest number at fault; none when all pass (R6). -/
def PlanStore.commitFault (p : PlanStore) : Option CommitFault :=
  match p.header with
  | none => some { check := 1, status := .badValue, number := none }
  | some h =>
    let badGroup := fun (ok : Nat → GroupEntry → Bool) => (p.groups.find? fun e => !ok e.1 e.2).map (·.1)
    let badHole := fun (ok : PlanHole → Bool) => (p.holes.find? fun e => !ok e.2).map (·.1)
    match leastBelow h.groupCount (fun n => (lookupKey n p.groups).isNone) with
    | some n => some { check := 1, status := .badValue, number := some n }
    | none =>
    match leastBelow h.holeCount (fun n => (lookupKey n p.holes).isNone) with
    | some n => some { check := 2, status := .badValue, number := some n }
    | none =>
    if !h.datumsInRange || (badHole PlanHole.positionInRange).isSome then
      some { check := 3, status := .range, number := badHole PlanHole.positionInRange }
    else if h.xB < h.xA + 20000 then some { check := 4, status := .range, number := none }
    else
    match badGroup (fun _ g => g.sizeInRange) with
    | some n => some { check := 5, status := .range, number := some n }
    | none =>
    match badGroup (fun _ g => g.modeAgrees) with
    | some n => some { check := 6, status := .badValue, number := some n }
    | none =>
    match badHole PlanHole.stackInRange with
    | some n => some { check := 7, status := .range, number := some n }
    | none =>
    match badGroup p.groupFilled with
    | some n => some { check := 8, status := .badValue, number := some n }
    | none =>
    if crc16 p.bytes = h.check then none else some { check := 9, status := .badCheck, number := none }

/-- LOAD PLAN HEADER at PS: the header stored, every entry discarded, the status LOADING (R4). -/
def PlanStore.withHeader (h : PlanHeader) : PlanStore := { status := .loading, header := some h }

/-- LOAD PLAN GROUP at PS (R2, R5). -/
def PlanStore.withGroup (n : Nat) (g : GroupEntry) (p : PlanStore) : PlanStore := { p with groups := insertKey n g p.groups }

/-- LOAD PLAN HOLE at PS (R3, R5). -/
def PlanStore.withHole (n : Nat) (h : PlanHole) (p : PlanStore) : PlanStore := { p with holes := insertKey n h p.holes }

/-- The hole table as COMMIT PLAN and frame cycle start build it (R11). -/
def PlanStore.freshTable (p : PlanStore) : List HoleEntry := List.replicate p.holeCount {}

/-- The set order condition of a hole (R96). -/
def State.setOrder (s : State) (h : Nat) : Bool :=
  let ready := fun m => match s.ht[m]? with
    | some e => [HoleState.drilled, .setClaimed, .set, .rejected].contains e.state
    | none => false
  let done := fun m => match s.ht[m]? with
    | some e => e.state.terminal
    | none => false
  (s.ps.members h).all ready && ((s.ps.predecessor h).map done).getD true

end Sys2Proof.Machine
end

