-- ==== Sys2Proof/Machine/Position.lean ====
section
/-! DEFINITION. The Position Unit: datum records, the prober, the correction, targets and the concern (ch. 2). -/

namespace Sys2Proof.Machine

/-! ### Limits and targets (R36, R37, R40) -/

/-- A rail position lies within the travel limits (R40). -/
def Setup.withinTravel (c : Setup) (x : Int) : Bool := decide ((c.low : Int) ≤ x) && decide (x ≤ c.high)

/-- A cross position lies within 0..cross limit (R40). -/
def Setup.withinCross (c : Setup) (q : Int) : Bool := decide (0 ≤ q) && decide (q ≤ c.crossLimit)

/-- The rail and cross target of a hole under a correction (R36). -/
def Correction.target (m : Correction) (h : PlanHole) : Int × Int :=
  let d : Int := h.x - m.xA
  (m.rA + d + roundDiv (d * m.s) 1000000, h.y + m.oA + roundDiv ((m.oB - m.oA) * d) m.span)

/-- The target of a hole; none while the correction is NONE (R36). -/
def State.target? (s : State) (h : Nat) : Option (Int × Int) :=
  s.pu.correction.bind fun m => (lookupKey h s.ps.holes).map m.target

/-- A target lies in the concern (R37). -/
def Setup.concerns (c : Setup) (t : Int × Int) : Bool :=
  decide (0 ≤ t.1) && decide (t.1 ≤ Config.railMax) && c.withinTravel t.1 && c.withinCross t.2

/-- The concern set under the correction: every plan hole in ascending number (R37); not known while it is NONE. -/
def State.concernNow (s : State) : Option (List Nat) :=
  s.pu.correction.map fun m =>
    (s.ps.holes.filter fun e => s.cfg.concerns (m.target e.2)).map (·.1)

/-- PU computes the concern set again (R33, R37). -/
def State.reconcern (s : State) : State := { s with pu.concern := s.concernNow }

/-- A hole lies in the concern set last reported. -/
def State.inConcern (s : State) (h : Nat) : Bool :=
  match s.pu.concern with
  | none => false
  | some l => l.contains h

/-! ### Datum records -/

def PositionUnit.record (u : PositionUnit) : Datum → DatumRecord
  | .a => u.datumA
  | .b => u.datumB

def State.setRecord (d : Datum) (r : DatumRecord) (s : State) : State :=
  match d with
  | .a => { s with pu.datumA := r }
  | .b => { s with pu.datumB := r }

/-- The datum of the setup's role (R27). -/
def DatumRole.datum : DatumRole → Option Datum
  | .no => none
  | .a => some .a
  | .b => some .b

/-- The own datum record: the record of the datum named by the role (R28). -/
def State.ownRecord (s : State) : Option DatumRecord := s.cfg.role.datum.map s.pu.record

/-- The figures of R34, before its limit checks. -/
def rawCorrection (h : PlanHeader) (fa fb : DatumFix) : Correction :=
  let span : Int := h.xB - h.xA
  { rA := fa.r, s := roundDiv (((fb.r : Int) - fa.r - span) * 1000000) span, oA := (fa.q : Int) - h.yA,
    oB := (fb.q : Int) - h.yB, xA := h.xA, span }

/-- The two limit checks of R34. -/
def Setup.acceptsCorrection (c : Setup) (m : Correction) : Bool :=
  decide (m.s.natAbs ≤ c.scaleLimit) && decide ((m.oB - m.oA).natAbs ≤ c.skewLimit)

/-- PU computes the correction afresh: NONE when a record is not VALID, NONE with DATUM FAULT when a limit check
fails; the concern set follows (R33, R34). -/
def State.computeCorrection (s : State) : State :=
  match s.ps.header, s.pu.datumA, s.pu.datumB with
  | some h, ⟨.valid, some fa⟩, ⟨.valid, some fb⟩ =>
    let m := rawCorrection h fa fb
    if s.cfg.acceptsCorrection m then State.reconcern { s with pu.correction := some m }
    else State.reconcern (State.raise .datumFault { s with pu.correction := none })
  | _, _, _ => State.reconcern { s with pu.correction := none }

/-- A DATUM heard, or the own one read back, replaces its record (R24, R30). -/
def State.applyDatum (d : Datum) (r q source : Nat) (stamp : Stamp) (s : State) : State :=
  State.computeCorrection
    (s.setRecord d { status := .valid, fix := some { r, q, source, time := s.clock, stamp } })

/-- Both records become ABSENT and the correction NONE (R23, R32). -/
def State.dropDatums (s : State) : State :=
  { s with pu.datumA := {}, pu.datumB := {}, pu.correction := none, pu.concern := none }

/-! ### The prober (R27 to R31) -/

/-- A prober's record takes a status, a retry deadline and a measured position; a station with role NONE has none (R27). R27 lists the
retry deadline without saying when there is one: it is absent in every status but RETRY WAIT (DESIGN CHOICE, log entry 77). -/
def State.setProber (st : ProberStatus) (deadline : Option Nat) (measured : Option (Nat × Nat)) (s : State) : State :=
  match s.pu.prober with
  | none => s
  | some _ => { s with pu.prober := some { status := st, retryDeadline := deadline, measured } }

def State.proberStatus (s : State) : Option ProberStatus := s.pu.prober.map (·.status)

/-- CURRENT becomes DUE (R28); every other status is kept. -/
def State.proberDue (s : State) : State :=
  if s.proberStatus = some .current then s.setProber .due none none else s

/-- The datum cycle failed: RETRY WAIT, the deadline 10 s ahead, and DATUM FAULT (R29, R30). -/
def State.probeFailed (s : State) : State :=
  State.raise .datumFault (s.setProber .retryWait (some (s.clock + Config.probeRetry)) none)

/-- A VALID record becomes EXPIRED: DATUM EXPIRED raised, the correction NONE, and a CURRENT prober of that datum DUE
(R25, R28, R33). -/
def State.expireDatum (d : Datum) (s : State) : State :=
  let r := s.pu.record d
  if r.status = .valid then
    let s := State.computeCorrection (State.raise .datumExpired (s.setRecord d { r with status := .expired }))
    if s.cfg.role.datum = some d then s.proberDue else s
  else s

/-- The age of a record; none when it is ABSENT. -/
def State.datumAge (s : State) (r : DatumRecord) : Option Nat := r.fix.map fun f => s.clock - f.time

/-- The own record is VALID and its age is below three quarters of the datum life (R28, R31). -/
def State.ownRecordYoung (s : State) : Bool :=
  match s.ownRecord with
  | some ⟨.valid, some f⟩ => decide (4 * (s.clock - f.time) < 3 * s.cfg.datumLife)
  | _ => false

/-- Demand on a prober: a PRESENCE with the same plan check, in WAITING or WORKING, that lacks the prober's datum,
while the own record is at least 10 s old (R28). -/
def State.demand (p : Presence) (s : State) : State :=
  match s.cfg.role.datum, s.ownRecord with
  | some d, some ⟨_, some f⟩ =>
    let lacks := match d with
      | .a => p.datumA
      | .b => p.datumB
    if p.check = s.planCheck && (p.state == .waiting || p.state == .working) && lacks != .valid
        && decide (Config.probeRetry ≤ s.clock - f.time) then s.proberDue
    else s
  | _, _ => s

/-- The targets of the datum cycle, from the plan and the setup (R29). -/
def State.datumTargets (s : State) : Option (Int × Int) :=
  match s.cfg.role.datum, s.ps.header with
  | some .a, some h => some ((s.cfg.railOrigin + h.xA : Nat), (s.cfg.crossOrigin + h.yA : Nat))
  | some .b, some h => some ((s.cfg.railOrigin + h.xB : Nat), (s.cfg.crossOrigin + h.yB : Nat))
  | _, _ => none

/-- The kinds of a SENSE report (ch. 12, 12.2). -/
inductive SenseKind where
  | noHole | openHole | headPresent | obstructed
  deriving DecidableEq, Repr

/-- PU judges the SENSE of a datum cycle: success keeps the measured position and queues a DATUM, anything else is a
failure (R30). -/
def State.judgeDatum (rail cross : Nat) (kind : SenseKind) (dx dy : Int) (s : State) : State :=
  let r : Int := rail + dx
  let q : Int := cross + dy
  match s.cfg.role.datum with
  | none => s
  | some d =>
    if kind = .openHole && decide (dx.natAbs ≤ s.cfg.window) && decide (dy.natAbs ≤ s.cfg.window)
        && decide (0 ≤ r) && decide (r ≤ Config.railMax) && decide (0 ≤ q) && decide (q ≤ Config.crossMax) then
      State.offer .pu (.datum d r.toNat q.toNat s.planCheck)
        (s.setProber .awaitingReadBack none (some (r.toNat, q.toNat)))
    else s.probeFailed

/-- The own DATUM read back: applied to its record, the prober CURRENT (R30). -/
def State.datumBack (d : Datum) (r q : Nat) (stamp : Stamp) (s : State) : State :=
  let s := s.applyDatum d r q s.k stamp
  if s.cfg.role.datum = some d then s.setProber .current none none else s

/-- The retry deadline has passed (R31), and is absent once RETRY WAIT is left (DESIGN CHOICE, log entry 77). -/
def State.retry (s : State) : State :=
  s.setProber (if s.ownRecordYoung then .current else .due) none none

/-- PU removes its queued DATUM frames (R27): those no attempt has begun, and one queued again after its attempt failed (DEDUCED, log
entry 81). -/
def State.removeDatums (s : State) : State :=
  let ids := ((s.lc.queue ++ s.lc.held).filter (fun f => f.owner = .pu)).map (·.id)
  ids.foldl (fun s id => s.removeFrame id) s

/-- The prober at JIG OPEN and at station clear: IN CYCLE and AWAITING READ-BACK become DUE (R27). The measured position, which
R27 has discarded by name only at frame cycle start and at entry into UNCONFIGURED, is discarded here as well (DEDUCED, log entry 71). -/
def State.proberReset (s : State) : State :=
  match s.proberStatus with
  | some .inCycle => s.setProber .due none none
  | some .awaitingReadBack => s.setProber .due none none
  | _ => s

/-- The prober record after a write of the setup (R27, R182). -/
def proberAfterWrite (old : Option DatumRole) (role : DatumRole) (p : Option Prober) : Option Prober :=
  if role = .no then none
  else if old = some role then p
  else some {}

end Sys2Proof.Machine
end

