-- ==== Sys2Proof/Machine/Stack.lean ====
section
/-! DEFINITION. The Stack Analyser: the thrust stream, stack and ply checks, grip classes and the squeeze's judgement (ch. 7). -/

namespace Sys2Proof.Machine

/-- The class of a thrust sample (R134). -/
inductive ThrustClass where
  | high | mid | low
  deriving DecidableEq, Repr

/-- Classes a sample against the thresholds of the record (R134). -/
def StackAnalyser.classOf (a : StackAnalyser) (v : Nat) : ThrustClass :=
  if a.te ≤ v then .high else if v < a.tx then .low else .mid

/-- The sample limit of a DRILL (R132). -/
def sampleLimit (c : Setup) (h : PlanHole) : Nat := ceilDiv (h.nominal + h.tolerance + c.overtravel) c.feedStep

/-- A new analysis (R133). -/
def openAnalysis (c : Setup) (n : Nat) (h : PlanHole) : StackAnalyser :=
  { status := .seekingEntry, hole := some n, nominal := h.nominal, tolerance := h.tolerance, expected := h.plies,
    step := c.feedStep, te := c.te, tx := c.tx, runK := c.runK, limit := sampleLimit c h }

/-- An unmarked sample in SEEKING ENTRY, already counted (R136). An entry at the limit-th sample leaves the status IN STACK,
which R139 makes LIMIT REACHED. -/
def StackAnalyser.seek (cls : ThrustClass) (a : StackAnalyser) : StackAnalyser :=
  if cls = .high then
    { a with status := if a.analysed = a.limit then .limitReached else .inStack,
             entryDepth := some (a.analysed * a.step), runLength := 0 }
  else if a.analysed = a.limit then { a with status := .limitReached }
  else a

/-- The low runs, in IN STACK (R137). -/
def StackAnalyser.follow (cls : ThrustClass) (a : StackAnalyser) : StackAnalyser :=
  match cls with
  | .low =>
    if a.runLength = 0 then { a with runStart := some a.analysed, runLength := 1 }
    else { a with runLength := a.runLength + 1 }
  | .high =>
    if a.runLength = 0 then a
    else { a with interfaces := min 6 (a.interfaces + 1), runLength := 0, runStart := none }
  | .mid => if a.runLength = 0 then a else { a with runLength := 0, runStart := none }

/-- An unmarked sample in IN STACK, already counted: the exit at K, or the limit (R137 to R139). Run start and run length stay as
they are once the exit is confirmed (DEDUCED, log entry 65). -/
def StackAnalyser.inStackSample (cls : ThrustClass) (a : StackAnalyser) : StackAnalyser :=
  let a := a.follow cls
  if cls = .low && a.runLength = a.runK then
    { a with status := .exited, exitDepth := a.runStart.map (· * a.step), feedStopAsked := true }
  else if a.analysed = a.limit then { a with status := .limitReached }
  else a

/-- An unmarked sample (R135 to R139). -/
def StackAnalyser.sample (v : Nat) (a : StackAnalyser) : StackAnalyser :=
  match a.status with
  | .seekingEntry => { a with analysed := a.analysed + 1 }.seek (a.classOf v)
  | .inStack => { a with analysed := a.analysed + 1 }.inStackSample (a.classOf v)
  | .exited => { a with overrun := min 4095 (a.overrun + 1) }
  | .limitReached => { a with overrun := min 4095 (a.overrun + 1), feedStopAsked := true }
  | .no | .closed | .failed => a

/-- The stack and ply checks of a stream closed in EXITED (R141). -/
def StackAnalyser.judge (a : StackAnalyser) : CycleOutcome :=
  let stack := a.exitDepth.getD 0 - a.entryDepth.getD 0
  let plies := a.interfaces + 1
  if a.tolerance < max stack a.nominal - min stack a.nominal then .rejected .stack (some (stack, plies)) none none
  else if a.expected ≠ 0 ∧ a.expected ≠ plies then .rejected .plies (some (stack, plies)) none none
  else .drilled stack plies

/-- The trailing sample: SA's outcome by the status held (R140). -/
def StackAnalyser.close (a : StackAnalyser) : StackAnalyser :=
  match a.status with
  | .seekingEntry => { a with status := .closed, outcome := some (.rejected .noEntry none none none) }
  | .limitReached =>
    let cause := if a.entryDepth.isNone then RejectCause.noEntry else .noExit
    { a with status := .closed, outcome := some (.rejected cause none none none) }
  | .inStack => { a with status := .closed, outcome := some (.rejected .feedEnded none none none) }
  | .exited => { a with status := .closed, outcome := some a.judge }
  | .no | .closed | .failed => a

/-- An analysis in progress becomes FAILED (R131, R142). -/
def StackAnalyser.fail (a : StackAnalyser) : StackAnalyser :=
  match a.status with
  | .seekingEntry | .inStack | .exited | .limitReached => { a with status := .failed }
  | .no | .closed | .failed => a

/-- The gauged stack differs from the nominal by no more than the tolerance (R143). -/
def PlanHole.gaugePasses (h : PlanHole) (v : Nat) : Bool := decide (max v h.nominal - min v h.nominal ≤ h.tolerance)

/-- The grip class that serves a stack, with its number (R145). -/
def gripFor (classes : List GripClass) (stack : Nat) : Option (Nat × GripClass) :=
  ((List.range classes.length).zip classes).find? fun p => decide (p.2.minStack ≤ stack) && decide (stack ≤ p.2.maxStack)

/-- The judgement of a SQUEEZE report (R146). -/
def judgeSqueeze (n : Nat) (g : GripClass) (peak stroke : Nat) : CycleOutcome :=
  if peak * 100 < g.pressure * 95 ∨ stroke < g.minStroke ∨ g.maxStroke < stroke then
    .rejected .squeeze none (some n) (some { peak, stroke })
  else .set n peak stroke

end Sys2Proof.Machine
end

