-- ==== Sys2Proof/Machine/Link.lean ====
section
/-! DEFINITION. The Link Controller: the presence slot, the candidate, attempts and their ends, and the queue through resets (ch. 3). -/

namespace Sys2Proof.Machine

/-! ### The presence slot (R53, R54) -/

/-- The contents of a PRESENCE, each taken from the block that owns it (R53, R69). -/
def State.presenceNow (s : State) : Presence :=
  { state := s.ws.state,
    heldLeft := decide (s.zc.left.state = .heldOwn), heldRight := decide (s.zc.right.state = .heldOwn),
    requestedLeft := decide (s.zc.left.state = .requested), requestedRight := decide (s.zc.right.state = .requested),
    datumA := s.pu.datumA.status, datumB := s.pu.datumB.status,
    position := s.own, target := s.travelTarget.getD s.own,
    low := s.cfg.low, high := s.cfg.high, claim := s.ws.claim, check := s.planCheck }

/-- The presence interval expires: the slot refreshed and due, promoted if it was due already (R53, R54). -/
def State.presenceExpires (s : State) : State :=
  { s with lc.slot := some s.presenceNow, lc.promoted := s.lc.promoted || s.lc.due, lc.due := true,
           lc.timer := some (s.clock + s.cfg.presenceInterval) }

/-! ### The candidate and its deferral (R43 to R45) -/

/-- What LC would send next. -/
inductive Candidate where
  | presence
  | queued (f : TxFrame)
  deriving DecidableEq, Repr

/-- The head of the queue, where the station state lets queued frames go (R59). -/
def State.sendableHead (s : State) : Option TxFrame := if s.ws.state.active then s.lc.queue.head? else none

/-- LC's one candidate frame (R43, R59). -/
def State.candidate (s : State) : Option Candidate :=
  if !s.ws.state.online then none
  else
    match s.sendableHead with
    | none => if s.lc.due then some .presence else none
    | some f =>
      if s.lc.due && s.lc.promoted && f.body.accessClass != 0 then some .presence else some (.queued f)

/-- The access class of the candidate (R42, R54). -/
def State.candidateClass (s : State) : Candidate → Nat
  | .presence => if s.lc.promoted then 1 else 2
  | .queued f => f.body.accessClass

/-- The deferral of the candidate in bit times (R44). -/
def State.deferral (s : State) (c : Candidate) : Nat :=
  Config.baseGap + Config.slotBits * (8 * s.candidateClass c + (s.k - 1) + 8 * flagNat s.lc.recovery)

/-- The quiet time lets LC begin: the deferral, or a later slot boundary (R45). -/
def State.mayBegin (s : State) (c : Candidate) (quiet : Nat) : Bool :=
  decide (s.deferral c ≤ quiet) && decide ((quiet - Config.baseGap) % Config.slotBits = 0)

/-- The frame LC sends for a candidate; a PRESENCE is refreshed at the start of its attempt (R53). -/
def State.candidateFrame (s : State) : Candidate → TxFrame
  | .presence => { id := s.lc.nextId, owner := .lc, body := .presence s.presenceNow }
  | .queued f => f

/-- LC begins sending the candidate: the recovery mark goes to 0 (R44), the first byte and the CRC are formed now (R42), and
its start bit ends the quiet (R41). -/
def State.beginAttempt (c : Candidate) (s : State) : State :=
  let f := s.candidateFrame c
  { s with lc.attempt := some { frame := f, bytes := frameBytes s.k f.body }, lc.recovery := false, lc.quiet := none,
           lc.slot := match c with
             | .presence => some s.presenceNow
             | .queued _ => s.lc.slot
           lc.nextId := match c with
             | .presence => s.lc.nextId + 1
             | .queued _ => s.lc.nextId }

/-- The line has been quiet for a time; while this station sends, the line is busy (R41). -/
def State.quietFor (quiet : Nat) (s : State) : State :=
  if s.lc.attempt.isSome then s else { s with lc.quiet := some quiet }

/-- LC begins if the line is quiet for long enough and it has a candidate and no attempt (R45). -/
def State.transmit (quiet : Nat) (s : State) : State :=
  let s := s.quietFor quiet
  match s.lc.attempt, s.lc.quiet, s.candidate with
  | none, some q, some c => if s.mayBegin c q then s.beginAttempt c else s
  | _, _, _ => s

/-! ### The end of an attempt (R46 to R48) -/

/-- A frame whose CRC checks takes the next stamp (R48). -/
def State.takeStamp (s : State) : State := { s with lc.stamp := s.lc.stamp + 1 }

/-- The attempt has been read back whole: the stamp, the queue, the recovery mark and the failure count, and the
success told to EU (R46, R47, R172). -/
def State.readBackWhole (f : TxFrame) (s : State) : State :=
  let s := s.takeStamp
  State.admitHeld
    { s with lc.attempt := none, lc.recovery := true, lc.failures := 0, lc.quiet := some Config.frameEndRest,
             lc.queue := s.lc.queue.filter (fun g => g.id != f.id),
             eu.linkSuccess := s.eu.linkSuccess || decide (s.ws.state = .faulted) }

/-- The attempt has failed: the frame stays where it was, the count rises to at most 255 (R46). The line is busy until the
frame on it has ended and is heard (R41). -/
def State.attemptEndsFailed (s : State) : State :=
  { s with lc.attempt := none, lc.failures := min 255 (s.lc.failures + 1), lc.quiet := none }

/-! ### The queue through resets (R52, R59) -/

/-- Frame cycle start: every frame but ZONE frames leaves the queue and the held frames (R52); an own DATUM in flight
is not applied at its read-back (R23). The frame of an attempt in progress leaves the queue with the others, so that it is
not sent again should the attempt fail (DESIGN CHOICE, log entry 50). -/
def State.linkFrameStart (s : State) : State :=
  let keep := fun f : TxFrame => match f.body with
    | .zone .. => true
    | _ => false
  let s := s.voidInFlight (fun b => match b with
    | .datum .. => true
    | _ => false)
  State.admitHeld { s with lc.queue := s.lc.queue.filter keep, lc.held := s.lc.held.filter keep }

/-- Entry into UNCONFIGURED: the queue, holds, slot and marks empty, the timer stopped; an attempt completes, but an
own DATUM is not applied (R27, R44, R47, R52, R53). The frame of that attempt leaves the queue with the others, so that it is not
sent again should the attempt fail (DESIGN CHOICE, log entry 50). -/
def State.linkUnconfigured (s : State) : State :=
  let s := s.voidInFlight (fun b => match b with
    | .datum .. => true
    | _ => false)
  { s with lc.queue := [], lc.held := [], lc.slot := none, lc.due := false, lc.promoted := false, lc.timer := none,
           lc.recovery := false, lc.failures := 0 }

/-- Station clear (R44, R47, R52, R53, R56). -/
def State.linkClear (s : State) : State :=
  { s with lc.queue := [], lc.held := [], lc.attempt := none, lc.failures := 0, lc.recovery := false,
           lc.foreignTime := none, lc.due := true, lc.promoted := false }

/-- Entry into HALTED: the attempt stopped, the queue kept, the marks cleared and the timer stopped (R52, R53). -/
def State.linkHalt (s : State) : State :=
  { s with lc.attempt := none, lc.due := false, lc.promoted := false, lc.timer := none }

/-- The passage to IDLE: the slot filled and due, the interval timer started (R53, R87). -/
def State.linkStart (s : State) : State :=
  { s with lc.slot := some s.presenceNow, lc.due := true, lc.timer := some (s.clock + s.cfg.presenceInterval) }

end Sys2Proof.Machine
end

