-- ==== Sys2Proof/Machine/Zones.lean ====
section
/-! DEFINITION. Configuration conflicts and the Zone Controller (ch. 4, 4.2 and 4.4 to 4.8). -/

namespace Sys2Proof.Machine

/-! ### Records and bounds (R63, R68) -/

def ZoneController.zone (z : ZoneController) : Side → ZoneRecord
  | .left => z.left
  | .right => z.right

def State.zone (s : State) (side : Side) : ZoneRecord := s.zc.zone side

/-- ZC writes a record; WS learns of a change of its selection's zone (R100). -/
def State.putZone (side : Side) (z : ZoneRecord) (s : State) : State :=
  let touched := s.ws.retest || (decide (s.zone side ≠ z) && decide ((s.ws.selection.bind (·.zone)) = some side))
  match side with
  | .left => { s with zc.left := z, ws.retest := touched }
  | .right => { s with zc.right := z, ws.retest := touched }

def State.onZone (side : Side) (f : ZoneRecord → ZoneRecord) (s : State) : State := s.putZone side (f (s.zone side))

/-- The bounds of a zone; none where there is no shared stretch or the neighbour is not yet known (R68). -/
def State.boundsNow (s : State) (side : Side) : Option (Nat × Nat) :=
  match s.sideInfo side, side with
  | none, _ => none
  | some i, .left => if s.cfg.low ≤ i.high then some (s.cfg.low, i.high) else none
  | some i, .right => if i.low ≤ s.cfg.high then some (i.low, s.cfg.high) else none

/-- A rail position lies within bounds. -/
def within (b : Option (Nat × Nat)) (x : Int) : Bool :=
  match b with
  | none => false
  | some (lo, hi) => decide ((lo : Int) ≤ x) && decide (x ≤ hi)

/-- The zone a rail position lies in; the left one where the two zones overlap and hold it both (DESIGN CHOICE, log entry
52). -/
def State.zoneAt (s : State) (x : Int) : Option Side :=
  if within s.zc.left.bounds x then some .left
  else if within s.zc.right.bounds x then some .right
  else none

/-- The exclusive stretch is shorter than G (R63). -/
def State.shortStretch (s : State) : Bool :=
  let lower : Int := ((s.boundsNow .left).map (·.2)).getD s.cfg.low
  let upper : Int := ((s.boundsNow .right).map (·.1)).getD s.cfg.high
  decide (upper - lower < s.cfg.gap)

/-- A heard peer that is not adjacent overlaps this station's limits (R63). -/
def State.nonAdjacentOverlap (s : State) : Bool :=
  (List.range 8).any fun n =>
    let j := n + 1
    (decide (j + 1 < s.k) || decide (s.k + 1 < j)) &&
    match (s.peer j).info with
    | none => false
    | some i => decide (i.low ≤ s.cfg.high) && decide (s.cfg.low ≤ i.high)

/-- PT evaluates the configuration; a conflict that begins raises CONFIG CONFLICT (R63). -/
def State.evalConflict (s : State) : State :=
  let now := s.setup.isSome && (s.shortStretch || s.nonAdjacentOverlap)
  let t := { s with pt.conflict := now }
  if now && !s.pt.conflict then t.raise .configConflict else t

/-! ### What the neighbour's last PRESENCE says of the shared zone -/

/-- The neighbour's held flag for the zone on a side of this station. -/
def PeerInfo.heldFor (i : PeerInfo) : Side → Bool
  | .left => i.heldRight
  | .right => i.heldLeft

/-- The neighbour's requested flag for the zone on a side of this station. -/
def PeerInfo.requestedFor (i : PeerInfo) : Side → Bool
  | .left => i.requestedRight
  | .right => i.requestedLeft

/-- The neighbour's last known interval lies inside the zone. -/
def State.neighbourInside (s : State) (side : Side) : Bool :=
  match s.sideInfo side, (s.zone side).bounds with
  | some i, some b => intervalInside i.interval b
  | _, _ => false

/-- The neighbour works to another plan (R79). -/
def State.planDiffers (s : State) (side : Side) : Bool :=
  match s.sideInfo side with
  | some i => decide (i.check ≠ s.planCheck)
  | none => false

/-- The condition of R79. -/
def State.blocks (s : State) (side : Side) : Bool :=
  s.planDiffers side ||
  (s.neighbourInside side && !(((s.sideInfo side).map (·.heldFor side)).getD false))

/-- The first row of R84 with R79: the state taken from the neighbour's last PRESENCE. -/
def State.firstState (s : State) (side : Side) : ZoneState :=
  match s.sideInfo side with
  | none => .noZone
  | some i =>
    if s.planDiffers side then .blocked
    else if i.heldFor side then .heldOther
    else if s.neighbourInside side then .blocked
    else .free

/-! ### Own ZONE frames -/

def State.offerZone (side : Side) (a : ZoneAction) (s : State) : State := s.offer .zc (.zone side a)

/-- ZC queues a SEIZE or a REQUEST and notes it as outstanding (R72, R74, R78). -/
def State.sendOutstanding (side : Side) (o : Outstanding) (a : ZoneAction) (s : State) : State :=
  let id := s.lc.nextId
  (s.offerZone side a).onZone side fun z => { z with outstanding := o, frameId := id }

/-- ZC asks LC to remove the outstanding frame; outstanding stays when LC answers IN FLIGHT (R72, R74). -/
def State.dropOutstanding (side : Side) (s : State) : State :=
  let z := s.zone side
  if z.outstanding = .no then s
  else if s.inFlight z.frameId then s
  else (s.removeFrame z.frameId).onZone side fun z => { z with outstanding := .no }

/-- ZC asks LC to replace an outstanding SEIZE with a REQUEST (R73). -/
def State.seizeToRequest (side : Side) (s : State) : State :=
  let z := s.zone side
  if z.outstanding = .seize && !s.inFlight z.frameId then
    (s.replaceFrame z.frameId (.zone side .request)).onZone side fun z => { z with outstanding := .request }
  else s

/-! ### Changes of a zone's state -/

/-- The record fields that a change of state clears: the hold's own when HELD-OWN ends (R75, R81), release heard
outside REQUESTED, the yield deadline outside YIELDING. -/
def ZoneRecord.entering (st : ZoneState) (z : ZoneRecord) : ZoneRecord :=
  let z := if z.state = .heldOwn && st != .heldOwn then
      { z with pending := false, cycles := 0, laterSeize := false, dual := false, progress := .no }
    else z
  { z with state := st, releaseHeard := z.releaseHeard && decide (st = .requested),
           yieldDeadline := if st = .yielding then z.yieldDeadline else none }

/-- The outstanding frames that a change of state asks LC to remove (R72, R74, R79). -/
def State.tidyOutstanding (side : Side) (st : ZoneState) (s : State) : State :=
  match (s.zone side).outstanding, st with
  | .seize, .blocked | .seize, .yielding | .seize, .noZone => s.dropOutstanding side
  | .request, .heldOther => s
  | .request, _ => s.dropOutstanding side
  | _, _ => s

/-- A zone takes a state, with what that state change clears and removes; R79 is not yet applied. -/
def State.zoneTo (side : Side) (st : ZoneState) (s : State) : State :=
  let s := if st = (s.zone side).state then s else s.tidyOutstanding side st
  s.onZone side (·.entering st)

/-- R79: the zone becomes BLOCKED from any state other than NONE and HELD-OWN while its condition holds. -/
def State.applyBlock (side : Side) (s : State) : State :=
  match (s.zone side).state with
  | .noZone | .heldOwn | .blocked => s
  | .free | .heldOther | .requested | .yielding => if s.blocks side then s.zoneTo side .blocked else s

/-- A state change of the zone, at which R79 is evaluated. -/
def State.zoneChange (side : Side) (st : ZoneState) (s : State) : State := (s.zoneTo side st).applyBlock side

/-- ZC computes a zone's bounds afresh: a zone that becomes NONE is cleared, one that leaves NONE takes its first state
(R68, R84). -/
def State.rebound (side : Side) (s : State) : State :=
  match s.boundsNow side with
  | none =>
    if (s.zone side).state = .noZone then s
    else (s.dropOutstanding side).putZone side {}
  | some b =>
    if (s.zone side).state = .noZone then
      let s := s.putZone side { (s.zone side) with bounds := some b }
      s.zoneTo side (s.firstState side)
    else if (s.zone side).bounds = some b then s
    else s.onZone side fun z => { z with bounds := some b }

/-- The zone becomes HELD-OWN on the read-back of the own SEIZE (R72). -/
def State.holdZone (side : Side) (stamp : Stamp) (s : State) : State :=
  (s.zoneTo side .heldOwn).onZone side fun z =>
    { z with ownStamp := some stamp, pending := false, laterSeize := false, cycles := 0 }

/-- A pending request is recorded (R73, R74, R84). -/
def ZoneRecord.recordRequest (z : ZoneRecord) : ZoneRecord :=
  { z with pending := true, cycles := if z.pending then z.cycles else 0 }

/-! ### What the neighbour's frames do (R71 to R74, R78) -/

/-- The zone a neighbour's ZONE frame is for: k−1 names its right, k+1 its left; any other is ignored (R71). -/
def Setup.zoneNamed (c : Setup) (j : Nat) (named : Side) : Option Side :=
  match c.sideOf j, named with
  | some .left, .right => some .left
  | some .right, .left => some .right
  | _, _ => none

/-- A SEIZE received (R73). -/
def State.hearSeize (side : Side) (s : State) : State :=
  let s := if (s.zone side).state = .noZone then s else s.seizeToRequest side
  match (s.zone side).state with
  | .noZone => s
  | .heldOwn => s.onZone side fun z => { z.recordRequest with laterSeize := true }
  | .free | .heldOther | .requested | .blocked | .yielding => s.zoneChange side .heldOther

/-- A REQUEST received (R74). -/
def State.hearRequest (side : Side) (s : State) : State :=
  if (s.zone side).state = .heldOwn then s.onZone side ZoneRecord.recordRequest else s

/-- ZC queues the SEIZE that a REQUESTED zone's release allows (R78). -/
def State.seizeRequested (side : Side) (s : State) : State :=
  let s := s.onZone side fun z => { z with releaseHeard := false }
  if (s.zone side).outstanding = .no then s.sendOutstanding side .seize .seize else s

/-- The state row of R95 for a hole in a phase. -/
def State.stateRow (s : State) (c : Claim) : Bool :=
  match s.ht[c.hole]?, c.phase with
  | some e, .drill => decide (e.state = .planned)
  | some e, .set => decide (e.state = .drilled) && s.setOrder c.hole
  | none, _ => false

/-- The zone of a queued CLAIM stays wanted for its hole, at the frozen target, though a correction change has taken the hole out of the
concern: the hole stays selected, and its CLAIM is sent (R39, R91, R100; DEDUCED, log entry 61). -/
def State.wantsForClaim (side : Side) (s : State) : Bool :=
  match s.ws.selection with
  | none => false
  | some sel =>
    match sel.work with
    | .hole c => decide (sel.stage = .claimQueued) && decide (sel.zone = some side) && within (s.zone side).bounds sel.rail && s.stateRow c
    | .datum => false

/-- WS wants a zone: an eligible hole but for zone and clearance, the hole of its queued CLAIM, or a DUE datum cycle, lies in it (R39, R70,
R95). -/
def State.wants (side : Side) (s : State) : Bool :=
  let b := (s.zone side).bounds
  let datum := s.proberStatus == some .due && ((s.datumTargets.map fun t => within b t.1).getD false)
  let hole := (s.pu.concern.getD []).any fun h =>
    ((s.target? h).map fun t => within b t.1).getD false &&
    match s.ht[h]? with
    | none => false
    | some e => e.state == .planned || (e.state == .drilled && s.setOrder h)
  match s.ws.state with
  | .working => datum || hole || s.wantsForClaim side
  | .waiting | .finished => datum
  | .unconfigured | .idle | .faulted | .halted => false

/-- A RELEASE received, or a PRESENCE that shows the holder gone (R78, R84). -/
def State.hearRelease (side : Side) (s : State) : State :=
  match (s.zone side).state with
  | .heldOther => s.zoneChange side .free
  | .requested =>
    if !s.wants side then s.zoneChange side .free
    else if s.neighbourInside side then s.onZone side fun z => { z with releaseHeard := true }
    else s.seizeRequested side
  | .noZone | .free | .heldOwn | .blocked | .yielding => s

/-- A dual hold (R82). -/
def State.dualHold (side : Side) (s : State) : State :=
  if (s.zone side).laterSeize then s
  else s.onZone side fun z => { z with dual := true, progress := if z.progress = .no then .due else z.progress }

/-- The reconciliation of a zone with the PRESENCE just applied (R79, R82, R84); release heard is looked at again on
each PRESENCE (R78). -/
def State.reconcileZone (side : Side) (s : State) : State :=
  match s.sideInfo side with
  | none => s
  | some i =>
    if s.planDiffers side then s.applyBlock side
    else
      match (s.zone side).state, i.heldFor side, s.neighbourInside side with
      | .noZone, _, _ => s
      | .free, true, _ => (s.seizeToRequest side).zoneChange side .heldOther
      | .free, false, true => s.zoneChange side .blocked
      | .free, false, false => s
      | .heldOwn, held, _ =>
        let s := if held then s.dualHold side else s
        if i.requestedFor side then s.onZone side ZoneRecord.recordRequest else s
      | .heldOther, true, _ => s
      | .heldOther, false, true => s.zoneChange side .blocked
      | .heldOther, false, false => s.zoneChange side .free
      | .requested, true, inside =>
        if (s.zone side).releaseHeard && !inside then s.seizeRequested side else s
      | .requested, false, true => s.zoneChange side .blocked
      | .requested, false, false => s.hearRelease side
      | .blocked, true, _ => s.zoneChange side .heldOther
      | .blocked, false, true => s
      | .blocked, false, false => s.zoneChange side .free
      | .yielding, true, _ => s.zoneChange side .heldOther
      | .yielding, false, true => s.zoneChange side .blocked
      | .yielding, false, false => s

/-- The neighbour's entry becomes SILENT: a holder lapses (R80); R79 is evaluated at the status change. -/
def State.neighbourSilent (side : Side) (s : State) : State :=
  let s :=
    match (s.zone side).state, s.sideInfo side, (s.zone side).bounds with
    | .heldOther, some i, some b | .requested, some i, some b =>
      (s.dropOutstanding side).zoneChange side (if s.cfg.gap ≤ intervalGap i.interval b then .free else .blocked)
    | _, _, _ => s
  s.applyBlock side

/-! ### Own read-backs (R72, R74, R77, R83) -/

/-- The outstanding frame has been read back. -/
def State.outstandingBack (f : TxFrame) (side : Side) (s : State) : State :=
  if (s.zone side).frameId = f.id then s.onZone side fun z => { z with outstanding := .no } else s

/-- The own SEIZE read back (R72); one given up in flight at JIG OPEN or at entry into FAULTED changes nothing (R85). -/
def State.seizeBack (f : TxFrame) (side : Side) (stamp : Stamp) (s : State) : State :=
  if f.void then s
  else
    let s := s.outstandingBack f side
    match (s.zone side).state with
    | .free => s.holdZone side stamp
    | .requested => (s.holdZone side stamp).raise .zoneGranted
    | .heldOther => s.zoneChange side .requested
    | .noZone | .heldOwn | .blocked | .yielding => s

/-- The own REQUEST read back (R74, R85). -/
def State.requestBack (f : TxFrame) (side : Side) (s : State) : State :=
  if f.void then s
  else
    let s := s.outstandingBack f side
    if (s.zone side).state = .heldOther then s.zoneChange side .requested else s

/-- The own RELEASE read back (R77); after the hold has ended otherwise it changes nothing (R81, R83). -/
def State.releaseBack (side : Side) (s : State) : State :=
  let z := s.zone side
  if z.state = .heldOwn && z.progress = .sent then
    if z.dual then s.zoneChange side (s.firstState side)
    else if s.planDiffers side then s.zoneChange side .blocked
    else if z.pending then
      (((s.zoneTo side .yielding).onZone side fun z =>
        { z with yieldDeadline := some (s.clock + s.cfg.yieldPeriod) })).applyBlock side
    else s.zoneChange side .free
  else s

/-- The yield deadline has passed (R77). -/
def State.yieldOver (side : Side) (s : State) : State :=
  if (s.zone side).state = .yielding then s.zoneChange side .free else s

/-- The time a self-lapse is measured from (R81). -/
def State.presenceTime (s : State) : Nat :=
  match s.zc.presenceBack with
  | some t => t
  | none => max (s.zc.idleEntry.getD 0) (s.zc.clearTime.getD 0)

/-- A self-lapse: the hold ends without a frame (R81). -/
def State.selfLapsed (side : Side) (s : State) : State :=
  if (s.zone side).state = .heldOwn then
    let s := s.raise .zoneLapsed
    s.zoneChange side (s.firstState side)
  else s

/-! ### Releasing (R75, R76) -/

/-- A cycle opens: it counts against every pending request (R75). -/
def ZoneRecord.countCycle (z : ZoneRecord) : ZoneRecord :=
  if z.pending then { z with cycles := min 16 (z.cycles + 1) } else z

def State.countCycle (s : State) : State :=
  { s with zc.left := s.zc.left.countCycle, zc.right := s.zc.right.countCycle }

/-- ZC's decision to release a zone, with no cycle in flight: WS no longer wants it, or a pending request has used up its quota (R76). -/
def State.considerRelease (side : Side) (s : State) : State :=
  let z := s.zone side
  if z.state = .heldOwn && z.progress = .no && s.cs.cycle.isNone
      && (!s.wants side || (z.pending && decide (s.cfg.quota ≤ z.cycles))) then
    s.onZone side fun z => { z with progress := .due }
  else s

/-- The retreat target of a zone: the nearest position beyond it toward the exclusive stretch that lies within the travel
limits, outside both zones, and whose travel is permitted (R76). -/
def State.retreatTarget (side : Side) (s : State) : Option Nat :=
  match side, (s.zone side).bounds with
  | _, none => none
  | .left, some (_, hi) =>
    let t := max s.own (hi + 1)
    if s.cfg.withinTravel t && (s.zoneAt t).isNone && s.permitted t then some t else none
  | .right, some (lo, _) =>
    if lo = 0 then none
    else
      let t := min s.own (lo - 1)
      if s.cfg.withinTravel t && (s.zoneAt t).isNone && s.permitted t then some t else none

/-- ZC carries out a release that is DUE once no cycle is in flight: the RELEASE at once from outside the zone, a
retreat from inside, which waits for a queued CLAIM to be resolved (R76, R82, R127; DEDUCED, log entry 60). -/
def State.carryRelease (side : Side) (s : State) : State :=
  let z := s.zone side
  if z.state = .heldOwn && z.progress = .due && s.cs.cycle.isNone then
    let inside := within z.bounds s.own || ((s.travelTarget.map fun t => within z.bounds t).getD false)
    if !inside then (s.offerZone side .release).onZone side fun z => { z with progress := .sent }
    else if s.cs.lone.isNone && s.motionFree then
      match s.retreatTarget side with
      | none => s
      | some t =>
        State.onZone side (fun z => { z with progress := .retreating })
          { s with cs.lone := some { owner := .retreat side, target := t } }
    else s
  else s

/-- The retreat's TRAVEL has completed: the RELEASE is queued (R76); after a self-lapse no RELEASE follows (R81). -/
def State.retreatDone (side : Side) (s : State) : State :=
  let z := s.zone side
  if z.state = .heldOwn && z.progress = .retreating then
    (s.offerZone side .release).onZone side fun z => { z with progress := .sent }
  else s

/-- A REQUESTED zone that WS stops wanting returns to HELD-OTHER (R74). -/
def State.withdrawRequest (side : Side) (s : State) : State :=
  if (s.zone side).state = .requested && !s.wants side then s.zoneChange side .heldOther else s

/-- ZC queues a REQUEST for a HELD-OTHER zone that WS wants (R74). -/
def State.makeRequest (side : Side) (s : State) : State :=
  let z := s.zone side
  if z.state = .heldOther && z.outstanding = .no && s.wants side then s.sendOutstanding side .request .request else s

/-! ### The occasions of R85 -/

/-- A zone's record on an occasion that clears every field but the state and takes the state from the neighbour's last
PRESENCE. -/
def State.resetZone (side : Side) (s : State) : State :=
  let z := s.zone side
  if z.state = .noZone then s
  else s.putZone side { state := s.firstState side, bounds := z.bounds }

/-- A zone at JIG OPEN and at entry into FAULTED: a hold ends with a RELEASE queued, outstanding frames are removed or
left in flight without effect (R85). -/
def State.giveUpZone (side : Side) (s : State) : State :=
  let z := s.zone side
  let s := if z.outstanding = .no then s
    else if s.inFlight z.frameId then s.voidInFlight (fun _ => true)
    else s.removeFrame z.frameId
  let s := if z.state = .heldOwn then s.offerZone side .release else s
  s.resetZone side

/-- Both zones at JIG OPEN and at entry into FAULTED (R85). The left zone's RELEASE enters the queue before the right one's (DESIGN
CHOICE, log entry 78). -/
def State.giveUpZones (s : State) : State := (s.giveUpZone .left).giveUpZone .right

/-- Both zones at frame cycle start (R85). -/
def State.resetZones (s : State) : State := (s.resetZone .left).resetZone .right

/-- Both zones NONE with every field cleared (R85). -/
def State.noZones (s : State) : State := (s.putZone .left {}).putZone .right {}

/-- Both zones at station clear: a RELEASE offered for each that was HELD-OWN, then NONE (R85). -/
def State.clearZones (s : State) : State :=
  let s := if s.zc.left.state = .heldOwn then s.offerZone .left .release else s
  let s := if s.zc.right.state = .heldOwn then s.offerZone .right .release else s
  let s := s.noZones
  { s with zc.presenceBack := none, zc.clearTime := some s.clock }

end Sys2Proof.Machine
end

