-- ==== Sys2Proof/Machine/Draw.lean ====
section
/-! DEFINITION. The Draw Unit: the draw table, the own intent, the draw decision and the supply check (ch. 8). -/

namespace Sys2Proof.Machine

/-! ### The draw table (R147 to R151) -/

/-- The entry of station j. -/
def State.drawEntry (s : State) (j : Nat) : Option DrawEntry := (s.du.table[j - 1]?).join

def State.setDraw (j : Nat) (e : Option DrawEntry) (s : State) : State := { s with du.table := s.du.table.set (j - 1) e }

/-- The entries other than the own one. -/
def State.otherDraws (s : State) : List DrawEntry :=
  ((List.range 8).filter (fun n => n + 1 != s.k)).filterMap fun n => s.drawEntry (n + 1)

/-- An INTENT from station j fills its entry; an amount of 0 is ignored (R149). -/
def State.hearIntent (j amount hole : Nat) (stamp : Stamp) (s : State) : State :=
  if amount = 0 then s else s.setDraw j (some { amount, hole, stamp, time := s.clock })

/-! ### Offering frames -/

/-- DU offers a DRAW frame; an INTENT carries its amount, DONE and WITHDRAW carry 0 (ch. 12). -/
def State.offerDraw (a : DrawAction) (amount hole : Nat) (s : State) : State := s.offer .du (.draw a amount hole)

def State.onIntent (f : OwnIntent → OwnIntent) (s : State) : State := { s with du.own := f s.du.own }

/-- The own intent no longer stands: its deadlines and asks end with it (R159); the announcement and its hole stay. -/
def OwnIntent.ended (st : IntentState) (o : OwnIntent) : OwnIntent :=
  { o with state := st, settleDeadline := none, waitDeadline := none, supplyStart := none, nextPoll := none,
           lastBelow := false, pollAsked := false, intentId := none }

/-- DU offers a DRAW INTENT for the record and waits for its read-back (R152, R157). -/
def State.queueIntent (s : State) : State :=
  let id := s.lc.nextId
  (s.offerDraw .intent s.du.own.amount s.du.own.hole).onIntent fun o => { o.ended .queued with intentId := some id }

/-- CS enters BUDGETING: DU takes the hole and amount and offers an INTENT (R152). -/
def State.beginDraw (hole amount : Nat) (s : State) : State :=
  (s.onIntent fun o => { o with amount, hole }).queueIntent

/-! ### Withdrawal and a fresh intent (R154) -/

/-- The sum of the amounts of entries. -/
def drawSum (l : List DrawEntry) : Nat := (l.map (·.amount)).sum

/-- A withdrawal: the own entry emptied, a WITHDRAW offered, WAITING for the draw life (R154). -/
def State.withdraw (s : State) : State :=
  let id := s.lc.nextId
  let s := (s.setDraw s.k none).offerDraw .withdraw 0 s.du.own.hole
  s.onIntent fun o => { o.ended .waiting with waitDeadline := some (s.clock + s.cfg.drawLife), withdrawId := some id }

/-- A fresh intent: in the place of a WITHDRAW that has not begun, or as a new INTENT behind it (R154). A WITHDRAW whose attempt has
failed and which is queued again has not begun, and is replaced (DEDUCED, log entry 73). -/
def State.freshIntent (s : State) : State :=
  match s.du.own.withdrawId with
  | some id =>
    if s.frameKept id && !s.inFlight id then
      (s.replaceFrame id (.draw .intent s.du.own.amount s.du.own.hole)).onIntent fun o =>
        { o.ended .queued with intentId := some id, withdrawId := none }
    else s.queueIntent
  | none => s.queueIntent

/-- There is room for the own amount beside every entry in the table (R154). -/
def State.drawRoom (s : State) : Bool := decide (drawSum s.otherDraws + s.du.own.amount ≤ s.cfg.capacity)

/-- A removal: an entry other than the own one has been emptied; while WAITING, room brings a fresh intent (R150, R154). -/
def State.removal (s : State) : State :=
  if s.du.own.state = .waiting && s.drawRoom then s.freshIntent else s

/-- Entry j is emptied by a DONE, a WITHDRAW, an expiry or a loss; an entry already empty stays so (R150, R151). -/
def State.emptyDraw (j : Nat) (s : State) : State :=
  match s.drawEntry j with
  | none => s
  | some _ => (s.setDraw j none).removal

/-! ### The decision and the supply check (R153, R155, R156) -/

/-- DU asks CS for READ PRESSURE; the next poll is 50 ms after the ask (R155). -/
def State.askPressure (s : State) : State :=
  s.onIntent fun o => { o with pollAsked := true, nextPoll := some (s.clock + Config.pollInterval) }

/-- The sum counted against the own intent: the entries stamped earlier (R153). -/
def State.earlierSum (s : State) : Nat := drawSum (s.otherDraws.filter fun e => stampEarlier e.stamp s.du.own.ownStamp)

/-- The draw decision at the end of the settle interval (R153). -/
def State.decideDraw (s : State) : State :=
  if s.earlierSum + s.du.own.amount ≤ s.cfg.capacity then
    (s.onIntent fun o => { o.ended .supplyCheck with supplyStart := some s.clock }).askPressure
  else s.withdraw

/-- The pressure wait limit has passed since the supply wait start (R155). -/
def State.supplyLimitPassed (s : State) : Bool :=
  match s.du.own.supplyStart with
  | none => false
  | some t => decide (t + s.cfg.pressureWait ≤ s.clock)

/-- A supply wait fails: SUPPLY LOW raised, the count increased, the intent withdrawn (R156). The state effect of the
third failure is the caller's. -/
def State.supplyFails (s : State) : State :=
  let s := s.raise .supplyLow
  State.withdraw { s with du.supplyWaits := s.du.supplyWaits + 1 }

/-- The next poll time has come, and no ask is still to be placed (R155). -/
def State.pollOverdue (s : State) : Bool :=
  !s.du.own.pollAsked && ((s.du.own.nextPoll.map fun t => decide (t ≤ s.clock)).getD false)

/-- DU judges a PRESSURE report (R155): an ask that waited for this stream to close is made now. The failure of the wait is
given back to the caller. -/
def State.judgePressure (v : Nat) (s : State) : State × Bool :=
  if s.du.own.state = .supplyCheck then
    if s.cfg.supplyFloor ≤ v then (s.onIntent (fun o => o.ended .allowed), false)
    else if s.supplyLimitPassed then (s.supplyFails, true)
    else
      let s := s.onIntent fun o => { o with lastBelow := true }
      (if s.pollOverdue then s.askPressure else s, false)
  else (s, false)

/-! ### Read-backs (R152, R154, R158) -/

/-- The own INTENT read back: settling, or a WITHDRAW when it is no longer wanted (R152). -/
def State.intentBack (f : TxFrame) (amount hole : Nat) (stamp : Stamp) (s : State) : State :=
  let s := { s with du.intentBacks := s.du.intentBacks + 1 }
  let s := s.onIntent fun o => { o with announced := true }
  if s.du.own.state = .queued && s.du.own.intentId = some f.id then
    let s := s.setDraw s.k (some { amount, hole, stamp, time := s.clock })
    s.onIntent fun o =>
      { o.ended .settling with ownStamp := stamp, readBack := s.clock,
                               settleDeadline := some (s.clock + s.cfg.settleInterval) }
  else s.offerDraw .withdraw 0 hole

/-- The own WITHDRAW or DONE read back clears announced, unless an own INTENT has been read back since it was offered
(R154, R158). -/
def State.announceBack (f : TxFrame) (s : State) : State :=
  if f.mark = s.du.intentBacks then s.onIntent fun o => { o with announced := false } else s

/-! ### The squeeze and the record's end (R157 to R160) -/

/-- The SQUEEZE stream has closed (R158). A record made NONE meanwhile, by a station clear (R160) or by a frame cycle start, finds no own
intent, and no DONE is offered (DEDUCED for the frame cycle start, log entry 69). -/
def State.squeezeClosed (normally : Bool) (s : State) : State :=
  if s.du.own.state = .squeezing then
    let s := ((s.setDraw s.k none).offerDraw .done 0 s.du.own.hole).onIntent (OwnIntent.ended .no)
    if normally then { s with du.supplyWaits := 0 } else s
  else s

/-- The own intent is given up, in any state but SQUEEZING (R159). DU asks for the INTENT's removal once: when LC answers IN FLIGHT and
the attempt then fails, the INTENT is sent again and withdrawn at its read-back (DEDUCED, log entry 74). -/
def State.giveUpIntent (s : State) : State :=
  match s.du.own.state with
  | .no | .squeezing => s
  | .queued =>
    let s := match s.du.own.intentId with
      | some id => s.removeFrame id
      | none => s
    s.onIntent (OwnIntent.ended .no)
  | .settling | .supplyCheck | .allowed =>
    ((s.setDraw s.k none).offerDraw .withdraw 0 s.du.own.hole).onIntent (OwnIntent.ended .no)
  | .waiting => s.onIntent (OwnIntent.ended .no)

/-- Station clear at DU (R148, R160). -/
def State.clearDraw (s : State) : State :=
  let s := { s with du.table := List.replicate 8 none, du.supplyWaits := 0 }
  if s.du.own.announced then
    (s.offerDraw .withdraw 0 s.du.own.hole).onIntent fun o => { hole := o.hole, announced := true }
  else s.onIntent fun _ => {}

/-- Frame cycle start and entry into UNCONFIGURED at DU (R148). -/
def State.resetDraw (s : State) : State := { s with du.table := List.replicate 8 none, du.own := {}, du.supplyWaits := 0 }

end Sys2Proof.Machine
end

