-- ==== Sys2Proof/Machine/Holes.lean ====
section
/-! DEFINITION. The Hole Table: how received frames merge into an entry (ch. 1, 1.5 and 1.6). -/

namespace Sys2Proof.Machine

/-- Every optional field removed, rework count and correction owed kept (R20, R22). -/
def HoleEntry.bare (st : HoleState) (e : HoleEntry) : HoleEntry := { state := st, rework := e.rework, owed := e.owed }

/-- The table of R13 for an entry not claimed by this station: the entry after, or none for a stale CLAIM. -/
def HoleEntry.claim (j : Nat) (phase : Phase) (e : HoleEntry) : Option HoleEntry :=
  match phase, e.state with
  | .drill, .planned | .drill, .drillClaimed => some { e with state := .drillClaimed, claimant := some j }
  | .drill, .drilled | .drill, .setClaimed | .drill, .set | .drill, .rejected => none
  | .set, .planned | .set, .drillClaimed => some { e with state := .setClaimed, claimant := some j, drillWorker := some 0 }
  | .set, .drilled | .set, .setClaimed => some { e with state := .setClaimed, claimant := some j }
  | .set, .set | .set, .rejected => none

/-- A RELEASE from station j (R15). -/
def HoleEntry.release (j : Nat) (phase : Phase) (e : HoleEntry) : HoleEntry :=
  match phase, e.state with
  | .drill, .drillClaimed | .set, .setClaimed => if e.claimant = some j then e.revert else e
  | _, _ => e

/-- REPORT DRILLED from worker w, with the stack and plies carried (R16). -/
def HoleEntry.reportDrilled (w : Nat) (stack : Option Stack) (plies : Option Nat) (e : HoleEntry) : HoleEntry :=
  match e.state with
  | .planned | .drillClaimed =>
    { e with state := .drilled, claimant := none, drillWorker := some w, stack, plies }
  | .drilled | .setClaimed | .set | .rejected =>
    { e with drillWorker := if e.drillWorker.getD 0 = 0 then some w else e.drillWorker,
             stack := if e.stack.isNone then stack else e.stack,
             plies := if e.stack.isNone then plies else e.plies }

/-- REPORT SET from worker w; an entry already SET keeps its contents (R17). -/
def HoleEntry.reportSet (w : Nat) (stack : Option Stack) (plies : Option Nat) (grip : Option Nat)
    (squeeze : Option Squeeze) (e : HoleEntry) : HoleEntry :=
  match e.state with
  | .set => e
  | .planned | .drillClaimed | .drilled | .setClaimed | .rejected =>
    { e with state := .set, claimant := none, setWorker := some w, grip, squeeze,
             drillWorker := some (e.drillWorker.getD 0),
             stack := if stack.isSome then stack else e.stack,
             plies := if stack.isSome then plies else e.plies, reject := none }

/-- REPORT REJECTED (R18). -/
def HoleEntry.reportRejected (r : Reject) (e : HoleEntry) : HoleEntry :=
  match e.state with
  | .set | .rejected => e
  | .planned | .drillClaimed | .drilled | .setClaimed =>
    { e with state := .rejected, claimant := none, reject := some r }

/-- A CORRECTION with the rework flag: a SET entry ignores it (R20). -/
def HoleEntry.reworked (st : HoleState) (e : HoleEntry) : HoleEntry :=
  match e.state with
  | .set => e
  | .planned | .drillClaimed | .drilled | .setClaimed | .rejected =>
    { e.bare st with drillWorker := if st = .drilled then some 0 else none, rework := min Config.reworkLimit (e.rework + 1) }

/-- The stack of a REPORT: source DRILL with a ply count other than 0, GAUGE without (R16). -/
def Report.stackOf (r : Report) : Option Stack :=
  r.stack.map fun v => { value := v, source := if r.plies = 0 then .gauge else .drill }

/-- The ply count a REPORT gives (R16). -/
def Report.pliesOf (r : Report) : Option Nat := if r.stack.isSome && r.plies != 0 then some r.plies else none

/-- What a frame from station j does to the entry it names, when that entry is not held by this station's claim:
the entry after, a stale CLAIM setting correction owed (R13 to R20). -/
def mergeEntry (k j : Nat) (b : Body) (e : HoleEntry) : HoleEntry :=
  match b with
  | .claim c => (e.claim j c.phase).getD { e with owed := true }
  | .release c => e.release j c.phase
  | .report r =>
    match r.outcome with
    | .drilled => e.reportDrilled j r.stackOf r.pliesOf
    | .set => e.reportSet j r.stackOf r.pliesOf (some r.grip) (some { peak := r.peak, stroke := r.stroke })
    | .rejected cause => e.reportRejected { cause, phase := r.phase }
  | .correction m =>
    if m.rework then e.reworked m.asserted
    else
      match m.asserted with
      | .planned => e
      | .drillClaimed => if m.worker = 0 ∨ m.worker = k then e else (e.claim m.worker .drill).getD e
      | .setClaimed => if m.worker = 0 ∨ m.worker = k then e else (e.claim m.worker .set).getD e
      | .drilled => e.reportDrilled m.worker m.stack none
      | .set => e.reportSet m.worker m.stack none m.grip none
      | .rejected =>
        match m.reject with
        | some r => e.reportRejected r
        | none => e
  | .presence _ | .datum .. | .zone .. | .draw .. | .owed => e

/-- The hole a frame to HT names. -/
def Body.hole? : Body → Option Nat
  | .claim c => some c.hole
  | .release c => some c.hole
  | .report r => some r.hole
  | .correction m => some m.hole
  | .presence _ | .datum .. | .zone .. | .draw .. | .owed => none

/-- The frame is one that HT passes to WS when the entry is held by this station's claim (R12). A RELEASE is not, nor a
CORRECTION that names this station as claimant, nor one that asserts nothing: those are ignored (R12, R19). -/
def passes (k : Nat) (b : Body) (e : HoleEntry) : Bool :=
  match b with
  | .claim _ => true
  | .report r =>
    match r.outcome with
    | .drilled => decide (e.state = .drillClaimed)
    | .set | .rejected _ => true
  | .correction m =>
    m.rework ||
    match m.asserted with
    | .planned => false
    | .drillClaimed | .setClaimed => m.worker != 0 && m.worker != k
    | .drilled | .set | .rejected => true
  | .presence _ | .datum .. | .release _ | .zone .. | .draw .. | .owed => false

/-- HT applies a frame to the entry it names, whoever holds it (R12 to R20). -/
def State.applyToEntry (h : Heard) (s : State) : State :=
  match h.body.hole? with
  | none => s
  | some n =>
    match s.ht[n]? with
    | none => s
    | some e => s.putEntry n (mergeEntry s.k h.sender h.body e)

/-- An entry held by this station's claim that a frame does not pass to WS still takes what it does not lack: a REPORT
DRILLED on a SET-CLAIMED entry (R16). -/
def State.applyHeld (h : Heard) (s : State) : State :=
  match h.body with
  | .report r =>
    match r.outcome with
    | .drilled => s.applyToEntry h
    | .set | .rejected _ => s
  | _ => s

/-- A claim names no hole of the plan, so that HT ignores the frame that carries it (R12). -/
def State.beyondPlan (claim : Option Claim) (s : State) : Bool := claim.any fun c => decide (s.ht.length ≤ c.hole)

/-- HT reverts every entry claimed by station j but the hole of its current claim (R21); a claim on a hole that the plan does not
have leaves HT as it is (R12). -/
def State.reconcileClaims (j : Nat) (claim : Option Claim) (s : State) : State :=
  if s.beyondPlan claim then s
  else (List.range s.ht.length).foldl
    (fun s n => match s.ht[n]? with
      | none => s
      | some e => if e.claimedBy j && claim.map (·.hole) != some n then s.putEntry n e.revert else s) s

/-- HT sets correction owed on an entry (R14, R102, R103). -/
def State.oweCorrection (n : Nat) (s : State) : State :=
  match s.ht[n]? with
  | none => s
  | some e => s.putEntry n { e with owed := true }

end Sys2Proof.Machine
end

