-- ==== Sys2Proof/Machine/Cycle.lean ====
section
/-! DEFINITION. The Cycle Sequencer's record: stages, outcomes, early endings and their completion (ch. 6, 6.4 and 6.5). -/

namespace Sys2Proof.Machine

def State.setCycle (cy : Cycle) (s : State) : State := { s with cs.cycle := some cy }

def State.onCycle (f : Cycle → Cycle) (s : State) : State := { s with cs.cycle := s.cs.cycle.map f }

/-- The hole and phase of a cycle (R118). -/
def Cycle.claim? (cy : Cycle) : Option Claim := cy.work.claim?

/-- The stages in which an early ending calls for no action: the cycle goes on (R128). -/
def Stage.goesOn : Stage → Bool
  | .squeezing | .retracting | .reporting => true
  | .claiming | .moving | .sensing | .gauging | .clamping | .cutting | .budgeting => false

/-- CLAMPING or any later stage (R103). -/
def Stage.clampingOrLater : Stage → Bool
  | .clamping | .cutting | .budgeting | .squeezing | .retracting | .reporting => true
  | .claiming | .moving | .sensing | .gauging => false

/-- The actions of the stage reached (R128). An interjection among them is passed over when its stream is not open. -/
def Stage.endActions : Stage → List EndAction
  | .moving | .sensing | .gauging => [.stopMotion, .retract]
  | .clamping | .budgeting => [.unclamp, .retract]
  | .cutting => [.feedStop, .retract, .unclamp]
  | .claiming | .squeezing | .retracting | .reporting => []

/-- The command of an action (R128). -/
def EndAction.command : EndAction → Command
  | .stopMotion => .stopMotion
  | .feedStop => .feedStop
  | .retract => .retract
  | .unclamp => .unclamp

/-- A cycle is being ended by the actions of its stage, and not carried through (R128). -/
def Cycle.winding (cy : Cycle) : Bool :=
  match cy.ending with
  | some e => !e.stage.goesOn
  | none => false

/-- A frame cycle start has taken place since the ending began (R128). -/
def Cycle.voided (cy : Cycle) : Bool :=
  match cy.ending with
  | some e => e.void
  | none => false

/-- An ending bears the through-FAULTED mark (R118, R130). -/
def State.throughEnding (s : State) : Bool :=
  match s.cs.cycle with
  | some cy => (cy.ending.map (·.through)).getD false
  | none => false

/-- An ending of a cycle is under way. -/
def State.ending (s : State) : Bool :=
  match s.cs.cycle with
  | some cy => cy.ending.isSome
  | none => false

/-- CS takes a cause of early ending; under an ending already begun only a fault adds its mark (R128, R129). A command
asked for and not yet placed is given up, and DU gives up the own intent in BUDGETING (R159). -/
def State.takeEnding (cause : EndCause) (through : Bool) (s : State) : State :=
  match s.cs.cycle with
  | none => s
  | some cy =>
    match cy.ending with
    | some e => s.setCycle { cy with ending := some { e with through := e.through || through } }
    | none =>
      let e : Ending := { cause, through, stage := cy.stage, todo := cy.stage.endActions }
      if cy.stage.goesOn then s.setCycle { cy with ending := some e }
      else
        let task := match cy.task with
          | .toPlace .. => Task.idle
          | t => t
        let s := { s with cs.cycle := some { cy with ending := some e, task }, cs.interject := none }
        if cy.stage = .budgeting then s.giveUpIntent else s

/-! ### Entries written by this station (R125, R128, R130) -/

/-- The entry after the cycle's outcome, taken out of the claimed state (R125). -/
def HoleEntry.finish (k : Nat) (phase : Phase) (o : CycleOutcome) (e : HoleEntry) : HoleEntry :=
  let e := { e with claimant := none }
  match o with
  | .drilled stack plies =>
    { e with state := .drilled, drillWorker := some k, stack := some { value := stack, source := .drill }, plies := some plies }
  | .set grip peak stroke =>
    { e with state := .set, setWorker := some k, grip := some grip, squeeze := some { peak, stroke },
             drillWorker := some (e.drillWorker.getD 0) }
  | .rejected cause measured grip squeeze =>
    { e with state := .rejected, reject := some { cause, phase }, grip, squeeze,
             stack := match measured with
               | some (v, _) => some { value := v, source := .drill }
               | none => e.stack
             plies := match measured with
               | some (_, n) => some n
               | none => e.plies }
  | .foundDrilled => { e with state := .drilled, drillWorker := some 0, stack := none, plies := none }
  | .foundSet => { e with state := .set, setWorker := some 0, drillWorker := some (e.drillWorker.getD 0) }

/-- The frame that closes a cycle (R125). -/
def closingFrame (c : Claim) (o : CycleOutcome) (e : HoleEntry) : Body :=
  match o with
  | .drilled stack plies =>
    .report { hole := c.hole, phase := c.phase, outcome := .drilled, stack := some stack, plies, grip := 0, peak := 0, stroke := 0 }
  | .set grip peak stroke =>
    .report { hole := c.hole, phase := c.phase, outcome := .set, stack := e.stack.map (·.value),
              plies := e.plies.getD 0, grip, peak, stroke }
  | .rejected cause .. =>
    .report { hole := c.hole, phase := c.phase, outcome := .rejected cause, stack := none, plies := 0, grip := 0, peak := 0,
              stroke := 0 }
  | .foundDrilled | .foundSet => .correction (e.correction c.hole)

/-- The outcome is a rejection (R125). -/
def CycleOutcome.isRejected : CycleOutcome → Bool
  | .rejected .. => true
  | .drilled .. | .set .. | .foundDrilled | .foundSet => false

/-- CS writes an outcome into the entry, raises HOLE REJECTED for a rejection, and offers the closing frame if there is one,
which states the entry and so clears correction owed (R125, R130). -/
def State.writeOutcome (c : Claim) (o : CycleOutcome) (frame : Bool) (s : State) : State :=
  match s.ht[c.hole]? with
  | none => s
  | some e =>
    let e' := { e.finish s.k c.phase o with owed := e.owed && !frame }
    let s := s.putEntry c.hole e'
    let s := if o.isRejected then s.raise .holeRejected else s
    if frame then s.offer .cs (closingFrame c o e') else s

/-- The cycle's hole reverts if it stands claimed by this station (R128). -/
def State.revertOwn (h : Nat) (s : State) : State :=
  match s.ht[h]? with
  | none => s
  | some e => if e.claimedBy s.k then s.putEntry h e.revert else s

/-- The entry of a hole is SET (R10). -/
def State.holeSet (s : State) (h : Nat) : Bool :=
  match s.ht[h]? with
  | some e => decide (e.state = .set)
  | none => false

/-! ### The end of a cycle -/

/-- The park position calls for a travel: the carriage does not stand there and it lies in no zone (R105). -/
def State.parkCalls (s : State) : Bool := decide (s.own ≠ s.cfg.park) && (s.zoneAt s.cfg.park).isNone

/-- The record is discarded and the end reported: the selection in cycle ends (R93, R118); frames left to HT are applied
(R104, R129), in HALTED too (DEDUCED, log entry 26); a FINISHED station parks again after a datum cycle (R106). -/
def State.endCycle (s : State) : State :=
  match s.cs.cycle with
  | none => s
  | some cy =>
    let s := { s with cs.cycle := none, cs.interject := none }
    let s := match s.ws.selection with
      | some sel => if sel.stage = .inCycle then { s with ws.selection := none } else s
      | none => s
    let s := cy.left.foldl (fun s h => s.applyToEntry h) s
    if cy.work = .datum && s.ws.state = .finished && s.ws.park = .no && s.own != s.cfg.park then
      { s with ws.park := .waitingForClearance }
    else s

/-- The last action of an early ending has completed (R104, R128). -/
def State.finishEnding (cy : Cycle) (e : Ending) (s : State) : State :=
  match cy.work with
  | .datum =>
    let s := if s.proberStatus = some .inCycle then s.setProber .due none none else s
    s.endCycle
  | .hole c =>
    if e.void then s.endCycle
    else if e.stage = .cutting then
      let s := (s.revertOwn c.hole).writeOutcome { c with phase := .drill } (.rejected .abortCut none none none) true
      s.endCycle
    else
      let owner := if e.cause = .abandon then Owner.ws else .cs
      ((s.revertOwn c.hole).offer owner (.release c)).endCycle

/-- REPORTING: the outcome written and the closing frame offered, unless a frame cycle start has passed since the
ending began (R125, R128). -/
def State.finishReporting (cy : Cycle) (s : State) : State :=
  match cy.work, cy.outcome with
  | .hole c, some o =>
    if cy.voided then s.endCycle
    else (s.writeOutcome c o true).endCycle
  | _, _ => s.endCycle

/-- Entry into HALTED ends the cycle at once, in any stage: its hole REJECTED with cause HALT, no frame (R130). A SET entry,
which only a frame cycle start passed by the ending leaves to it, stays SET (R10, R11;
DEDUCED, log entry 27). -/
def State.haltCycle (s : State) : State :=
  match s.cs.cycle with
  | none => s
  | some cy =>
    let s := match cy.work with
      | .datum => s
      | .hole c =>
        if s.holeSet c.hole then s
        else (s.revertOwn c.hole).writeOutcome c (.rejected .halt none none none) false
    s.endCycle

/-! ### Moving on -/

/-- An outcome takes the cycle to RETRACTING (R120 to R125). -/
def Cycle.retracting (o : CycleOutcome) (cy : Cycle) : Cycle :=
  { cy with outcome := some o, stage := .retracting, task := .toPlace .retract false }

/-- RETRACT has completed: UNCLAMP where clamped, else REPORTING (R125). -/
def Cycle.afterRetract (cy : Cycle) : Cycle :=
  if cy.clamped then { cy with task := .toPlace .unclamp false } else { cy with stage := .reporting, task := .idle }

/-- The first TRAVEL and SLIDE, and those of a re-positioning, have completed up to the given point (R119, R121). -/
def Cycle.nextMove (cy : Cycle) : Cycle :=
  match cy.stage with
  | .sensing =>
    match cy.reposition with
    | some q => { cy with reposition := none, task := .toPlace (.slide q) false }
    | none => { cy with task := .toPlace .sense false }
  | _ => { cy with task := .toPlace (.slide cy.cross) false }

/-- The drive unit reports the end of a command that closes with DONE (R119, R123 to R125, R128). A command of a
winding ending changes no stage; `stopped` is a STOP MOTION taken into the stream (R115). A TRAVEL stopped for clearance waits for
PT, and ZC is asked again only when PT permits it (R66, R119; DEDUCED, log entry 62). -/
def State.commandDone (c : Command) (stopped : Bool) (s : State) : State :=
  match s.cs.cycle with
  | none => s
  | some cy =>
    let s := match c with
      | .clamp => { s with cs.lastClamp := some s.clock }
      | _ => s
    let cy := match c with
      | .clamp => { cy with clamped := true }
      | .unclamp => { cy with clamped := false }
      | _ => cy
    if cy.winding then s.setCycle { cy with task := .idle }
    else
      match c with
      | .travel _ =>
        if stopped then s.setCycle { cy with task := .toPlace c true, stopAsked := false }
        else s.setCycle { cy.nextMove with stopAsked := false }
      | .slide _ => s.setCycle { cy with stage := .sensing, task := .toPlace .sense false }
      | .clamp =>
        match cy.work with
        | .hole ⟨h, .set⟩ =>
          (s.setCycle { cy with stage := .budgeting, task := .idle }).beginDraw h ((cy.grip.map (·.2.draw)).getD 0)
        | _ => s.setCycle { cy with task := .toPlace (.drill 0) false }
      | .retract => s.setCycle cy.afterRetract
      | .unclamp => s.setCycle { cy with stage := .reporting, task := .idle }
      | _ => s.setCycle { cy with task := .idle }

/-- With the stack in hand, SA is asked for the grip class (R122, R145). -/
def State.chooseGrip (stack : Nat) (cy : Cycle) (s : State) : State :=
  match gripFor s.cfg.classes stack with
  | none => s.setCycle (cy.retracting (.rejected .grip none none none))
  | some g => s.setCycle { cy with grip := some g, stage := .clamping, task := .toPlace .clamp false }

/-- A SENSE that proceeds in the SET phase: GAUGING without a stack, else the grip class (R122). -/
def State.proceedSet (h : Nat) (cy : Cycle) (s : State) : State :=
  match (s.ht[h]?).bind (·.stack) with
  | none => s.setCycle { cy with stage := .gauging, task := .toPlace .gauge false }
  | some st => s.chooseGrip st.value cy

/-- The corrected target of an axis whose offset exceeds the tolerance (R121). -/
def correctedTarget (kind : SenseKind) (frozen : Nat) (offset : Int) : Int :=
  if kind = .noHole then frozen - offset else frozen + offset

/-- The one re-positioning (R121). -/
def State.reposition (kind : SenseKind) (dx dy : Int) (cy : Cycle) (s : State) : State :=
  let tol := s.cfg.tolerance
  let railOff := decide (tol < dx.natAbs)
  let crossOff := decide (tol < dy.natAbs)
  let rail := correctedTarget kind cy.rail dx
  let cross := correctedTarget kind cy.cross dy
  if (railOff && !(s.cfg.withinTravel rail)) || (crossOff && !(s.cfg.withinCross cross)) then
    s.setCycle (cy.retracting (.rejected .position none none none))
  else if railOff then
    s.setCycle { cy with reposition := if crossOff then some cross.toNat else none,
                         task := .toPlace (.travel rail.toNat) false, stopAsked := false }
  else s.setCycle { cy with task := .toPlace (.slide cross.toNat) false }

/-- CS judges the SENSE report of a hole cycle (R120, R121). -/
def State.judgeSense (c : Claim) (kind : SenseKind) (dx dy : Int) (cy : Cycle) (s : State) : State :=
  let off := decide (s.cfg.tolerance < dx.natAbs) || decide (s.cfg.tolerance < dy.natAbs)
  if kind = .obstructed then s.setCycle (cy.retracting (.rejected .obstructed none none none))
  else if off then
    if cy.senses < 2 then s.reposition kind dx dy cy
    else s.setCycle (cy.retracting (.rejected .position none none none))
  else
    match kind, c.phase with
    | .noHole, .drill => s.setCycle { cy with stage := .clamping, task := .toPlace .clamp false }
    | .noHole, .set => s.setCycle (cy.retracting (.rejected .noHole none none none))
    | .openHole, .drill => s.setCycle (cy.retracting .foundDrilled)
    | .openHole, .set => s.proceedSet c.hole cy
    | .headPresent, _ => s.setCycle (cy.retracting .foundSet)
    | .obstructed, _ => s

/-- A SENSE report closes its stream: judged by CS for a hole cycle, by PU for a datum cycle, by nobody in a winding
ending (R120, R126, R128). -/
def State.senseDone (kind : SenseKind) (dx dy : Int) (s : State) : State :=
  match s.cs.cycle with
  | none => s
  | some cy =>
    if cy.winding then s.setCycle { cy with task := .idle }
    else
      match cy.work with
      | .hole c => s.judgeSense c kind dx dy cy
      | .datum => (s.judgeDatum cy.rail cy.cross kind dx dy).endCycle

/-- A GAUGE report: its stack written to the entry with source GAUGE, checked, and the grip class chosen (R122, R143). -/
def State.gaugeDone (v : Nat) (s : State) : State :=
  match s.cs.cycle with
  | none => s
  | some cy =>
    match cy.work with
    | .datum => s.setCycle { cy with task := .idle }
    | .hole c =>
      let s := match s.ht[c.hole]? with
        | some e =>
          if cy.voided then s
          else s.putEntry c.hole { e with stack := some { value := v, source := .gauge }, plies := none }
        | none => s
      if cy.winding then s.setCycle { cy with task := .idle }
      else
        match lookupKey c.hole s.ps.holes with
        | none => s.setCycle { cy with task := .idle }
        | some h =>
          if h.gaugePasses v then s.chooseGrip v cy
          else s.setCycle (cy.retracting (.rejected .stack none none none))

/-- The trailing sample of a DRILL: SA's outcome takes the cycle on, unless an ending is winding (R123, R128, R140). -/
def State.drillDone (s : State) : State :=
  let s := { s with sa := s.sa.close }
  match s.cs.cycle with
  | none => s
  | some cy =>
    if cy.winding then s.setCycle { cy with task := .idle }
    else
      match s.sa.outcome with
      | some o => s.setCycle (cy.retracting o)
      | none => s.setCycle { cy with task := .idle }

/-- An unmarked THRUST sample goes to SA; the first confirmed exit or overrun asks CS for FEED STOP (R135, R138, R139). In an
ending in CUTTING the ending's own FEED STOP stands for it (DEDUCED, log entry 56). -/
def State.thrustSample (v : Nat) (s : State) : State :=
  let a := s.sa.sample v
  let asks := a.feedStopAsked && !s.sa.feedStopAsked
  let s := { s with sa := a }
  match s.cs.cycle with
  | some cy => if asks && !cy.winding then { s with cs.interject := some .feedStop } else s
  | none => s

/-- The SQUEEZE stream has closed with an outcome: the ram recovery starts and DU is told (R117, R124, R158). -/
def State.squeezeEnds (o : CycleOutcome) (normally : Bool) (s : State) : State :=
  let s := ({ s with cs.lastSqueeze := some s.clock }).squeezeClosed normally
  s.onCycle (Cycle.retracting o)

/-- A SQUEEZE report is judged (R124, R146). -/
def State.squeezeDone (peak stroke : Nat) (s : State) : State :=
  match s.cs.cycle.bind (·.grip) with
  | some (n, g) => s.squeezeEnds (judgeSqueeze n g peak stroke) true
  | none => s

/-- A PRESSURE report is handed to DU (R124, R155); the answer says that the supply wait has failed. -/
def State.pressureDone (v : Nat) (s : State) : State × Bool :=
  (s.onCycle fun cy => { cy with task := .idle }).judgePressure v

/-- A command of the cycle has failed (R113). A DRILL's analysis FAILS (R142); a SQUEEZE is rejected without figures
(R124); in RETRACTING the failed command counts as completed (R129). Elsewhere the stage stands for the ending. -/
def State.cycleFails (placed : List Command) (s : State) : State :=
  let drilling := placed.any fun c => match c with
    | .drill _ | .feedStop => true
    | _ => false
  let s := if drilling then { s with sa := s.sa.fail } else s
  match s.cs.cycle with
  | none => s
  | some cy =>
    match cy.task with
    | .placed c =>
      if cy.winding then s.setCycle { cy with task := .idle }
      else
        match cy.stage, c with
        | .squeezing, .squeeze .. => s.squeezeEnds (.rejected .squeeze none (cy.grip.map (·.1)) none) false
        | .retracting, .retract => s.setCycle cy.afterRetract
        | .retracting, _ => s.setCycle { cy with stage := .reporting, task := .idle }
        | _, _ => s.setCycle { cy with task := .idle }
    | _ => s

end Sys2Proof.Machine
end

