-- ==== Sys2Proof/Machine/Station.lean ====
section
/-! DEFINITION. The station's passages: FAULTED, HALTED, jig opening, frame cycle start, station clear, landing and UNCONFIGURED (R52, R62, R85 to R92, R166 to R174). -/

namespace Sys2Proof.Machine

/-! ### The carriage's port on entry into HALTED (R116) -/

/-- EP places HALT and raises COMMAND FLAG; the halted mark is set (R116). -/
def State.placeHalt (s : State) : State :=
  { s with ep.transfer := some { command := .halt, user := .port, rest := [] }, ep.handshake := .awaitingResume,
           ep.responseDeadline := some (s.clock + s.cfg.responseTimeout), ep.commandLines := Command.halt.word,
           ep.commandFlag := true, ep.discard := false, ep.haltedMark := true, ep.haltWaiting := false }

/-- COMMAND FLAG is lowered if it is raised, and the time of its fall kept (R107, R116). -/
def State.lowerFlag (s : State) : State :=
  if s.ep.commandFlag then { s with ep.commandFlag := false, ep.flagFell := s.clock } else s

/-- EP on entry into HALTED: what is under way is abandoned, and HALT is placed as soon as RESUME is low or the response
timeout has passed since COMMAND FLAG fell (R116). -/
def State.haltPort (s : State) : State :=
  let s := State.lowerFlag
    { s with ep.transfer := none, ep.handshake := .ready, ep.stream := none, ep.partialReport := [], ep.deadline := none,
             ep.stopped := .no, ep.responseDeadline := none }
  let late := s.ep.flagFell + s.cfg.responseTimeout
  if s.lines.resume && decide (s.clock < late) then { s with ep.haltWaiting := true, ep.responseDeadline := some late }
  else s.placeHalt

/-! ### The selection given up (R89, R93) -/

/-- WS drops its selection; a queued CLAIM is removed, one in flight leaves CLAIM WITHDRAWN (R89, R93, R100). -/
def State.dropSelection (s : State) : State :=
  match s.ws.selection with
  | none => s
  | some sel =>
    match sel.stage with
    | .claimQueued | .claimWithdrawn =>
      if s.inFlight sel.frameId then { s with ws.selection := some { sel with stage := .claimWithdrawn } }
      else State.removeFrame sel.frameId { s with ws.selection := none }
    | .seizeWait | .inCycle => { s with ws.selection := none }

/-- A lone motion is ended early: one waiting is given up, one in progress is stopped (R127). One being ended already goes on as it
was ended, its STOP MOTION included, once its TRAVEL has closed too (R115, R170). -/
def State.endLone (how : LoneEnd) (s : State) : State :=
  match s.cs.lone with
  | none => s
  | some l =>
    if l.ending.isSome then s
    else if l.placed then { s with cs.lone := some { l with ending := some how } }
    else { s with cs.lone := none }

/-- A fault is the stopping of a lone motion that was ended at entry into FAULTED (R170). -/
def State.faultStopping (s : State) : Bool :=
  match s.cs.lone with
  | some l => decide (l.ending = some .fault)
  | none => false

/-! ### FAULTED (R167, R168) and HALTED (R170, R171) -/

/-- EU records the fault cause (R166). -/
def State.recordCause (src : FaultSource) (s : State) : State :=
  { s with eu.cause := some { source := src, stateLeft := s.ws.state, time := s.clock, cleared := false } }

/-- Entry into FAULTED, from IDLE, WAITING, WORKING and FINISHED; in any other state nothing changes (R167, R168). Of its class-0 frames
the DRAW WITHDRAW of an ending in BUDGETING is offered first, then the left RELEASE, then the right one, and last the WITHDRAW of an
intent given up otherwise (DESIGN CHOICE, log entry 78). -/
def State.enterFaulted (src : FaultSource) (s : State) : State :=
  match s.ws.state with
  | .idle | .waiting | .working | .finished =>
    let opened := s.ws.jigOpened || decide (s.ws.state = .idle)
    let s := s.recordCause src
    let s := { s with eu.linkSuccess := false, ws.jigOpened := opened }
    let s := s.setWork .faulted
    let s := s.takeEnding .fault true
    let s := s.endLone .fault
    let s := { s.dropSelection with ws.park := .no }
    let s := s.giveUpZones
    s.giveUpIntent
  | .faulted | .halted | .unconfigured => s

/-- Entry into HALTED, from every state but HALTED and UNCONFIGURED (R166, R170, R171). The own intent's record is cleared
with announced (DESIGN CHOICE, log entry 59); HT queues the corrections it owes as far as the kept queue has room, though
LC sends none of them (R14, R52). -/
def State.enterHalted (src : FaultSource) (s : State) : State :=
  match s.ws.state with
  | .halted | .unconfigured => s
  | .idle | .waiting | .working | .finished | .faulted =>
    let s := if s.ws.state = .faulted then s else s.recordCause src
    let s := s.haltPort
    let s := s.haltCycle
    let s := { s with cs.lone := none, cs.interject := none, sa := s.sa.fail, du.own := {}, pt.frozen := some s.clock,
                      ws.selection := none, ws.claim := none, ws.park := .no }
    let s := s.linkHalt.noZones
    (s.setWork .halted).offerOwed

/-- A CLEARANCE HALT is raised (R67, R114, R170). -/
def State.clearanceHalt (c : HaltCheck) (s : State) : State :=
  (s.raise .clearanceHalt).enterHalted (.clearanceHalt c)

/-- A LINK FAULT or DUPLICATE STATION is raised (R47, R56, R167). -/
def State.raiseFault (e : EventSource) (src : FaultSource) (s : State) : State := (s.raise e).enterFaulted src

/-! ### Frame cycle start (R88) -/

/-- A frame cycle start: every block's state as the table of R88 gives it. An ending under way goes on, but writes and
offers nothing, and the frames left to HT belong to the frame before (R128). -/
def State.frameCycleStart (s : State) : State :=
  let s := s.setWork .waiting
  let s := { s with ht := s.ps.freshTable }
  let s := s.linkFrameStart
  let s := (s.dropDatums).setProber .due none none
  let s := (s.resetZones).resetDraw
  let s := s.onCycle fun cy => { cy with ending := cy.ending.map (fun e => { e with void := true }), left := [] }
  { s with ws.selection := none, ws.claim := none, ws.park := .no, ws.jigOpened := false }

/-- JIG CLOSED becomes active (R86, R88). -/
def State.jigCloses (s : State) : State :=
  let s := { s with lines.jigClosed := true }
  if s.ws.state = .idle then s.frameCycleStart else s

/-! ### The jig opens (R89) -/

/-- Entry into IDLE: ZC keeps its time (R81), and the current claim becomes none (R94). -/
def State.toIdle (s : State) : State := State.setWork .idle { s with zc.idleEntry := some s.clock, ws.claim := none }

/-- JIG CLOSED becomes inactive (R85, R86, R89). Its class-0 frames are offered in the order of `State.enterFaulted` (DESIGN CHOICE, log
entry 78). The own DATUM is removed unless its attempt is in progress; one in flight here whose attempt then fails stays queued (R27;
DEDUCED, log entry 81). -/
def State.jigOpens (s : State) : State :=
  let s := { s with lines.jigClosed := false }
  match s.ws.state with
  | .waiting | .working | .finished =>
    let s := s.toIdle
    let s := s.takeEnding .jigOpen false
    let s := s.endLone .plain
    let s := s.dropSelection
    let s := { s with ws.claim := none, ws.park := .no }
    let s := s.giveUpZones
    let s := s.giveUpIntent
    let s := if s.proberStatus = some .awaitingReadBack then s.removeDatums else s
    s.proberReset
  | .faulted => { s with ws.jigOpened := true }
  | .unconfigured | .idle | .halted => s

/-! ### Landing and station clear (R92, R174) -/

/-- WS sets the state from the JIG CLOSED level (R92). -/
def State.land (s : State) : State :=
  if !s.lines.jigClosed then State.toIdle { s with ws.jigOpened := false }
  else if s.ws.jigOpened then s.frameCycleStart
  else s.setWork .waiting

/-- The through-FAULTED mark of an ending is cleared by a station clear; a lone motion ended at entry into FAULTED stays so
(R167, R174). -/
def State.clearThrough (s : State) : State :=
  s.onCycle fun cy => { cy with ending := cy.ending.map (fun e => { e with through := false }) }

/-- PT's entries all UNKNOWN, the configuration evaluated afresh (R62, R63). -/
def State.forgetPeers (s : State) : State :=
  State.evalConflict { s with pt.peers := List.replicate 8 {} }

/-- A station clear; in UNCONFIGURED and HALTED it has no effect (R174). Into the emptied queue ZC offers its RELEASEs before DU offers
its WITHDRAW, and CS its closing frame last (DESIGN CHOICE, log entry 72). -/
def State.stationClear (s : State) : State :=
  if s.ws.state.online then
    let s := s.linkClear
    let s := s.clearZones
    let s := s.clearDraw
    let s := (s.takeEnding .clear false).clearThrough
    let s := s.endLone .plain
    let s := s.proberReset
    let s := (s.clearEvents).forgetPeers
    let s := { s with ws.selection := none, ws.claim := none, ws.park := .no }
    s.land
  else s

/-! ### UNCONFIGURED and the passage to IDLE (R87) -/

/-- Entry into UNCONFIGURED (R27, R52, R62, R85, R87, R148). -/
def State.enterUnconfigured (s : State) : State :=
  let s := s.linkUnconfigured
  let s := (s.dropDatums).setProber .due none none
  let s := (s.noZones).resetDraw
  let s := { s with ht := [], ws.selection := none, ws.claim := none, ws.park := .no }
  (s.forgetPeers).setWork .unconfigured

/-- The passage from UNCONFIGURED to IDLE, which is a frame cycle start with JIG CLOSED active (R87, R88). -/
def State.passToIdle (s : State) : State :=
  let s := s.toIdle.linkStart
  if s.lines.jigClosed then s.frameCycleStart else s

/-- Both statuses VALID take an UNCONFIGURED station to IDLE (R87). -/
def State.configured (s : State) : State :=
  if s.ws.state = .unconfigured && s.setup.isSome && s.ps.status = .valid then s.passToIdle else s

end Sys2Proof.Machine
end

