-- ==== Sys2Proof/Machine/Port.lean ====
section
/-! DEFINITION. The Effector Port: the handshake, streams, the judging of report words, failures and deadlines (ch. 6, 6.1 and 6.2). -/

namespace Sys2Proof.Machine

/-! ### Commands and their streams (R110 to R112) -/

/-- FEED STOP and STOP MOTION (R110). -/
def Command.interjection : Command → Bool
  | .feedStop | .stopMotion => true
  | _ => false

/-- The streams STOP MOTION acts on (R110, R115). -/
def Command.motion : Command → Bool
  | .travel _ | .slide _ | .sense | .gauge => true
  | _ => false

def Command.isDrill : Command → Bool
  | .drill _ => true
  | _ => false

/-- The completion timeout of a command's class (R111, R112). -/
def Setup.completion (c : Setup) : Command → Nat
  | .travel _ => c.travelTimeout
  | .drill _ => c.drillTimeout
  | .squeeze .. => c.squeezeTimeout
  | _ => c.otherTimeout

/-- The open stream is one STOP MOTION acts on. -/
def State.motionStream (s : State) : Bool := (s.ep.stream.map (·.command.motion)).getD false

/-- The open stream is a DRILL's. -/
def State.drillStream (s : State) : Bool := (s.ep.stream.map (·.command.isDrill)).getD false

/-- EP can place a command: none in transfer, RESUME low, no HALT placed or waiting, and no stream open unless the command
is an interjection (R107, R110). -/
def State.canPlace (s : State) (c : Command) : Bool :=
  s.ep.transfer.isNone && !s.lines.resume && !s.ep.haltedMark && !s.ep.haltWaiting
  && (c.interjection || s.ep.stream.isNone)

/-! ### Failures (R113) -/

/-- EP's own part of a failure: stream closed, transfer abandoned, stopped mark cleared, discard mark set (R107, R113). -/
def State.closeFailed (s : State) : State :=
  State.lowerFlag
  { s with ep.transfer := none, ep.handshake := .ready, ep.responseDeadline := none, ep.stream := none,
           ep.partialReport := [], ep.deadline := none, ep.stopped := .no, ep.discard := true }

/-- A lone motion whose TRAVEL has failed is ended (R127). -/
def State.loneFails (s : State) : State :=
  match s.cs.lone with
  | none => s
  | some l =>
    if l.placed then
      let s := { s with cs.lone := none }
      if l.owner = .park then { s with ws.park := .no } else s
    else s

/-- EFFECTOR FAULT is raised, with the state effect of R167 and R170. -/
def State.effectorFault (kind : FailKind) (deadly : Bool) (s : State) : State :=
  let s := s.raise .effectorFault
  if deadly then s.enterHalted (.effectorFault kind) else s.enterFaulted (.effectorFault kind)

/-- A failure at the port (R113): the commands under way fail at CS, and EFFECTOR FAULT takes the station into FAULTED, or
into HALTED during a through-FAULTED ending or the stopping of a lone motion ended at entry into FAULTED (R130, R170).
`extra` is a command that failed before it was placed (R110). -/
def State.portFails (kind : FailKind) (extra : Option Command) (s : State) : State :=
  let under := (s.ep.transfer.map (·.command)).toList ++ (s.ep.stream.map (·.command)).toList ++ extra.toList
  let deadly := s.throughEnding || s.faultStopping
  let s := s.closeFailed
  let s := if under.isEmpty then s else (s.cycleFails under).loneFails
  s.effectorFault kind deadly

/-! ### Placing (R107, R110) -/

/-- A word is placed on the command lines and COMMAND FLAG raised (R107). -/
def State.raiseFlag (w : Word) (s : State) : State :=
  { s with ep.commandLines := w, ep.commandFlag := true, ep.handshake := .awaitingResume,
           ep.responseDeadline := some (s.clock + s.cfg.responseTimeout) }

/-- EP places a command, or it fails NOT READY; the discard mark clears with the first word (R110, R113). -/
def State.placeCommand (c : Command) (u : PortUser) (s : State) : State :=
  if s.effectorReady then
    State.raiseFlag c.word
      { s with ep.transfer := some { command := c, user := u, rest := c.extension s.cfg.tolerance }, ep.discard := false }
  else s.portFails .notReady (some c)

/-- A command has been taken: an interjection acts on the stream open, any other command opens its own (R107, R110, R112,
R115). -/
def State.commandTaken (c : Command) (u : PortUser) (s : State) : State :=
  match c with
  | .stopMotion =>
    if s.motionStream then
      { s with ep.stopped := .stopMotion,
               ep.deadline := s.ep.deadline.map fun d => min d (s.ep.lastResume + s.cfg.otherTimeout) }
    else s
  | .feedStop => if s.drillStream then { s with ep.stopped := .feedStop } else s
  | .halt => s
  | _ =>
    let s := { s with ep.stream := some { command := c, user := u }, ep.partialReport := [], ep.stopped := .no,
                      ep.deadline := some (s.ep.lastResume + s.cfg.completion c) }
    match c with
    | .travel _ => { s with ep.travelStart := s.own }
    | _ => s

/-- RESUME rises: COMMAND FLAG is lowered (R107, R116). -/
def State.resumeRises (s : State) : State :=
  let s := { s with lines.resume := true }
  if s.ep.handshake = .awaitingResume then
    { s with ep.commandFlag := false, ep.flagFell := s.clock, ep.handshake := .awaitingRelease, ep.lastResume := s.clock,
             ep.responseDeadline := some (s.clock + s.cfg.responseTimeout) }
  else s

/-- RESUME falls: the word's transfer is complete; the next word is placed, or the command is taken (R107). A HALT that
waited for RESUME is placed (R116). -/
def State.resumeFalls (s : State) : State :=
  let s := { s with lines.resume := false }
  if s.ep.haltWaiting then s.placeHalt
  else if s.ep.handshake = .awaitingRelease then
    match s.ep.transfer with
    | none => { s with ep.handshake := .ready, ep.responseDeadline := none }
    | some t =>
      match t.rest with
      | w :: ws => State.raiseFlag w { s with ep.transfer := some { t with rest := ws } }
      | [] =>
        State.commandTaken t.command t.user
          { s with ep.transfer := none, ep.handshake := .ready, ep.responseDeadline := none }
  else s

/-- The response timeout passes: NO RESUME, but for HALT (R107, R116). -/
def State.responseLate (s : State) : State :=
  match s.ep.responseDeadline with
  | none => s
  | some d =>
    let s := s.reach d
    if s.ep.haltWaiting then s.placeHalt
    else if s.ep.haltedMark then
      State.lowerFlag { s with ep.handshake := .ready, ep.transfer := none, ep.responseDeadline := none }
    else s.portFails .noResume none

/-- The completion deadline passes with the stream open: TIMEOUT (R112). -/
def State.completionLate (s : State) : State :=
  match s.ep.stream, s.ep.deadline with
  | some _, some d => (s.reach d).portFails .timeout none
  | _, _ => s

/-- EFFECTOR READY becomes inactive: an open stream fails, and with it a command in transfer (R110, R113). With no stream open a
transfer goes on, and its stream opens and goes on too (DEDUCED, log entry 54). -/
def State.readyFalls (width : Nat) (s : State) : State :=
  let s := { s with lines.readyLowUntil := s.clock + width }
  if s.ep.stream.isSome then s.portFails .notReady none else s

/-! ### The close of a stream (R111, R114, R115) -/

/-- The stream closes normally. -/
def State.closeStream (s : State) : State :=
  { s with ep.stream := none, ep.partialReport := [], ep.deadline := none, ep.stopped := .no }

/-- A STOP MOTION has been taken into the stream: its mark is set, or its RESUME has risen (R115). -/
def State.motionStopped (s : State) : Bool :=
  decide (s.ep.stopped = .stopMotion) ||
  (decide (s.ep.handshake = .awaitingRelease) && decide (s.ep.transfer.map (·.command) = some .stopMotion))

/-- The own position when a TRAVEL closes (R114). -/
def State.travelCloses (t : Nat) (stream : OpenStream) (stopped : Bool) (s : State) : State :=
  { s with ep.ownPos := some (if stopped then stream.lastPosition.getD s.ep.travelStart else t) }

/-- A lone motion's TRAVEL has closed: reported to its owner when it completed; waiting again when it was stopped for
clearance (R106, R127). One being ended has ended once no STOP MOTION of it is in transfer (R115). -/
def State.loneDone (stopped : Bool) (s : State) : State :=
  match s.cs.lone with
  | none => s
  | some l =>
    if l.ending.isSome then { s with cs.lone := some { l with placed := false } }
    else
      match l.owner, stopped with
      | .retreat side, false => State.retreatDone side { s with cs.lone := none }
      | .retreat _, true => { s with cs.lone := some { l with placed := false, stopAsked := false } }
      | .park, false => { s with cs.lone := none, ws.park := .no }
      | .park, true => { s with cs.lone := none, ws.park := .waitingForClearance }

/-- DONE closes the open stream (R111, R114, R115). -/
def State.doneCloses (st : OpenStream) (s : State) : State :=
  let stopped := s.motionStopped
  let s := s.closeStream
  let s := match st.command with
    | .travel t => s.travelCloses t st stopped
    | _ => s
  match st.user with
  | .lone => s.loneDone stopped
  | .cycle => s.commandDone st.command stopped
  | .port => s

/-! ### Position reports (R66, R67, R114) -/

/-- PT's check of the cycle's TRAVEL in progress (R66). -/
def State.stopCycleTravel (s : State) : State :=
  match s.cs.cycle, s.cycleTravel with
  | some cy, some t =>
    if cy.ending.isNone && !cy.stopAsked && !s.permitted t then
      { s with cs.cycle := some { cy with stopAsked := true }, cs.interject := some .stopMotion }
    else s
  | _, _ => s

/-- PT's check of a lone motion's TRAVEL in progress (R66). -/
def State.stopLoneTravel (s : State) : State :=
  match s.cs.lone, s.loneTravel with
  | some l, some t =>
    if l.ending.isNone && !l.stopAsked && !s.permitted t then
      { s with cs.lone := some { l with stopAsked := true }, cs.interject := some .stopMotion }
    else s
  | _, _ => s

/-- PT asks CS for STOP MOTION, once for each travel, when the remaining path comes too close (R66). Before the travel's first
POSITION report the path begins at the own position (DEDUCED, log entry 51). -/
def State.clearanceStop (s : State) : State := s.stopCycleTravel.stopLoneTravel

/-- The hard checks, and then the remaining path (R66, R67). -/
def State.clearanceChecks (s : State) : State :=
  match if s.ws.state.active then s.hardCheck else none with
  | some c => s.clearanceHalt c
  | none => s.clearanceStop

/-- A position beyond the travel limits by more than the position tolerance (R114). -/
def Setup.breaches (c : Setup) (p : Nat) : Bool := decide (p + c.tolerance < c.low) || decide (c.high + c.tolerance < p)

/-- A complete POSITION report: the own position, PT's checks, the travel-limit check (R114). -/
def State.positionHeard (st : OpenStream) (p : Nat) (s : State) : State :=
  let s := { s with ep.ownPos := some p, ep.partialReport := [], ep.stream := some { st with lastPosition := some p } }
  let s := s.clearanceChecks
  if s.ws.state != .halted && s.cfg.breaches p then s.clearanceHalt .travelLimit else s

/-! ### The judging of report words (R113, R190) -/

/-- What a word the stream accepts amounts to. -/
inductive Accepted where
  | part
  | done
  | position (p : Nat)
  | sample (v : Nat)
  | trailing
  | sense (kind : SenseKind) (dx dy : Int)
  | gauge (v : Nat)
  | squeeze (peak stroke : Nat)
  | pressure (v : Nat)
  deriving DecidableEq, Repr

def SenseKind.ofCode : Nat → Option SenseKind
  | 0 => some .noHole | 1 => some .openHole | 2 => some .headPresent | 3 => some .obstructed
  | _ => none

/-- Whether the open stream accepts a word at this point, by its tag, its place in a multi-word report and MARK (R111, R113,
R115, R190). `part` holds the words so far; `stopped` lets a SENSE or GAUGE stream close with DONE. -/
def acceptWord (c : Command) (part : List Data) (stopped : Bool) (tag : Nat) (d : Data) (mark : Bool) : Option Accepted :=
  match c, tag, part, mark with
  | .travel _, 2, [], false => if d.toNat ≤ 127 then some .part else none
  | .travel _, 2, [p], false => some (.position (p.toNat * 4096 + d.toNat))
  | .travel _, 1, [], true => some .done
  | .slide _, 1, _, true => some .done
  | .clamp, 1, _, true => some .done
  | .unclamp, 1, _, true => some .done
  | .retract, 1, _, true => some .done
  | .sense, 4, [], false => if d.toNat ≤ 3 then some .part else none
  | .sense, 4, [_], false => some .part
  | .sense, 4, [k, x], true => (SenseKind.ofCode k.toNat).map fun kind => .sense kind (signed12 x) (signed12 d)
  | .sense, 1, [], true => if stopped then some .done else none
  | .gauge, 5, _, true => some (.gauge d.toNat)
  | .gauge, 1, _, true => if stopped then some .done else none
  | .drill _, 3, _, false => some (.sample d.toNat)
  | .drill _, 3, _, true => some .trailing
  | .squeeze .., 6, [], false => some .part
  | .squeeze .., 6, [p], true => some (.squeeze p.toNat d.toNat)
  | .readPressure, 7, _, true => some (.pressure d.toNat)
  | _, _, _, _ => none

/-- The supply wait has failed for the third time: FAULTED (R156, R167). -/
def State.supplyFaulted (s : State) : State :=
  if Config.supplyFaultCount ≤ s.du.supplyWaits then s.enterFaulted .supplyLow else s

/-- An accepted word is taken into the stream (R111 to R115). -/
def State.acceptReport (st : OpenStream) (d : Data) (w : Accepted) (s : State) : State :=
  match w with
  | .part => { s with ep.partialReport := s.ep.partialReport ++ [d] }
  | .done => s.doneCloses st
  | .position p => s.positionHeard st p
  | .sample v => s.thrustSample v
  | .trailing => s.closeStream.drillDone
  | .sense kind dx dy => s.closeStream.senseDone kind dx dy
  | .gauge v => s.closeStream.gaugeDone v
  | .squeeze peak stroke => s.closeStream.squeezeDone peak stroke
  | .pressure v =>
    let r := s.closeStream.pressureDone v
    if r.2 then r.1.supplyFaulted else r.1

/-- A word on no open stream is ignored in UNCONFIGURED, in HALTED, and in IDLE with no ending under way (R113). -/
def State.ignoresWords (s : State) : Bool :=
  match s.ws.state with
  | .unconfigured | .halted => true
  | .idle => !s.ending
  | .waiting | .working | .finished | .faulted => false

/-- EP judges one report word (R113, R190). -/
def State.judgeWord (tag : Nat) (d : Data) (mark : Bool) (s : State) : State :=
  if s.ep.discard then s
  else
    match s.ep.stream with
    | none => if s.ignoresWords then s else s.portFails .unsolicited none
    | some st =>
      if tag = 14 then s.portFails (.fault d.toNat) none
      else if tag = 15 then s.portFails .refused none
      else
        match acceptWord st.command s.ep.partialReport s.motionStopped tag d mark with
        | some w => s.acceptReport st d w
        | none => s.portFails .unsolicited none

/-- A report word: REPORT FLAG and MARK as raised, TAKEN raised in every state, then the judgement (R108). -/
def State.takeWord (tag : Nat) (d : Data) (mark : Bool) (s : State) : State :=
  State.judgeWord tag d mark { s with lines.reportFlag := true, lines.mark := mark, ep.taken := true }

end Sys2Proof.Machine
end

