-- ==== Sys2Proof/Machine/Work.lean ====
section
/-! DEFINITION. What follows from a command without waiting for another: placing commands, work conditions, releases, finishing, selection and owed corrections (ch. 4 to 6). -/

namespace Sys2Proof.Machine

/-! ### Placing what CS has asked for (R110, R117, R119, R123, R124) -/

/-- The command is placed for the cycle, whose record is changed first. -/
def State.placeForCycle (c : Command) (f : Cycle → Cycle) (s : State) : State :=
  (s.onCycle fun cy => { f cy with task := .placed c }).placeCommand c .cycle

/-- A zone is HELD-OWN with release progress NONE: it counts as held (R70). -/
def State.zoneHeld (s : State) (side : Side) : Bool :=
  decide ((s.zone side).state = .heldOwn) && decide ((s.zone side).progress = .no)

/-- ZC's answer on a TRAVEL whose target lies in a zone or in none (R70, R100). -/
def State.zoneStands (s : State) (z : Option Side) : Bool := (z.map s.zoneHeld).getD true

/-- The zone a TRAVEL of the cycle goes into: the zone of its selection for the frozen target, the zone it lies in now for a
corrected one (R68, R121). -/
def State.cycleZone (s : State) (t : Nat) : Option Side :=
  match s.cs.cycle with
  | some cy => if cy.rail = t then cy.zone else s.zoneAt t
  | none => s.zoneAt t

/-- A TRAVEL of the cycle: issued when PU, ZC and PT permit; a refusal by ZC ends the cycle with ZONE LOST; one PT does not
permit waits, and ZC is asked again when PT permits (R119). -/
def State.tryTravel (t : Nat) (asked : Bool) (s : State) : State :=
  if !s.cfg.withinTravel t then s
  else
    let clear := s.permitted t
    if asked && !clear then s
    else if !s.zoneStands (s.cycleZone t) then s.takeEnding .zoneLost false
    else if clear then
      s.placeForCycle (.travel t) fun cy =>
        { cy with stage := if cy.stage = .claiming then .moving else cy.stage, stopAsked := false }
    else s.onCycle fun cy => { cy with task := .toPlace (.travel t) true }

/-- DRILL, once the clamp settle has run out: SA gives the sample limit and opens its record (R117, R123, R133). -/
def State.tryDrill (s : State) : State :=
  if intervalOver s.cs.lastClamp s.cfg.clampSettle s.clock then
    match s.cs.cycle.bind Cycle.claim? with
    | none => s
    | some c =>
      match lookupKey c.hole s.ps.holes with
      | none => s
      | some h =>
        State.placeForCycle (.drill (sampleLimit s.cfg h)) (fun cy => { cy with stage := .cutting })
          { s with sa := openAnalysis s.cfg c.hole h }
  else s

/-- SQUEEZE, once allowed and the intervals have run out; the set order is asked at the moment of placing (R117, R124,
R157). -/
def State.trySqueeze (cy : Cycle) (s : State) : State :=
  match cy.work, cy.grip with
  | .hole c, some (_, g) =>
    let cmd := Command.squeeze g.rivet g.pressure
    if s.du.own.state = .allowed && s.canPlace cmd
        && intervalOver s.cs.lastClamp s.cfg.clampSettle s.clock
        && intervalOver s.cs.lastSqueeze s.cfg.ramRecovery s.clock then
      if !s.setOrder c.hole then s.takeEnding .orderLost false
      else if s.effectorReady then
        State.placeForCycle cmd (fun cy => { cy with stage := .squeezing })
          (s.onIntent fun o => { o with state := .squeezing })
      else s.portFails .notReady (some cmd)
    else s
  | _, _ => s

/-- DU's ask of READ PRESSURE is placed (R124, R155). -/
def State.tryPoll (s : State) : State :=
  if s.du.own.pollAsked && s.canPlace .readPressure then
    State.placeForCycle .readPressure id (s.onIntent fun o => { o with pollAsked := false })
  else s

/-- A command of the cycle waiting to be placed. SQUEEZE never waits here: it is placed from BUDGETING (R124). -/
def State.tryTask (c : Command) (asked : Bool) (s : State) : State :=
  if !s.canPlace c then s
  else
    match c with
    | .travel t => s.tryTravel t asked
    | .drill _ => s.tryDrill
    | .sense => s.placeForCycle c fun cy => { cy with senses := cy.senses + 1 }
    | .slide q => if s.cfg.withinCross q then s.placeForCycle c id else s
    | .squeeze .. => s
    | _ => s.placeForCycle c id

/-- CS carries on a cycle that no early ending is winding up. -/
def State.carryCycle (cy : Cycle) (s : State) : State :=
  match cy.task with
  | .toPlace c asked => s.tryTask c asked
  | .placed _ => s
  | .idle =>
    match cy.stage with
    | .budgeting => (s.tryPoll).trySqueeze cy
    | .reporting => s.finishReporting cy
    | _ => s

/-- The interjection asked for is placed into its stream; it waits for a transfer under way, and there is nothing to stop
once no stream is open (R110, R115, R119). A FEED STOP not yet placed when the DRILL stream closes is given up, as R119 has it for STOP
MOTION (DEDUCED, log entry 82). -/
def State.placeInterject (s : State) : State :=
  match s.cs.interject with
  | none => s
  | some c =>
    let open_ := match c with
      | .feedStop => s.drillStream
      | _ => s.motionStream
    let user := (s.ep.stream.map (·.user)).getD .cycle
    if s.ep.transfer.isSome then s
    else if open_ && s.ep.stopped = .no then
      if s.canPlace c then State.placeCommand c user { s with cs.interject := none } else s
    else { s with cs.interject := none }

/-- The next action of a winding ending (R128). STOP MOTION is passed over when no motion stream is open, FEED STOP when no DRILL
stream is open or a FEED STOP has been taken into it; every other action waits for the stream under way to close. -/
def State.windCycle (cy : Cycle) (e : Ending) (s : State) : State :=
  let rest := fun l => { cy with ending := some { e with todo := l } }
  match e.todo with
  | [] => if cy.task = .idle && s.ep.transfer.isNone then s.finishEnding cy e else s
  | a :: l =>
    let c := a.command
    if c.interjection then
      let open_ := if a = .feedStop then s.drillStream && s.ep.stopped = .no else s.motionStream
      if s.ep.transfer.isSome then s
      else if open_ then
        if s.canPlace c then (s.setCycle (rest l)).placeCommand c .cycle else s
      else s.setCycle (rest l)
    else if cy.task = .idle && s.canPlace c then
      (s.setCycle { rest l with task := .placed c }).placeCommand c .cycle
    else s

/-- CS's cycle goes one action further. -/
def State.stepCycle (s : State) : State :=
  match s.cs.cycle with
  | none => s
  | some cy =>
    match cy.ending with
    | some e => if e.stage.goesOn then s.carryCycle cy else s.windCycle cy e
    | none => s.carryCycle cy

/-- A retreat whose zone is no longer being left: its hold has ended while the retreat waited (log entry 22). -/
def State.retreatMoot (s : State) (l : Lone) : Bool :=
  match l.owner with
  | .retreat side => decide ((s.zone side).progress ≠ .retreating)
  | .park => false

/-- A lone motion: its TRAVEL issued when PU, ZC and PT permit, or its STOP MOTION placed when it is being ended, which has ended
when neither is under way (R70, R115, R119, R127). One whose target has come to lie in a zone not held waits (DEDUCED, log entry
66), and one being ended that a STOP MOTION has stopped already takes no second one (DEDUCED, log entry 70). -/
def State.stepLone (s : State) : State :=
  match s.cs.lone with
  | none => s
  | some l =>
    if l.ending.isSome then
      if s.ep.transfer.isSome then s
      else if s.motionStream then
        if s.ep.stopped = .no && s.canPlace .stopMotion then s.placeCommand .stopMotion .lone else s
      else { s with cs.lone := none }
    else if l.placed then s
    else if s.retreatMoot l then { s with cs.lone := none }
    else if s.motionFree && s.canPlace (.travel l.target) && s.cfg.withinTravel l.target
        && s.zoneStands (s.zoneAt l.target) && s.permitted l.target then
      State.placeCommand (.travel l.target) .lone { s with cs.lone := some { l with placed := true, stopAsked := false } }
    else s

/-- The park travel: issued when PT permits, with no cycle and no other lone motion (R106, R119, R127); one stopped for
clearance is issued afresh in WORKING too (DEDUCED, log entry 55). -/
def State.stepPark (s : State) : State :=
  let t := s.cfg.park
  if s.ws.park = .waitingForClearance && s.ws.state.active && s.motionFree && s.cs.lone.isNone
      && s.canPlace (.travel t) && s.cfg.withinTravel t && s.zoneStands (s.zoneAt t) && s.permitted t then
    State.placeCommand (.travel t) .lone
      { s with cs.lone := some { owner := .park, target := t, placed := true }, ws.park := .travelling }
  else s

/-! ### The selection in hand (R99, R100) -/

/-- A selection whose seize is resolved is dropped (R99); one whose CLAIM no longer stands, at a change of its hole or
zone, is withdrawn (R100). -/
def State.stepSelection (s : State) : State :=
  match s.ws.selection with
  | none => s
  | some sel =>
    match sel.stage, sel.work, sel.zone with
    | .seizeWait, _, some side =>
      if (s.zone side).outstanding = .seize then s else { s with ws.selection := none }
    | .claimQueued, .hole c, z =>
      if s.ws.retest && !(s.inConcern c.hole && s.stateRow c && s.zoneStands z) then s.dropSelection else s
    | _, _, _ => s

/-! ### The work state (R90, R91, R105, R106) -/

/-- The three work conditions (R90). -/
def State.workConditions (s : State) : Bool := s.pu.correction.isSome && s.neighboursHeard && !s.pt.conflict

/-- A quiet point: no cycle in flight and no selection (R91). -/
def State.quietPoint (s : State) : Bool := s.cs.cycle.isNone && s.ws.selection.isNone

/-- Every hole of the concern is SET or REJECTED (R105). -/
def State.concernDone (s : State) : Bool :=
  (s.pu.concern.getD []).all fun h => ((s.ht[h]?).map (·.state.terminal)).getD false

/-- A park status that only waits is given up on the passage to WORKING (R106). -/
def State.toWorking (s : State) : State :=
  let s := s.setWork .working
  if s.ws.park = .waitingForClearance then { s with ws.park := .no } else s

/-- WAITING and WORKING after the work conditions (R90, R91). -/
def State.stepConditions (s : State) : State :=
  match s.ws.state with
  | .waiting => if s.workConditions then s.toWorking else s
  | .working | .finished => if !s.workConditions && s.quietPoint then s.setWork .waiting else s
  | .unconfigured | .idle | .faulted | .halted => s

/-- The passage into FINISHED (R105). A park TRAVEL still under way from an earlier FINISHED keeps its status (DEDUCED, log entry
53). -/
def State.toFinished (s : State) : State :=
  let s := (s.raise .finished).setWork .finished
  if s.ws.park != .travelling && s.parkCalls then { s with ws.park := .waitingForClearance } else s

/-- WORKING to FINISHED at a quiet point, and FINISHED to WORKING when the concern has a non-terminal hole (R105, R106).
R105 lists moments at which a quiet point is reached and names neither the entry into WORKING nor a hold ended by self-lapse; the finish
condition is evaluated after every command that leaves the station WORKING at a quiet point as R91 defines it (DEDUCED, log entry 79). -/
def State.stepFinish (s : State) : State :=
  match s.ws.state with
  | .working =>
    if s.quietPoint && s.concernDone && s.zc.left.state != .heldOwn && s.zc.right.state != .heldOwn && s.workConditions
    then s.toFinished else s
  | .finished => if s.pu.concern.isSome && !s.concernDone then s.toWorking else s
  | .unconfigured | .idle | .waiting | .faulted | .halted => s

/-! ### Zones (R74, R76) -/

/-- ZC's standing decisions: a request withdrawn, a release considered and carried, a request made. -/
def State.stepZone (side : Side) (s : State) : State :=
  (((s.withdrawRequest side).considerRelease side).carryRelease side)

def State.stepZones (s : State) : State := (s.stepZone .left).stepZone .right

def State.stepRequests (s : State) : State := (s.makeRequest .left).makeRequest .right

/-! ### Selection (R95 to R101) -/

/-- The zone row of R95, the zones refused at this selection left out (R72). -/
def State.zoneRow (s : State) (refused : List Side) (z : Option Side) : Bool :=
  match z with
  | none => true
  | some side => s.zoneHeld side || (decide ((s.zone side).state = .free) && !refused.contains side)

/-- A hole chosen, with its targets. -/
structure Choice where
  claim : Claim
  rail : Int
  cross : Int
  zone : Option Side
  deriving DecidableEq, Repr

/-- A hole as a choice in a phase, when it is eligible (R95). -/
def State.eligible (s : State) (refused : List Side) (phase : Phase) (h : Nat) : Option Choice :=
  match s.target? h with
  | none => none
  | some (rail, cross) =>
    let z := s.zoneAt rail
    if s.stateRow ⟨h, phase⟩ && s.permitted rail.toNat && s.zoneRow refused z then
      some { claim := ⟨h, phase⟩, rail, cross, zone := z }
    else none

/-- The nearer of two choices; the earlier, lower number at equal distance (R98). -/
def nearer (own : Nat) (a b : Choice) : Choice := if (b.rail - own).natAbs < (a.rail - own).natAbs then b else a

/-- The nearest of the eligible holes in a phase (R98). -/
def State.nearest (s : State) (refused : List Side) (phase : Phase) : Option Choice :=
  match (s.pu.concern.getD []).filterMap (s.eligible refused phase) with
  | [] => none
  | a :: l => some (l.foldl (nearer s.own) a)

/-- WS offers the CLAIM of a chosen hole, unless a claim stands or LC answers FULL (R50, R94, R100). -/
def State.offerClaim (ch : Choice) (s : State) : State :=
  if s.ws.claim.isSome || decide (Config.queueSize < s.lc.queue.length + Config.claimReserve) then s
  else
    let sel : Selection := { work := .hole ch.claim, rail := ch.rail, cross := ch.cross, zone := ch.zone,
                             stage := .claimQueued, frameId := s.lc.nextId }
    { s.offer .ws (.claim ch.claim) with ws.selection := some sel }

/-- WS asks ZC to seize a FREE zone; `none` when ZC refuses (R72, R99). -/
def State.askSeize (side : Side) (sel : Selection) (s : State) : Option State :=
  match (s.zone side).outstanding with
  | .no => some { s.sendOutstanding side .seize .seize with ws.selection := some sel }
  | .seize => some { s with ws.selection := some sel }
  | .request => none

/-- A cycle's record as it opens, with the frozen targets and the zone of its selection (R39, R68, R118). -/
def newCycle (w : Work) (rail cross : Int) (zone : Option Side) (stage : Stage) : Cycle :=
  { work := w, rail := rail.toNat, cross := cross.toNat, zone, stage, task := .toPlace (.travel rail.toNat) false }

/-- A DUE datum cycle is taken: DATUM FAULT and RETRY WAIT with a target out of reach, else IN CYCLE (R29, R98). -/
def State.takeDatum (t : Int × Int) (z : Option Side) (s : State) : State :=
  if !(s.cfg.withinTravel t.1) || !(s.cfg.withinCross t.2) then s.probeFailed
  else
    State.countCycle
      { s.setProber .inCycle none none with
        cs.cycle := some (newCycle .datum t.1 t.2 z .moving),
        ws.selection := some { work := .datum, rail := t.1, cross := t.2, zone := z, stage := .inCycle } }

/-- Case 1 of R98: the DUE datum cycle, where its zone allows it. -/
def State.datumChoice (s : State) (refused : List Side) : Option ((Int × Int) × Option Side) :=
  if s.proberStatus = some .due && s.neighboursHeard && !s.pt.conflict then
    match s.datumTargets with
    | none => none
    | some t =>
      let z := s.zoneAt t.1
      if s.zoneRow refused z then some (t, z) else none
  else none

/-- A chosen hole: its FREE zone seized first, else its CLAIM offered (R99, R100). The second part says that a zone refused
the ask. -/
def State.takeChoice (ch : Choice) (s : State) : State × Option Side :=
  match ch.zone with
  | none => (s.offerClaim ch, none)
  | some side =>
    if s.zoneHeld side then (s.offerClaim ch, none)
    else
      match s.askSeize side { work := .hole ch.claim, rail := ch.rail, cross := ch.cross, zone := ch.zone, stage := .seizeWait } with
      | some t => (t, none)
      | none => (s, some side)

/-- One choice of R98. -/
def State.choose (refused : List Side) (s : State) : State × Option Side :=
  match s.datumChoice refused with
  | some (t, z) =>
    match z with
    | none => (s.takeDatum t z, none)
    | some side =>
      if s.zoneHeld side then (s.takeDatum t z, none)
      else
        match s.askSeize side { work := .datum, rail := t.1, cross := t.2, zone := z, stage := .seizeWait } with
        | some u => (u, none)
        | none => (s, some side)
  | none =>
    if s.ws.state = .working then
      match s.nearest refused .set with
      | some ch => s.takeChoice ch
      | none =>
        match s.nearest refused .drill with
        | some ch => s.takeChoice ch
        | none => (s, none)
    else (s, none)

/-- A selection; a zone that refuses the ask is resolved without it, and WS chooses afresh (R72, R98, R99). -/
def State.select : Nat → List Side → State → State
  | 0, _, s => s
  | n + 1, refused, s =>
    match s.choose refused with
    | (t, none) => t
    | (t, some side) => State.select n (side :: refused) t

/-- A park travel stopped for clearance in WORKING has still to be completed before WS selects (R106; log entry 55). -/
def State.parkOwed (s : State) : Bool := decide (s.ws.state = .working) && decide (s.ws.park = .waitingForClearance)

/-- The conditions of R97; a selection also waits for a lone motion to end (R127). -/
def State.maySelect (s : State) : Bool :=
  (decide (s.ws.state = .working)
    || ((decide (s.ws.state = .waiting) || decide (s.ws.state = .finished)) && decide (s.proberStatus = some .due)))
  && s.quietPoint && s.cs.lone.isNone && !s.parkOwed
  && s.zc.left.progress != .due && s.zc.left.progress != .retreating
  && s.zc.right.progress != .due && s.zc.right.progress != .retreating

def State.stepSelect (s : State) : State := if s.maySelect then State.select 3 [] s else s

/-! ### Settling -/

/-- One pass over everything that may follow at once. In UNCONFIGURED and HALTED nothing does. -/
def State.settleOnce (s : State) : State :=
  if s.ws.state.online then
    let s := (s.placeInterject).stepCycle.stepLone
    let s := s.stepSelection
    let s := { s with ws.retest := false }
    let s := s.stepConditions
    let s := s.stepZones
    let s := s.stepFinish
    let s := s.stepRequests
    let s := s.stepSelect
    let s := s.stepPark
    if s.ws.state.online then s.offerOwed else s
  else s

/-- What a command leads to at once: passes enough for the longest chain of consequences. -/
def State.settle (s : State) : State := repeatState State.settleOnce 8 s

end Sys2Proof.Machine
end

