-- ==== Sys2Proof/Machine/Reception.lean ====
section
/-! DEFINITION. Reception and dispatch of frames heard, claim conflicts, and the read-back of own frames (ch. 3, 3.3, 3.7, 3.8; ch. 5, 5.5, 5.6). -/

namespace Sys2Proof.Machine

/-! ### Frames on a hole this station has claimed (R102 to R104, R129) -/

/-- The frame keeps the own claim whatever the stage (R102). -/
def Body.keepsClaim : Body → Bool
  | .claim _ => true
  | .correction m => m.rework
  | _ => false

/-- WS settles a frame passed to it: left to HT during an ending, the claim kept and asserted, or the hole abandoned. -/
def State.settleConflict (h : Heard) (n : Nat) (s : State) : State :=
  match s.cs.cycle with
  | none => s.oweCorrection n
  | some cy =>
    if cy.ending.isSome then s.setCycle { cy with left := cy.left ++ [h] }
    else if h.body.keepsClaim || cy.stage.clampingOrLater then s.oweCorrection n
    else (s.setCycle { cy with left := [h] }).takeEnding .abandon false

/-- HT's part in a frame heard: an entry held by this station's claim passes it to WS (R12). -/
def State.hearHole (h : Heard) (s : State) : State :=
  match h.body.hole? with
  | none => s
  | some n =>
    match s.ht[n]? with
    | none => s
    | some e =>
      if e.claimedBy s.k then
        if passes s.k h.body e then s.settleConflict h n else s.applyHeld h
      else s.applyToEntry h

/-! ### PRESENCE (R57, R60, R63, R66, R67, R84, R21) -/

/-- The entry a PRESENCE gives (R60). -/
def peerOf (p : Presence) (clock : Nat) : PeerEntry :=
  { status := .heard,
    info := some { state := p.state, position := p.position, target := p.target, low := p.low, high := p.high,
                   heldLeft := p.heldLeft, heldRight := p.heldRight, requestedLeft := p.requestedLeft,
                   requestedRight := p.requestedRight, claim := p.claim, check := p.check, time := clock } }

/-- PLAN MISMATCH is raised when the plan check held before was this station's or absent (R57). -/
def State.planMismatch (j : Nat) (p : Presence) (s : State) : State :=
  let before := (s.peer j).info.map (·.check)
  if p.check ≠ s.planCheck && (before = none || before = some s.planCheck) then s.raise .planMismatch else s

/-- The plan check filter, by what PT holds for j (R57): of a station for which no plan check is held, a PRESENCE passes by the check it
carries, a DATUM passes to PU, which checks its own, and nothing else does. -/
def State.planFilter (j : Nat) (b : Body) (s : State) : Bool :=
  match (s.peer j).info, b with
  | none, .presence p => decide (p.check = s.planCheck)
  | none, .datum .. => true
  | none, _ => false
  | some i, _ => decide (i.check = s.planCheck)

/-- A PRESENCE from station j: PT, then PU, the configuration, the clearance checks, ZC, and HT (R58, R60). HT has it by the
filter as it stood when the frame came: one that ends or begins a difference of plans acts on the frames that follow (R57, R60). -/
def State.hearPresence (j : Nat) (p : Presence) (s : State) : State :=
  let passes := s.planFilter j (.presence p)
  let s := s.planMismatch j p
  let s := s.setPeer j (peerOf p s.clock)
  let s := s.demand p
  let fresh : Bool := match s.cfg.sideOf j with
    | some side => decide ((s.zone side).state = .noZone)
    | none => false
  let s := match s.cfg.sideOf j with
    | some side => s.rebound side
    | none => s
  let s := s.evalConflict
  let s := match s.cfg.sideOf j with
    | some _ => s.clearanceChecks
    | none => s
  if s.ws.state = .halted then s
  else
    let s := match s.cfg.sideOf j with
      | some side => if fresh then s else s.reconcileZone side
      | none => s
    if passes then s.reconcileClaims j p.claim else s

/-! ### Dispatch (R57 to R59) -/

/-- A frame of a kind other than PRESENCE is dispatched to its block (R58). -/
def State.dispatchKind (j : Nat) (b : Body) (stamp : Stamp) (s : State) : State :=
  match b with
  | .datum d r q check => if check = s.planCheck then s.applyDatum d r q j stamp else s
  | .zone named a =>
    match s.cfg.zoneNamed j named with
    | none => s
    | some side =>
      match a with
      | .seize => s.hearSeize side
      | .release => s.hearRelease side
      | .request => s.hearRequest side
  | .draw a amount hole =>
    match a with
    | .intent => s.hearIntent j amount hole stamp
    | .done | .withdraw => s.emptyDraw j
  | .claim _ | .release _ | .report _ | .correction _ => s.hearHole { sender := j, body := b, stamp }
  | .presence _ | .owed => s

/-- Dispatch by the station state and the plan filter (R57, R59). -/
def State.dispatch (j : Nat) (b : Body) (s : State) : State :=
  match b with
  | .presence p => s.hearPresence j p
  | _ => if s.ws.state.active && s.planFilter j b then s.dispatchKind j b s.lc.stamp else s

/-- A foreign frame with this station's number: DUPLICATE STATION, its time recorded (R56). -/
def State.hearForeign (s : State) : State :=
  State.raiseFault .duplicateStation .duplicateStation { s with lc.foreignTime := some s.clock }

/-- Checks 3 to 6 of reception on a frame whose CRC has checked and whose stamp is taken (R55 to R57). The contents are decoded before
anything is made of them, so that a PRESENCE that is ignored whole raises no PLAN MISMATCH (R57, R189; DEDUCED, log entry 67). -/
def State.receive (bytes : List Byte) (s : State) : State :=
  match splitFrame bytes with
  | none => s
  | some f =>
    if f.sender = 0 || decide (s.cfg.stations < f.sender) then s
    else if f.sender = s.k then s.hearForeign
    else
      match decodeBody f.kind f.content with
      | none => s
      | some b => s.dispatch f.sender b

/-- A frame has ended on the line (R41, R48, R55): discarded for its CRC, or stamped and received. In UNCONFIGURED and HALTED
only the CRC check and the stamp are made. -/
def State.hearFrame (bytes : List Byte) (s : State) : State :=
  let s := { s with lc.rxBuffer := bytes, lc.quiet := some Config.frameEndRest }
  if !crcChecks bytes then s
  else
    let s := s.takeStamp
    if s.ws.state.online then s.receive bytes else s

/-! ### Own frames read back -/

/-- The frame closes the current claim (R94). -/
def closesClaim (f : TxFrame) (c : Claim) : Bool :=
  match f.body with
  | .release d => decide (d = c)
  | .report r => decide (r.hole = c.hole) && decide (r.phase = c.phase)
  | .correction m => decide (f.owner = .cs) && decide (m.hole = c.hole)
  | _ => false

/-- WS learns of the read-back of a closing frame: the current claim becomes none (R94). -/
def State.closeClaim (f : TxFrame) (s : State) : State :=
  match s.ws.claim with
  | none => s
  | some c => if closesClaim f c then { s with ws.claim := none } else s

/-- The state a claim's phase assumes (R101). -/
def Phase.assumed : Phase → HoleState
  | .drill => .planned
  | .set => .drilled

/-- The outcomes of R101. -/
inductive ClaimOutcome where
  | confirmed | lost | stale | unwanted
  deriving DecidableEq, Repr

/-- How the read-back of the own CLAIM is judged; `queued` says that the selection is in CLAIM QUEUED (R101). -/
def judgeClaim (k : Nat) (queued : Bool) (c : Claim) (e : HoleEntry) : ClaimOutcome :=
  if e.state.claimed && !e.claimedBy k then .lost
  else if c.phase.assumed.code < e.state.code then .stale
  else if queued then (if e.state = c.phase.assumed then .confirmed else .stale)
  else .unwanted

/-- A claim confirmed: the entry claimed by this station, the current claim taken, and the hole cycle opened (R75, R101). -/
def State.confirmClaim (sel : Selection) (c : Claim) (e : HoleEntry) (stamp : Stamp) (s : State) : State :=
  let st := match c.phase with
    | .drill => HoleState.drillClaimed
    | .set => .setClaimed
  let s := s.putEntry c.hole { e with state := st, claimant := some s.k }
  State.countCycle
    { s with ws.claim := some c, ws.selection := some { sel with stage := .inCycle, claimStamp := some stamp },
             cs.cycle := some (newCycle (.hole c) sel.rail sel.cross sel.zone .claiming) }

/-- The own CLAIM read back (R101). -/
def State.claimBack (f : TxFrame) (c : Claim) (stamp : Stamp) (s : State) : State :=
  match s.ht[c.hole]? with
  | none => s
  | some e =>
    let mine := s.ws.selection.filter fun sel => sel.frameId = f.id && (sel.stage = .claimQueued || sel.stage = .claimWithdrawn)
    let queued := (mine.map fun sel => decide (sel.stage = .claimQueued)).getD false
    let dropped := if mine.isSome then { s with ws.selection := none } else s
    match judgeClaim s.k queued c e, mine with
    | .confirmed, some sel => s.confirmClaim sel c e stamp
    | .confirmed, none => s
    | .lost, _ => dropped
    | .stale, _ => dropped
    | .unwanted, _ => dropped.offer .ws (.release c)

/-- The own PRESENCE read back: the marks clear and ZC learns the time (R53, R81). -/
def State.presenceBack (s : State) : State :=
  { s with lc.due := false, lc.promoted := false, zc.presenceBack := some s.clock }

/-- What the owner of a frame does at its read-back (R46, R58). -/
def State.ownerBack (f : TxFrame) (s : State) : State :=
  match f.body with
  | .presence _ => s.presenceBack
  | .datum d r q _ => if f.void then s else s.datumBack d r q s.lc.stamp
  | .claim c => s.claimBack f c s.lc.stamp
  | .release _ | .report _ | .correction _ => s.closeClaim f
  | .zone side a =>
    match a with
    | .seize => s.seizeBack f side s.lc.stamp
    | .request => s.requestBack f side
    | .release => s.releaseBack side
  | .draw a amount hole =>
    match a with
    | .intent => s.intentBack f amount hole s.lc.stamp
    | .done | .withdraw => s.announceBack f
  | .owed => s

/-- An attempt at a frame of the kind a command names has been read back whole: LC's account, then the owner, in every state
(R46, R52). A command that names another frame than the one being sent does nothing. -/
def State.readBack (named : Body → Bool) (s : State) : State :=
  match s.lc.attempt with
  | none => s
  | some a =>
    if named a.frame.body then
      (s.readBackWhole a.frame).ownerBack a.frame
    else s

/-- A CLAIM already withdrawn is removed when its attempt has failed (R100). -/
def State.retryWithdrawal (s : State) : State :=
  match s.ws.selection with
  | some sel => if sel.stage = .claimWithdrawn then s.dropSelection else s
  | none => s

/-- A byte read back unlike the byte sent: the attempt has failed (R46); the eighth failure in a row raises LINK FAULT (R47). WS alone asks
again for a frame's removal (R100): PU does not for a DATUM in flight at JIG OPEN, nor DU for its INTENT (DEDUCED, log entries 81 and
74). -/
def State.failAttempt (s : State) : State :=
  match s.lc.attempt with
  | none => s
  | some _ =>
    let s := s.attemptEndsFailed.retryWithdrawal
    if s.lc.failures = Config.linkFaultCount then s.raiseFault .linkFault .linkFault else s

/-! ### Peers falling silent and being lost (R61) -/

/-- A peer becomes SILENT (R61, R80). -/
def State.silence (j : Nat) (s : State) : State :=
  let s := s.setPeer j { s.peer j with status := .silent }
  match s.cfg.sideOf j with
  | some side => s.neighbourSilent side
  | none => s

/-- A peer becomes LOST: NEIGHBOUR LOST, its claims reverted, its draw entry emptied, its zone evaluated (R21, R61, R79,
R150). -/
def State.lose (j : Nat) (s : State) : State :=
  let s := (s.setPeer j { s.peer j with status := .lost }).raise .neighbourLost
  let s := (s.reconcileClaims j none).emptyDraw j
  match s.cfg.sideOf j with
  | some side => s.applyBlock side
  | none => s

end Sys2Proof.Machine
end

