-- ==== Sys2Proof/Machine/Timers.lean ====
section
/-! DEFINITION. The timers: when each falls due, what its expiry does, and the tick of an empty queue. -/

namespace Sys2Proof.Machine

/-! ### When each timer falls due; none while it is not running -/

/-- The presence interval runs in IDLE, WAITING, WORKING, FINISHED and FAULTED (R53). -/
def State.presenceDueAt (s : State) : Option Nat := if s.ws.state.online then s.lc.timer else none

/-- A VALID record's age exceeds the datum life (R25). -/
def State.datumDueAt (s : State) (d : Datum) : Option Nat :=
  match s.pu.record d with
  | ⟨.valid, some f⟩ => some (f.time + s.cfg.datumLife + 1)
  | _ => none

/-- The own record's age reaches three quarters of the datum life, in CURRENT (R28). -/
def State.proberDueAt (s : State) : Option Nat :=
  match s.proberStatus, s.ownRecord with
  | some .current, some ⟨.valid, some f⟩ => some (f.time + ceilDiv (3 * s.cfg.datumLife) 4)
  | _, _ => none

/-- The retry deadline, in RETRY WAIT (R31). -/
def State.retryDueAt (s : State) : Option Nat :=
  match s.pu.prober with
  | some ⟨.retryWait, some d, _⟩ => some d
  | _ => none

/-- Stations other than this one have an entry (R60). -/
def State.otherStation (s : State) (j : Nat) : Bool := decide (1 ≤ j) && decide (j ≤ 8) && decide (j ≠ s.k)

/-- A HEARD peer's age reaches the hold period (R61). -/
def State.silentDueAt (s : State) (j : Nat) : Option Nat :=
  if s.ws.state.online && s.otherStation j then
    match s.peer j with
    | ⟨.heard, some i⟩ => some (i.time + s.cfg.holdPeriod)
    | _ => none
  else none

/-- A SILENT peer's age reaches the loss period; one still HEARD passes through SILENT first (R61). -/
def State.lostDueAt (s : State) (j : Nat) : Option Nat :=
  if s.ws.state.online && s.otherStation j then
    match s.peer j with
    | ⟨.heard, some i⟩ | ⟨.silent, some i⟩ => some (i.time + s.cfg.lossPeriod)
    | _ => none
  else none

/-- The age of the last own PRESENCE read-back exceeds the hold period less the lapse margin, the zone HELD-OWN (R81). -/
def State.lapseDueAt (s : State) (side : Side) : Option Nat :=
  if (s.zone side).state = .heldOwn then some (s.presenceTime + (s.cfg.holdPeriod - s.cfg.lapseMargin) + 1) else none

/-- The yield deadline (R77). -/
def State.yieldDueAt (s : State) (side : Side) : Option Nat :=
  if (s.zone side).state = .yielding then (s.zone side).yieldDeadline else none

/-- An entry other than the own one reaches the draw life, in every state but HALTED (R151). -/
def State.drawDueAt (s : State) (j : Nat) : Option Nat :=
  if s.ws.state != .halted && s.otherStation j then (s.drawEntry j).map fun e => e.time + s.cfg.drawLife else none

/-- The settle deadline (R153). -/
def State.settleDueAt (s : State) : Option Nat :=
  if s.du.own.state = .settling then s.du.own.settleDeadline else none

/-- The wait deadline (R154). -/
def State.waitDueAt (s : State) : Option Nat := if s.du.own.state = .waiting then s.du.own.waitDeadline else none

/-- A READ PRESSURE of the cycle is in transfer or open. -/
def State.readingPressure (s : State) : Bool :=
  (s.ep.transfer.map (·.command)) == some .readPressure || (s.ep.stream.map (·.command)) == some .readPressure

/-- The next poll of a supply check, unless an ask is still to be placed; while a READ PRESSURE is under way the ask waits for
it to close (R155). -/
def State.pollDueAt (s : State) : Option Nat :=
  if s.du.own.state = .supplyCheck && !s.du.own.pollAsked && !s.readingPressure then s.du.own.nextPoll else none

/-- The pressure wait limit, while the last report was below the floor and no READ PRESSURE is in transfer or open (R155). -/
def State.limitDueAt (s : State) : Option Nat :=
  if s.du.own.state = .supplyCheck && s.du.own.lastBelow && !s.readingPressure then
    s.du.own.supplyStart.map fun t => t + s.cfg.pressureWait
  else none

/-- The own intent reaches the draw life in SUPPLY CHECK or ALLOWED (R157). -/
def State.renewalDueAt (s : State) : Option Nat :=
  if s.du.own.state = .supplyCheck || s.du.own.state = .allowed then some (s.du.own.readBack + s.cfg.drawLife) else none

/-- The end of the clamp settle, while a cycle is in flight to use it (R117). -/
def State.clampDueAt (s : State) : Option Nat :=
  if s.cs.cycle.isSome then s.cs.lastClamp.map fun t => t + s.cfg.clampSettle else none

/-- The end of the ram recovery, while a cycle is in flight to use it (R117). -/
def State.ramDueAt (s : State) : Option Nat :=
  if s.cs.cycle.isSome then s.cs.lastSqueeze.map fun t => t + s.cfg.ramRecovery else none

/-- The end of 10 ms without a byte in an incomplete request (R176). -/
def State.gapDueAt (s : State) : Option Nat :=
  if s.sp.rx = .receiving && !s.sp.ignoring then some (s.sp.lastByte + Config.serviceGap) else none

/-- The end of 10 ms of quiet while bytes are being ignored (R176). -/
def State.quietDueAt (s : State) : Option Nat :=
  if s.sp.rx = .receiving && s.sp.ignoring then some (s.sp.lastByte + Config.serviceGap) else none

/-- The completion deadline of the open stream (R112). -/
def State.completionDueAt (s : State) : Option Nat := if s.ep.stream.isSome then s.ep.deadline else none

/-- A timer acts at its time and not before: the clock is brought to it, and the effect made; a timer that is not running
has no effect. -/
def State.expire (due : Option Nat) (effect : State → State) (s : State) : State :=
  match due with
  | none => s
  | some t => effect (s.reach t)

/-! ### Expiries that are more than one operation -/

/-- The pressure wait limit passes (R155, R156). -/
def State.limitPasses (s : State) : State := s.supplyFails.supplyFaulted

/-- The own intent is renewed: the allowance ends and a fresh INTENT is offered (R157). -/
def State.renewIntent (s : State) : State := s.queueIntent

/-- A peer that has not yet been counted SILENT passes through SILENT into LOST (R61). -/
def State.loseAfterSilence (j : Nat) (s : State) : State :=
  State.lose j (if (s.peer j).status = .heard then s.silence j else s)

/-! ### The tick -/

/-- A due time that has come. -/
def State.isDue (s : State) (due : Option Nat) : Bool :=
  match due with
  | none => false
  | some t => decide (t ≤ s.clock)

/-- The timers that have come due, as commands. The two waiting intervals fall due once, at their end. -/
def State.dueTimers (s : State) : List Instr :=
  let one := fun (b : Bool) (i : Instr) => if b then [i] else []
  let stations := (List.range 8).map (· + 1)
  one (s.isDue s.presenceDueAt) .presenceIntervalExpiry
  ++ one (s.isDue (s.datumDueAt .a)) (.datumExpiry .a) ++ one (s.isDue (s.datumDueAt .b)) (.datumExpiry .b)
  ++ one (s.isDue s.proberDueAt) .proberAgeDue ++ one (s.isDue s.retryDueAt) .retryDeadline
  ++ stations.flatMap (fun j => one (s.isDue (s.silentDueAt j)) (.peerSilent j))
  ++ stations.flatMap (fun j => one (s.isDue (s.lostDueAt j)) (.peerLost j))
  ++ one (s.isDue (s.lapseDueAt .left)) (.selfLapse .left) ++ one (s.isDue (s.lapseDueAt .right)) (.selfLapse .right)
  ++ one (s.isDue (s.yieldDueAt .left)) (.yieldDeadline .left) ++ one (s.isDue (s.yieldDueAt .right)) (.yieldDeadline .right)
  ++ stations.flatMap (fun j => one (s.isDue (s.drawDueAt j)) (.drawEntryExpiry j))
  ++ one (s.isDue s.settleDueAt) .settleDeadline ++ one (s.isDue s.waitDueAt) .waitDeadline
  ++ one (s.isDue s.pollDueAt) .nextPoll ++ one (s.isDue s.limitDueAt) .pressureWaitLimit
  ++ one (s.isDue s.renewalDueAt) .ownIntentRenewal
  ++ one (s.clampDueAt = some s.clock) .clampSettleExpiry ++ one (s.ramDueAt = some s.clock) .ramRecoveryExpiry
  ++ one (s.isDue s.ep.responseDeadline) .responseTimeout ++ one (s.isDue s.completionDueAt) .completionDeadline
  ++ one (s.isDue s.gapDueAt) .serviceByteGap ++ one (s.isDue s.quietDueAt) .serviceLineQuiet

/-- One millisecond of the station clock on an empty queue: the timers then due are put into the queue (log entry 1). -/
def State.tick (s : State) : State :=
  let t := { s with clock := s.clock + 1 }
  { t with pending := t.dueTimers }

end Sys2Proof.Machine
end

