-- ==== Sys2Proof/Machine/Readout.lean ====
section
/-! DEFINITION. The answer data of the read requests (R183 to R187), in the encodings of ch. 12, 12.3. -/

namespace Sys2Proof.Machine

/-! ### Encodings (ch. 12, 12.3; log entry 8) -/

/-- A level or a mark as a byte: 1 when active or set. -/
def levelByte (b : Bool) : List Byte := toBytes 1 (flagNat b)

/-- A value that its owning rule lists as "set, clear" or "yes, no": the number of its place in that list. -/
def listedByte (b : Bool) : List Byte := toBytes 1 (if b then 0 else 1)

/-- An optional field: a byte that says whether it is present, then the field. -/
def optional {α : Type} (f : α → List Byte) : Option α → List Byte
  | none => toBytes 1 0
  | some a => toBytes 1 1 ++ f a

def num1 (n : Nat) : List Byte := toBytes 1 n
def num2 (n : Nat) : List Byte := toBytes 2 n
def num3 (n : Nat) : List Byte := toBytes 3 n
def num4 (n : Nat) : List Byte := toBytes 4 n

def stampBytes (t : Stamp) : List Byte := toBytes 4 t.toNat

def PlanStatus.place : PlanStatus → Nat
  | .invalid => 0 | .loading => 1 | .valid => 2

def ProberStatus.place : ProberStatus → Nat
  | .current => 0 | .due => 1 | .inCycle => 2 | .awaitingReadBack => 3 | .retryWait => 4

def PeerStatus.place : PeerStatus → Nat
  | .unknown => 0 | .heard => 1 | .silent => 2 | .lost => 3

def ZoneState.place : ZoneState → Nat
  | .noZone => 0 | .free => 1 | .heldOwn => 2 | .heldOther => 3 | .requested => 4 | .blocked => 5 | .yielding => 6

/-- The own ZONE frame outstanding: none is the first place, SEIZE and REQUEST take the codes of a ZONE frame (R69, ch. 12). -/
def Outstanding.place : Outstanding → Nat
  | .no => 0 | .seize => ZoneAction.seize.code | .request => ZoneAction.request.code

def Progress.place : Progress → Nat
  | .no => 0 | .due => 1 | .retreating => 2 | .sent => 3

def SelStage.place : SelStage → Nat
  | .seizeWait => 0 | .claimQueued => 1 | .claimWithdrawn => 2 | .inCycle => 3

def Park.place : Park → Nat
  | .no => 0 | .waitingForClearance => 1 | .travelling => 2

def Stage.place : Stage → Nat
  | .claiming => 0 | .moving => 1 | .sensing => 2 | .gauging => 3 | .clamping => 4 | .cutting => 5 | .budgeting => 6
  | .squeezing => 7 | .retracting => 8 | .reporting => 9

def EndCause.place : EndCause → Nat
  | .jigOpen => 0 | .clear => 1 | .fault => 2 | .abandon => 3 | .zoneLost => 4 | .orderLost => 5

def Handshake.place : Handshake → Nat
  | .ready => 0 | .awaitingResume => 1 | .awaitingRelease => 2

def SaStatus.place : SaStatus → Nat
  | .no => 0 | .seekingEntry => 1 | .inStack => 2 | .exited => 3 | .limitReached => 4 | .closed => 5 | .failed => 6

def IntentState.place : IntentState → Nat
  | .no => 0 | .queued => 1 | .settling => 2 | .supplyCheck => 3 | .allowed => 4 | .squeezing => 5 | .waiting => 6

/-! ### Records -/

def claimBytes (c : Claim) : List Byte := num2 (claimWord c)

def boundsBytes (b : Nat × Nat) : List Byte := num3 b.1 ++ num3 b.2

/-- A datum record: the status, and each other field by itself (R23). -/
def DatumRecord.bytes (r : DatumRecord) : List Byte :=
  num1 r.status.code ++ optional (fun f : DatumFix => num3 f.r) r.fix ++ optional (fun f : DatumFix => num2 f.q) r.fix
  ++ optional (fun f : DatumFix => num1 f.source) r.fix ++ optional (fun f : DatumFix => num4 f.time) r.fix
  ++ optional (fun f : DatumFix => stampBytes f.stamp) r.fix

/-- The correction record: the status, VALID in the first place and NONE in the second, and each other field by itself (R32);
rA is a rail position and xA a plan x, of 3 bytes each. -/
def correctionBytes (m : Option Correction) : List Byte :=
  num1 (if m.isSome then 0 else 1) ++ optional (fun c : Correction => num3 c.rA.toNat) m
  ++ optional (fun c : Correction => signedBytes c.s) m ++ optional (fun c : Correction => signedBytes c.oA) m
  ++ optional (fun c : Correction => signedBytes c.oB) m ++ optional (fun c : Correction => num3 c.xA.toNat) m
  ++ optional (fun c : Correction => signedBytes c.span) m

def Prober.bytes (p : Prober) : List Byte :=
  num1 p.status.place ++ optional num4 p.retryDeadline ++ optional (fun m : Nat × Nat => num3 m.1 ++ num2 m.2) p.measured

def ZoneRecord.bytes (z : ZoneRecord) : List Byte :=
  num1 z.state.place ++ listedByte z.pending ++ num4 z.cycles ++ listedByte z.laterSeize ++ optional stampBytes z.ownStamp
  ++ num1 z.outstanding.place ++ num1 z.progress.place ++ listedByte z.dual ++ listedByte z.releaseHeard
  ++ optional num4 z.yieldDeadline ++ optional boundsBytes z.bounds

def workBytes : Work → List Byte
  | .hole c => num1 0 ++ optional claimBytes (some c)
  | .datum => num1 1 ++ optional claimBytes none

/-- A selection, its zone an optional field: "none" is its absence, LEFT and RIGHT take their codes (R93; DESIGN CHOICE, log entry
8). Chapter 12 lays a cross position out in two bytes; the target of a datum in SEIZE WAIT can be above 65,535 (R29), and its upper
bits are not shown (DESIGN CHOICE, log entry 80). -/
def Selection.bytes (sel : Selection) : List Byte :=
  workBytes sel.work ++ num3 sel.rail.toNat ++ num2 sel.cross.toNat ++ optional (fun d => num1 (sideCode d)) sel.zone
  ++ num1 sel.stage.place ++ optional stampBytes sel.claimStamp

/-- The outcome of a cycle: none is the first place, DRILLED, SET and REJECTED take the codes of a REPORT, which are their places in
R118, and the two found outcomes their places (R118, ch. 12). -/
def outcomePlace : Option CycleOutcome → Nat
  | none => 0 | some (.drilled ..) => 1 | some (.set ..) => 2 | some (.rejected ..) => 3 | some .foundDrilled => 4
  | some .foundSet => 5

/-- The stack and plies that go with an outcome (R118, R131). -/
def CycleOutcome.measured? : CycleOutcome → Option (Nat × Nat)
  | .drilled stack plies => some (stack, plies)
  | .rejected _ m _ _ => m
  | .set .. | .foundDrilled | .foundSet => none

/-- The grip class that goes with an outcome (R118). -/
def CycleOutcome.grip? : CycleOutcome → Option Nat
  | .set grip _ _ => some grip
  | .rejected _ _ grip _ => grip
  | .drilled .. | .foundDrilled | .foundSet => none

/-- The peak and stroke that go with an outcome (R118). -/
def CycleOutcome.squeeze? : CycleOutcome → Option Squeeze
  | .set _ peak stroke => some { peak, stroke }
  | .rejected _ _ _ squeeze => squeeze
  | .drilled .. | .foundDrilled | .foundSet => none

/-- The cause that goes with an outcome (R118, R131). -/
def CycleOutcome.cause? : CycleOutcome → Option RejectCause
  | .rejected cause .. => some cause
  | .drilled .. | .set .. | .foundDrilled | .foundSet => none

/-- The stack, plies and cause of an outcome, each by itself. -/
def measuredBytes (o : Option CycleOutcome) : List Byte :=
  optional (fun m : Nat × Nat => num2 m.1) (o.bind (·.measured?)) ++ optional (fun m : Nat × Nat => num1 m.2) (o.bind (·.measured?))

def causeBytes (o : Option CycleOutcome) : List Byte := optional (fun c : RejectCause => num1 c.code) (o.bind (·.cause?))

/-- The outcome of a cycle: its place, then stack, plies, grip class, peak, stroke and cause, each by itself (R118;
DEDUCED, log entry 57). -/
def outcomeBytes (o : Option CycleOutcome) : List Byte :=
  num1 (outcomePlace o) ++ measuredBytes o ++ optional num1 (o.bind (·.grip?))
  ++ optional (fun q : Squeeze => num2 q.peak) (o.bind (·.squeeze?))
  ++ optional (fun q : Squeeze => num2 q.stroke) (o.bind (·.squeeze?)) ++ causeBytes o

/-- The outcome of an analysis: none is the first place, DRILLED and REJECTED take the codes of a REPORT (R131, ch. 12). The other
outcomes are not SA's. -/
def analysisPlace : Option CycleOutcome → Nat
  | none => 0 | some (.drilled ..) => 1 | some (.rejected ..) => 3
  | some (.set ..) | some .foundDrilled | some .foundSet => 0

/-- The outcome of an analysis: its place, then stack, plies and cause, each by itself (R131;
DEDUCED, log entry 57). -/
def analysisBytes (o : Option CycleOutcome) : List Byte := num1 (analysisPlace o) ++ measuredBytes o ++ causeBytes o

def Ending.bytes (e : Ending) : List Byte := num1 e.cause.place ++ levelByte e.through

def Cycle.bytes (cy : Cycle) : List Byte :=
  workBytes cy.work ++ num3 cy.rail ++ num2 cy.cross ++ num1 cy.stage.place ++ num4 cy.senses ++ listedByte cy.clamped
  ++ outcomeBytes cy.outcome ++ optional Ending.bytes cy.ending

def StackAnalyser.bytes (a : StackAnalyser) : List Byte :=
  num1 a.status.place ++ optional num2 a.hole ++ num2 a.nominal ++ num1 a.tolerance ++ num1 a.expected ++ num3 a.step
  ++ num3 a.te ++ num3 a.tx ++ num3 a.runK ++ num4 a.limit ++ num4 a.analysed ++ optional num4 a.entryDepth
  ++ optional num4 a.runStart ++ num4 a.runLength ++ num4 a.interfaces ++ optional num4 a.exitDepth
  ++ listedByte a.feedStopAsked ++ num4 a.overrun ++ analysisBytes a.outcome

def DrawEntry.bytes (e : DrawEntry) : List Byte := num1 e.amount ++ num2 e.hole ++ stampBytes e.stamp ++ num4 e.time

def OwnIntent.bytes (o : OwnIntent) : List Byte :=
  num1 o.state.place ++ num1 o.amount ++ num2 o.hole ++ stampBytes o.ownStamp ++ num4 o.readBack ++ listedByte o.announced
  ++ optional num4 o.settleDeadline ++ optional num4 o.waitDeadline ++ optional num4 o.supplyStart ++ optional num4 o.nextPoll

/-- The place of an effector failure's kind (R166). -/
def FailKind.place : FailKind → Nat
  | .noResume => 0 | .timeout => 1 | .fault _ => 2 | .refused => 3 | .unsolicited => 4 | .notReady => 5

def FailKind.code? : FailKind → Option Nat
  | .fault code => some code
  | .noResume | .timeout | .refused | .unsolicited | .notReady => none

/-- The place of the check of a clearance halt (R166). -/
def HaltCheck.place : HaltCheck → Nat
  | .hardGap _ => 0 | .order _ => 1 | .travelLimit => 2

def HaltCheck.neighbour? : HaltCheck → Option Nat
  | .hardGap j | .order j => some j
  | .travelLimit => none

def FaultSource.place : FaultSource → Nat
  | .linkFault => 0 | .duplicateStation => 1 | .effectorFault _ => 2 | .supplyLow => 3 | .clearanceHalt _ => 4

def FaultSource.kind? : FaultSource → Option FailKind
  | .effectorFault kind => some kind
  | .linkFault | .duplicateStation | .supplyLow | .clearanceHalt _ => none

def FaultSource.check? : FaultSource → Option HaltCheck
  | .clearanceHalt check => some check
  | .linkFault | .duplicateStation | .supplyLow | .effectorFault _ => none

/-- The fault cause: the source; of its detail the kind, the code, the check and the neighbour, each by itself; the state left,
the time, and the status, STANDING in the first place and CLEARED in the second (R166). -/
def FaultCause.bytes (c : FaultCause) : List Byte :=
  num1 c.source.place ++ optional (fun k : FailKind => num1 k.place) c.source.kind?
  ++ optional num4 (c.source.kind?.bind (·.code?)) ++ optional (fun k : HaltCheck => num1 k.place) c.source.check?
  ++ optional num1 (c.source.check?.bind (·.neighbour?)) ++ num1 c.stateLeft.code ++ num4 c.time ++ num1 (flagNat c.cleared)

def HoleEntry.bytes (e : HoleEntry) : List Byte :=
  num1 e.state.code ++ optional num1 e.claimant ++ optional num1 e.drillWorker ++ optional num1 e.setWorker
  ++ optional (fun t : Stack => num2 t.value) e.stack ++ optional (fun t : Stack => num1 t.source.code) e.stack
  ++ optional num1 e.plies ++ optional num1 e.grip ++ optional (fun q : Squeeze => num2 q.peak) e.squeeze
  ++ optional (fun q : Squeeze => num2 q.stroke) e.squeeze ++ optional (fun r : Reject => num1 r.cause.code) e.reject
  ++ optional (fun r : Reject => num1 r.phase.code) e.reject ++ num4 e.rework ++ listedByte e.owed

def PeerInfo.flagsByte (i : PeerInfo) : List Byte :=
  num1 (flagNat i.heldLeft + 2 * flagNat i.heldRight + 4 * flagNat i.requestedLeft + 8 * flagNat i.requestedRight)

/-- A peer entry's fields, the current claim as in the PRESENCE, bit 14 set when there is one (R186; DESIGN CHOICE, log entry 8). -/
def PeerInfo.bytes (i : PeerInfo) : List Byte :=
  num1 i.state.code ++ num3 i.position ++ num3 i.target ++ num3 i.low ++ num3 i.high ++ i.flagsByte
  ++ num2 (presenceClaimWord i.claim) ++ num2 i.check.toNat ++ num4 i.time

/-! ### READ STATUS (R184) -/

/-- Frame type code, hole count, group count and plan check word, each by itself (R184). -/
def headerSummary (h : Option PlanHeader) : List Byte :=
  optional (fun p : PlanHeader => num2 p.frameType) h ++ optional (fun p : PlanHeader => num2 p.holeCount) h
  ++ optional (fun p : PlanHeader => num2 p.groupCount) h ++ optional (fun p : PlanHeader => num2 p.check.toNat) h

def State.stationGroup (s : State) : List Byte :=
  num1 s.ws.state.code ++ num1 (flagNat s.setup.isSome) ++ num1 s.ps.status.place ++ headerSummary s.ps.header
  ++ levelByte s.lines.jigClosed ++ levelByte (s.clock < s.lines.resetHighUntil) ++ levelByte (s.clock < s.lines.ackHighUntil)
  ++ levelByte s.effectorReady ++ levelByte s.lines.finishedLine ++ levelByte s.lines.faultLine ++ num1 s.eu.annunciator

def State.countState (s : State) (st : HoleState) : Nat := (s.ht.filter fun e => e.state = st).length

def State.tableGroup (s : State) : List Byte :=
  ([HoleState.planned, .drillClaimed, .drilled, .setClaimed, .set, .rejected].flatMap fun st => num4 (s.countState st))
  ++ optional (fun l : List Nat => num4 l.length) s.pu.concern

def State.positionGroup (s : State) : List Byte :=
  s.pu.datumA.bytes ++ s.pu.datumB.bytes ++ correctionBytes s.pu.correction ++ optional Prober.bytes s.pu.prober

def countKind (l : List TxFrame) (kind : Nat) : Nat := (l.filter fun f => f.body.kind = kind).length

/-- The link group. Frames queued by kind are eight counts, for the kinds 1 to 8 in rising order, PRESENCE among them, and frames held
are eight more behind them (R184; DESIGN CHOICE, log entry 8). -/
def State.linkGroup (s : State) : List Byte :=
  let kinds := (List.range 8).map (· + 1)
  stampBytes s.lc.stamp ++ num4 s.lc.failures ++ num1 (flagNat s.lc.recovery)
  ++ kinds.flatMap (fun n => num4 (countKind s.lc.queue n)) ++ kinds.flatMap (fun n => num4 (countKind s.lc.held n))
  ++ num4 (Config.queueSize - s.lc.queue.length) ++ levelByte s.lc.due ++ levelByte s.lc.promoted

def State.zoneGroup (s : State) : List Byte := s.zc.left.bytes ++ s.zc.right.bytes

/-- The work group, the current claim an optional field of a hole word without bit 14 (R184; DESIGN CHOICE, log entry 8). -/
def State.workGroup (s : State) : List Byte :=
  optional Selection.bytes s.ws.selection ++ optional claimBytes s.ws.claim ++ num1 s.ws.park.place ++ levelByte s.ws.jigOpened
  ++ optional Cycle.bytes s.cs.cycle

/-- The own position, unknown while the setup is INVALID and nothing has been reported (R109, R179). -/
def State.ownKnown (s : State) : Option Nat :=
  match s.ep.ownPos with
  | some p => some p
  | none => s.setup.map (·.park)

def State.portGroup (s : State) : List Byte :=
  num1 s.ep.handshake.place ++ optional (fun t : OpenStream => num1 t.command.code) s.ep.stream ++ optional num3 s.ownKnown

def State.drawGroup (s : State) : List Byte :=
  s.du.table.flatMap (optional DrawEntry.bytes) ++ s.du.own.bytes ++ num4 s.du.supplyWaits

def State.faultGroup (s : State) : List Byte := optional FaultCause.bytes s.eu.cause ++ levelByte s.eu.linkSuccess

/-- READ STATUS: the ten groups of R184 in their order. -/
def State.statusData (s : State) : List Byte :=
  s.stationGroup ++ s.tableGroup ++ s.positionGroup ++ s.linkGroup ++ s.zoneGroup ++ s.workGroup ++ s.portGroup ++ s.sa.bytes
  ++ s.drawGroup ++ s.faultGroup

/-! ### READ HOLE, READ PEER and READ EVENTS (R185 to R187) -/

/-- READ HOLE: plan entry, table entry, targets, and whether the hole is in the concern, an optional byte of 1 when it is and 0
when it is not, absent while that is not known (R185; DESIGN CHOICE, log entry 8). -/
def State.holeData (n : Nat) (h : PlanHole) (e : HoleEntry) (s : State) : List Byte :=
  holeBytes n h ++ e.bytes ++ optional (fun t : Int × Int => signedBytes t.1) (s.target? n)
  ++ optional (fun t : Int × Int => signedBytes t.2) (s.target? n)
  ++ optional (fun l : List Nat => levelByte (l.contains n)) s.pu.concern

/-- The age of a peer's last PRESENCE; in HALTED the age at the entry (R62, R186). -/
def State.peerAge (s : State) (i : PeerInfo) : Nat := s.pt.frozen.getD s.clock - i.time

/-- READ PEER: the entry whole with its age; an UNKNOWN entry as its status alone (R186). -/
def State.peerData (j : Nat) (s : State) : List Byte :=
  let e := s.peer j
  num1 e.status.place ++
  match e.info with
  | none => []
  | some i => i.bytes ++ num4 (s.peerAge i)

/-- READ EVENTS (R187). -/
def State.eventData (s : State) : List Byte :=
  ((s.levels.zip s.eu.sources).flatMap fun p => num1 p.1 ++ listedByte p.2.pending ++ num4 p.2.count)
  ++ num1 s.eu.annunciator ++ optional FaultCause.bytes s.eu.cause

end Sys2Proof.Machine
end

