-- ==== Sys2Proof/Machine/Service.lean ====
section
/-! DEFINITION. The Service Port: taking bytes, the checks and effects of the thirteen requests, and their answers (ch. 10; R22, R172, R173). -/

namespace Sys2Proof.Machine

/-- What a request comes to: the station after it, the status, and the data of the answer. -/
structure Served where
  state : State
  status : Status
  data : List Byte
  deriving DecidableEq, Repr

/-- A request refused: it has no effect (R177, R178). -/
def State.refuse (s : State) (st : Status) (data : List Byte := []) : Served := { state := s, status := st, data }

/-- A request accepted, with what follows at once from its effect. -/
def State.accept (s : State) : Served := { state := s.settle, status := .accepted, data := [] }

/-- A read request accepted: it changes no state (R178). -/
def State.read (s : State) (data : List Byte) : Served := { state := s, status := .accepted, data }

/-! ### WRITE SETUP: ranges and agreement (R180, R181) -/

/-- A field as step 2 of R181 checks it: its payload offset, its value, its range. -/
structure FieldCheck where
  offset : Nat
  value : Nat
  low : Nat
  high : Nat
  deriving DecidableEq, Repr

def FieldCheck.passes (f : FieldCheck) : Bool := decide (f.low ≤ f.value) && decide (f.value ≤ f.high)

/-- The ranges of the 39 scalars in the order of R180, times in ms. The hard gap's upper end is the greatest G/2 there is:
check d compares it with the record's own G (log entry 19). -/
def scalarRanges : List (Nat × Nat) :=
  [(1, 8), (1, 8), (0, 524287), (0, 524287), (1, 40000), (0, 124287), (0, 40000), (0, 524287), (10000, 60000),
   (2000, 30000), (0, 2), (20, 2000), (60000, 3600000), (100, 4000), (20, 2000), (2, 100), (50, 500), (500, 5000),
   (100, 1000), (1000, 20000)]
  ++ [(1, 16), (500, 10000), (1, 255), (10, 200), (500, 20000), (0, 700), (500, 30000), (50, 1000), (100, 2000), (5, 100),
   (5000, 120000), (2000, 60000), (1000, 20000), (500, 10000), (1, 4095), (0, 4094), (2, 32), (1, 10), (20, 1000)]

/-- The scalars with their ranges; scalar i starts at payload byte 3i + 1 (ch. 12; log entry 19). -/
def Setup.scalarChecks (c : Setup) : List FieldCheck :=
  (List.range 39).map fun i =>
    let r := scalarRanges.getD i (0, 0)
    { offset := 3 * i + 1, value := c.scalars.getD i 0, low := r.1, high := r.2 }

/-- The fields of a grip class with the ranges of R144; a draw amount is compared with C by check j. -/
def GripClass.checks (g : GripClass) (o : Nat) : List FieldCheck :=
  [⟨o, g.minStack, 0, 4095⟩, ⟨o + 2, g.maxStack, 0, 4095⟩, ⟨o + 4, g.rivet, 0, 4095⟩, ⟨o + 6, g.pressure, 100, 700⟩,
   ⟨o + 8, g.draw, 1, 255⟩, ⟨o + 9, g.minStroke, 0, 4095⟩, ⟨o + 11, g.maxStroke, 0, 4095⟩]

/-- Every field in the order of the table of R180: scalars, the class count, the classes, the levels (R181 step 2). -/
def Setup.fieldChecks (c : Setup) (count : Nat) : List FieldCheck :=
  c.scalarChecks
  ++ [⟨118, count, 1, 8⟩]
  ++ (((List.range c.classes.length).zip c.classes).flatMap fun p => p.2.checks (119 + 13 * p.1))
  ++ (((List.range 14).zip c.levels).map fun p => ⟨223 + p.1, p.2, 0, 7⟩)

/-- The stack ranges of two classes share no value (R144). -/
def GripClass.apart (a b : GripClass) : Bool := decide (a.maxStack < b.minStack) || decide (b.maxStack < a.minStack)

/-- No two classes of a list share a stack value (R144). -/
def classesApart : List GripClass → Bool
  | [] => true
  | g :: l => l.all g.apart && classesApart l

/-- Check j: minimums not above maximums, no stack value shared, every draw amount at most C (R181). -/
def Setup.classesAgree (c : Setup) : Bool :=
  c.classes.all (fun g => decide (g.minStack ≤ g.maxStack) && decide (g.minStroke ≤ g.maxStroke) && decide (g.draw ≤ c.capacity))
  && classesApart c.classes

/-- The checks a to j of R181, in their order. -/
def Setup.crossChecks (c : Setup) : List Bool :=
  [decide (c.station ≤ c.stations),
   decide (c.low < c.high) && decide (20000 ≤ c.high - c.low),
   decide (c.low ≤ c.park) && decide (c.park ≤ c.high),
   decide (2 * c.hardGap ≤ c.gap),
   decide (3 * c.presenceInterval < c.holdPeriod),
   decide (c.lapseMargin + c.presenceInterval < c.holdPeriod),
   decide (2 * c.holdPeriod ≤ c.lossPeriod),
   decide (c.squeezeTimeout + c.settleInterval < c.drawLife),
   decide (c.tx < c.te) && decide (c.tx ≠ 0),
   c.classesAgree]

/-- The first check of R181, steps 2 and 3, that fails: the two bytes of data of its refusal (ch. 12; log entry 19). -/
def Setup.fault (c : Setup) (count : Nat) : Option (List Byte) :=
  match (c.fieldChecks count).find? (fun f => !f.passes) with
  | some f => some (num2 f.offset)
  | none => (c.crossChecks.findIdx? (fun ok => !ok)).map fun i => num1 0 ++ num1 (97 + i)

/-! ### WRITE SETUP: its effect (R182) -/

/-- A VALID record older than the new datum life becomes EXPIRED (R25, R182). -/
def State.expireIfOld (d : Datum) (s : State) : State :=
  match s.pu.record d with
  | ⟨.valid, some f⟩ => if s.cfg.datumLife < s.clock - f.time then s.expireDatum d else s
  | _ => s

/-- Both datum records are VALID. -/
def State.datumsValid (s : State) : Bool := decide (s.pu.datumA.status = .valid) && decide (s.pu.datumB.status = .valid)

/-- PU takes up a new setup (R27, R182). -/
def State.setupAtPosition (old : Option DatumRole) (s : State) : State :=
  let s := (s.expireIfOld .a).expireIfOld .b
  let s := if s.datumsValid then s.computeCorrection else s
  { s with pu.prober := proberAfterWrite old s.cfg.role s.pu.prober }

/-- The blocks take up an accepted setup record (R62, R63, R85, R163, R182). -/
def State.applySetup (c : Setup) (s : State) : State :=
  let old := s.setup.map (·.role)
  let s := State.relevel { s with setup := some c }
  let s := s.noZones.forgetPeers
  (s.setupAtPosition old).configured

/-- UNCONFIGURED or IDLE, with no cycle ending and no stopping of a lone motion still under way (R4, R181). -/
def State.settingOut (s : State) : Bool :=
  (decide (s.ws.state = .unconfigured) || decide (s.ws.state = .idle)) && s.cs.cycle.isNone && s.cs.lone.isNone

/-- WRITE SETUP (R181, R182). -/
def State.serveWriteSetup (c : Setup) (count : Nat) (s : State) : Served :=
  if !s.settingOut then s.refuse .wrongState
  else
    match c.fault count with
    | some data => s.refuse .badValue data
    | none => (s.applySetup c).accept

/-! ### The plan requests (R1 to R7) -/

/-- LOAD PLAN HEADER (R1, R4). -/
def State.serveHeader (h : PlanHeader) (s : State) : Served :=
  if !s.settingOut then s.refuse .wrongState
  else if h.holeCount = 0 || decide (2048 < h.holeCount) || h.groupCount = 0 || decide (256 < h.groupCount) then
    s.refuse .range
  else
    let t := { s with ps := PlanStore.withHeader h }
    (if s.ps.status = .valid then t.enterUnconfigured else t).accept

/-- The plan is LOADING and the station UNCONFIGURED or IDLE (R5, R6). -/
def State.loadingOpen (s : State) : Bool :=
  decide (s.ps.status = .loading) && (decide (s.ws.state = .unconfigured) || decide (s.ws.state = .idle))

/-- LOAD PLAN GROUP (R2, R5). -/
def State.serveGroup (n : Nat) (g : GroupEntry) (s : State) : Served :=
  if !s.loadingOpen then s.refuse .wrongState
  else if s.ps.groupCount ≤ n then s.refuse .range
  else State.accept { s with ps := s.ps.withGroup n g }

/-- LOAD PLAN HOLE (R3, R5). -/
def State.serveHole (n : Nat) (h : PlanHole) (s : State) : Served :=
  if !s.loadingOpen then s.refuse .wrongState
  else if s.ps.holeCount ≤ n || s.ps.groupCount ≤ h.group then s.refuse .range
  else State.accept { s with ps := s.ps.withHole n h }

/-- COMMIT PLAN (R6, R7). -/
def State.serveCommit (s : State) : Served :=
  if !s.loadingOpen then s.refuse .wrongState
  else
    match s.ps.commitFault with
    | some f => s.refuse f.status (num1 f.check ++ optional num2 f.number)
    | none => (State.configured { s with ps.status := .valid, ht := s.ps.freshTable }).accept

/-! ### The read requests (R183 to R187) -/

/-- READ SETUP (R183). -/
def State.serveReadSetup (s : State) : Served :=
  match s.setup with
  | some c => s.read c.bytes
  | none => s.refuse .wrongState

/-- READ STATUS (R184). -/
def State.serveReadStatus (s : State) : Served := s.read s.statusData

/-- READ HOLE (R185). -/
def State.serveReadHole (n : Nat) (s : State) : Served :=
  if s.ps.status ≠ .valid then s.refuse .wrongState
  else
    match lookupKey n s.ps.holes, s.ht[n]? with
    | some h, some e => s.read (s.holeData n h e)
    | _, _ => s.refuse .range

/-- READ PEER (R186). -/
def State.serveReadPeer (j : Nat) (s : State) : Served :=
  if s.setup.isNone then s.refuse .wrongState
  else if j = 0 || decide (8 < j) || j = s.k then s.refuse .range
  else s.read (s.peerData j)

/-- READ EVENTS (R187). -/
def State.serveReadEvents (s : State) : Served := s.read s.eventData

/-! ### ERROR CLEAR and STATION CLEAR (R172 to R174) -/

/-- The source of the recorded fault cause. -/
def State.causeSource (s : State) : Option FaultSource := s.eu.cause.map (·.source)

/-- The recorded cause still stands (R172). -/
def State.causeStands (s : State) : Bool :=
  match s.causeSource with
  | some .linkFault => !s.eu.linkSuccess
  | some .duplicateStation =>
    match s.lc.foreignTime with
    | some t => decide (s.clock < t + s.cfg.lossPeriod)
    | none => false
  | some (.effectorFault _) => !s.effectorReady
  | some .supplyLow | some (.clearanceHalt _) | none => false

/-- The effect of an accepted ERROR CLEAR in FAULTED (R148, R173). A selection in CLAIM WITHDRAWN, which entry into FAULTED kept for
the CLAIM's attempt, is kept until that attempt ends (R93, R101; DEDUCED, log entry 63). -/
def State.clearFault (s : State) : State :=
  let waits := if s.causeSource = some .supplyLow then 0 else s.du.supplyWaits
  State.land
    { s with eu.cause := s.eu.cause.map (fun c => { c with cleared := true }), du.supplyWaits := waits }

/-- ERROR CLEAR (R172, R173). -/
def State.serveErrorClear (s : State) : Served :=
  if s.ws.state ≠ .faulted then s.read []
  else if s.throughEnding || s.faultStopping then s.refuse .wrongState
  else if s.causeStands then s.refuse .causePresent
  else s.clearFault.accept

/-- STATION CLEAR (R174). -/
def State.serveStationClear (s : State) : Served := s.stationClear.accept

/-! ### REWORK HOLE (R22) -/

def ReworkTarget.state : ReworkTarget → HoleState
  | .planned => .planned
  | .drilled => .drilled

/-- The CORRECTION of a rework, its content fixed at acceptance (R22). -/
def reworkMsg (n : Nat) (target : ReworkTarget) : CorrectionMsg :=
  { hole := n, rework := true, asserted := target.state, worker := 0, stack := none, grip := none, reject := none }

/-- The entry after a rework (R22). -/
def HoleEntry.afterRework (target : ReworkTarget) (e : HoleEntry) : HoleEntry :=
  { e.bare target.state with
    drillWorker := match target with
      | .planned => none
      | .drilled => some 0
    rework := e.rework + 1 }

/-- The effect of an accepted rework (R22). -/
def State.rework (n : Nat) (target : ReworkTarget) (e : HoleEntry) (s : State) : State :=
  (s.putEntry n (e.afterRework target)).offer .ht (.correction (reworkMsg n target))

/-- REWORK HOLE (R22). -/
def State.serveRework (n : Nat) (target : ReworkTarget) (s : State) : Served :=
  if s.ps.status ≠ .valid then s.refuse .wrongState
  else
    match s.ht[n]? with
    | none => s.refuse .range
    | some e =>
      if e.state ≠ .rejected then s.refuse .wrongState
      else if Config.reworkLimit ≤ e.rework then s.refuse .limit
      else if s.ws.state.online then (s.rework n target e).accept
      else s.refuse .wrongState

/-! ### Taking requests (R176, R177) -/

/-- A request by its own checks and effect (R178). -/
def State.serve (r : Request) (s : State) : Served :=
  match r with
  | .writeSetup c count => s.serveWriteSetup c count
  | .readSetup => s.serveReadSetup
  | .loadPlanHeader h => s.serveHeader h
  | .loadPlanGroup n g => s.serveGroup n g
  | .loadPlanHole n h => s.serveHole n h
  | .commitPlan => s.serveCommit
  | .readStatus => s.serveReadStatus
  | .readHole n => s.serveReadHole n
  | .readPeer j => s.serveReadPeer j
  | .readEvents => s.serveReadEvents
  | .errorClear => s.serveErrorClear
  | .stationClear => s.serveStationClear
  | .reworkHole n target => s.serveRework n target

/-- The five checks of R177 and the effect, on a complete request. -/
def State.judgeRequest (bytes : List Byte) (s : State) : Served :=
  match parseRequest bytes with
  | .error st => s.refuse st
  | .ok r => s.serve r

/-- The answer is placed for sending (R177). -/
def Served.answered (code : Byte) (r : Served) : State :=
  { r.state with sp.answer := answerBytes code r.status r.data }

/-- A complete request is taken at its last CRC byte: the port is ANSWERING (R176). -/
def State.takeRequest (bytes : List Byte) (s : State) : State :=
  (State.judgeRequest bytes { s with sp.buffer := bytes, sp.rx := .answering }).answered (requestCode bytes)

/-- A length field of 0 or above 512: BAD-FORMAT, further bytes ignored until the line is quiet. No code has been received
to echo: it is a free value (R176; log entry 3). -/
def State.badLength (bytes : List Byte) (s : State) : State :=
  { s with sp.buffer := bytes, sp.ignoring := true, freeCount := s.freeCount + 1,
           sp.answer := answerBytes (Config.unreceivedCode s.freeCount) .badFormat [] }

/-- A byte in RECEIVING (R176). -/
def State.storeByte (b : Byte) (s : State) : State :=
  let bytes := s.sp.buffer ++ [b]
  let len := field bytes 1 2
  if bytes.length < 3 then { s with sp.buffer := bytes }
  else if bytes.length = 3 && (len = 0 || decide (Config.maxRequestLength < len)) then s.badLength bytes
  else if len + 5 ≤ bytes.length then s.takeRequest bytes
  else { s with sp.buffer := bytes }

/-- A byte on the service line (R176). -/
def State.hearByte (b : Byte) (s : State) : State :=
  let s := { s with sp.lastByte := s.clock }
  match s.sp.rx with
  | .ready => if b = startByte then { s with sp.rx := .receiving, sp.ignoring := false, sp.buffer := [b] } else s
  | .receiving => if s.sp.ignoring then s else s.storeByte b
  | .answering => s

/-- Bytes on the service line, one after another. -/
def State.hearBytes (bytes : List Byte) (s : State) : State := bytes.foldl (fun s b => s.hearByte b) s

/-- 10 ms without a byte in an incomplete request: it is discarded (R176). -/
def State.dropPartial (s : State) : State := { s with sp.rx := .ready, sp.buffer := [] }

/-- The last byte of an answer has been sent (R176). -/
def State.answerEnds (s : State) : State :=
  if s.sp.rx = .answering then { s with sp.rx := .ready } else s

/-- 10 ms of quiet while bytes are ignored (R176). -/
def State.lineQuiet (s : State) : State := { s with sp.rx := .ready, sp.ignoring := false, sp.buffer := [] }

end Sys2Proof.Machine
end

