-- ==== Sys2Proof/Machine/Lines.lean ====
section
/-! DEFINITION. The commands of the input lines: power-on, JIG CLOSED, STATION RESET, ACK and EFFECTOR READY. -/

namespace Sys2Proof.Machine

open Sys2Proof (Byte Word Data Datum Side)

/-- What a command's meaning answers. -/
abbrev Answer := Host.Outcome State Fault Refusal

/-- POWER_ON: every block at its power-on state; the input lines keep the levels they are held at, the queue and the clock
go on (R175, R188; log entries 2 and 4). -/
def execPowerOn (s : State) : Answer :=
  .next
    { State.reset with
      pending := s.pending, clock := s.clock, freeCount := s.freeCount,
      lines := { s.lines with finishedLine := false, faultLine := false } }

/-- JIG_CLOSED (R86, R88). -/
def execJigClosed (s : State) : Answer := .next s.jigCloses.settle

/-- JIG_OPEN (R89). -/
def execJigOpen (s : State) : Answer := .next s.jigOpens.settle

/-- STATION_RESET: the line becomes active and stays so for `width` ms (R174). -/
def execStationReset (width : Nat) (s : State) : Answer :=
  .next (State.stationClear { s with lines.resetHighUntil := s.clock + width }).settle

/-- ACK: the line becomes active and stays so for `width` ms (R165). -/
def execAck (width : Nat) (s : State) : Answer :=
  .next (State.acknowledge { s with lines.ackHighUntil := s.clock + width })

/-- EFFECTOR_READY_FALL: the line becomes inactive and stays so for `width` ms (R110). -/
def execEffectorReadyFall (width : Nat) (s : State) : Answer := .next (s.readyFalls width).settle

end Sys2Proof.Machine
end

