-- ==== Sys2Proof/Machine/EffectorWords.lean ====
section
/-! DEFINITION. The commands of the effector port: RESUME, deadlines and report words. -/

namespace Sys2Proof.Machine

open Sys2Proof (Byte Word Data Datum Side)

/-- RESUME_RISE (R107). -/
def execResumeRise (s : State) : Answer := .next s.resumeRises.settle

/-- RESUME_FALL (R107, R116). -/
def execResumeFall (s : State) : Answer := .next s.resumeFalls.settle

/-- RESPONSE_TIMEOUT (R107, R116). -/
def execResponseTimeout (s : State) : Answer := .next s.responseLate.settle

/-- COMPLETION_DEADLINE (R112). -/
def execCompletionDeadline (s : State) : Answer := .next s.completionLate.settle

/-- REPORT_FLAG_FALL: the drive unit lowers REPORT FLAG and MARK, and EP lowers TAKEN (R108). -/
def execReportFlagFall (s : State) : Answer :=
  .next { s with lines.reportFlag := false, lines.mark := false, ep.taken := false }

/-- The tag of a report word: bits 15..12 (ch. 12, 12.2). -/
def wordTag (w : Word) : Nat := (w.extractLsb' 12 4).toNat

/-- The data of a report word: bits 11..0 (ch. 12, 12.2). -/
def wordData (w : Word) : Data := w.extractLsb' 0 12

/-- REPORT_WORD: any report word, by its tag (R108, R113, R190). -/
def execReportWord (word : Word) (mark : Bool) (s : State) : Answer :=
  .next (s.takeWord (wordTag word) (wordData word) mark).settle

/-- DONE_REPORT: the last word of the report, tag 1 (R108, R113, R111). -/
def execDoneReport (data : Data) (mark : Bool) (s : State) : Answer := .next (s.takeWord 1 data mark).settle

/-- POSITION_REPORT: the last word of the report, tag 2 (R108, R113, R114). -/
def execPositionReport (data : Data) (mark : Bool) (s : State) : Answer := .next (s.takeWord 2 data mark).settle

/-- THRUST_REPORT: the last word of the report, tag 3 (R108, R113, R135). -/
def execThrustReport (data : Data) (mark : Bool) (s : State) : Answer := .next (s.takeWord 3 data mark).settle

/-- SENSE_REPORT: the last word of the report, tag 4 (R108, R113, R120). -/
def execSenseReport (data : Data) (mark : Bool) (s : State) : Answer := .next (s.takeWord 4 data mark).settle

/-- GAUGE_REPORT: the last word of the report, tag 5 (R108, R113, R143). -/
def execGaugeReport (data : Data) (mark : Bool) (s : State) : Answer := .next (s.takeWord 5 data mark).settle

/-- SQUEEZE_REPORT: the last word of the report, tag 6 (R108, R113, R146). -/
def execSqueezeReport (data : Data) (mark : Bool) (s : State) : Answer := .next (s.takeWord 6 data mark).settle

/-- PRESSURE_REPORT: the last word of the report, tag 7 (R108, R113, R155). -/
def execPressureReport (data : Data) (mark : Bool) (s : State) : Answer := .next (s.takeWord 7 data mark).settle

/-- FAULT_REPORT: the last word of the report, tag 14 (R108, R113, R113). -/
def execFaultReport (data : Data) (mark : Bool) (s : State) : Answer := .next (s.takeWord 14 data mark).settle

/-- REFUSED_REPORT: the last word of the report, tag 15 (R108, R113, R113). -/
def execRefusedReport (data : Data) (mark : Bool) (s : State) : Answer := .next (s.takeWord 15 data mark).settle

end Sys2Proof.Machine
end

