-- ==== Sys2Proof/Machine/Expiries.lean ====
section
/-! DEFINITION. The commands of the station's timers. -/

namespace Sys2Proof.Machine

open Sys2Proof (Byte Word Data Datum Side)

/-- PRESENCE_INTERVAL_EXPIRY (R53, R54). -/
def execPresenceIntervalExpiry (s : State) : Answer := .next (s.expire s.presenceDueAt State.presenceExpires).settle

/-- DATUM_EXPIRY (R25). -/
def execDatumExpiry (d : Datum) (s : State) : Answer := .next (s.expire (s.datumDueAt d) (State.expireDatum d)).settle

/-- PROBER_AGE_DUE (R28). -/
def execProberAgeDue (s : State) : Answer := .next (s.expire s.proberDueAt State.proberDue).settle

/-- RETRY_DEADLINE (R31). -/
def execRetryDeadline (s : State) : Answer := .next (s.expire s.retryDueAt State.retry).settle

/-- PEER_SILENT (R61, R80). -/
def execPeerSilent (j : Nat) (s : State) : Answer := .next (s.expire (s.silentDueAt j) (State.silence j)).settle

/-- PEER_LOST (R61, R21, R150). -/
def execPeerLost (j : Nat) (s : State) : Answer := .next (s.expire (s.lostDueAt j) (State.loseAfterSilence j)).settle

/-- SELF_LAPSE (R81). -/
def execSelfLapse (side : Side) (s : State) : Answer := .next (s.expire (s.lapseDueAt side) (State.selfLapsed side)).settle

/-- YIELD_DEADLINE (R77). -/
def execYieldDeadline (side : Side) (s : State) : Answer := .next (s.expire (s.yieldDueAt side) (State.yieldOver side)).settle

/-- DRAW_ENTRY_EXPIRY (R151). -/
def execDrawEntryExpiry (j : Nat) (s : State) : Answer := .next (s.expire (s.drawDueAt j) (State.emptyDraw j)).settle

/-- SETTLE_DEADLINE (R153). -/
def execSettleDeadline (s : State) : Answer := .next (s.expire s.settleDueAt State.decideDraw).settle

/-- WAIT_DEADLINE (R154). -/
def execWaitDeadline (s : State) : Answer := .next (s.expire s.waitDueAt State.freshIntent).settle

/-- NEXT_POLL (R155). -/
def execNextPoll (s : State) : Answer := .next (s.expire s.pollDueAt State.askPressure).settle

/-- PRESSURE_WAIT_LIMIT (R155, R156). -/
def execPressureWaitLimit (s : State) : Answer := .next (s.expire s.limitDueAt State.limitPasses).settle

/-- OWN_INTENT_RENEWAL (R157). -/
def execOwnIntentRenewal (s : State) : Answer := .next (s.expire s.renewalDueAt State.renewIntent).settle

/-- CLAMP_SETTLE_EXPIRY (R117). -/
def execClampSettleExpiry (s : State) : Answer := .next (s.expire s.clampDueAt id).settle

/-- RAM_RECOVERY_EXPIRY (R117). -/
def execRamRecoveryExpiry (s : State) : Answer := .next (s.expire s.ramDueAt id).settle

end Sys2Proof.Machine
end

