-- ==== Sys2Proof/Machine/Frames.lean ====
section
/-! DEFINITION. The commands of frames heard on the rail link. -/

namespace Sys2Proof.Machine

open Sys2Proof (Byte Word Data Datum Side)

/-- FRAME_DISCARDED: a frame that fails a check of reception (R55). -/
def execFrameDiscarded (frame : List Byte) (s : State) : Answer := .next (s.hearFrame frame).settle

/-- PRESENCE_RECEIVED: a frame heard, by the checks of reception (R55 to R59) to its block (R60). -/
def execPresenceReceived (frame : List Byte) (s : State) : Answer := .next (s.hearFrame frame).settle

/-- DATUM_RECEIVED: a frame heard, by the checks of reception (R55 to R59) to its block (R24). -/
def execDatumReceived (frame : List Byte) (s : State) : Answer := .next (s.hearFrame frame).settle

/-- CLAIM_RECEIVED: a frame heard, by the checks of reception (R55 to R59) to its block (R13). -/
def execClaimReceived (frame : List Byte) (s : State) : Answer := .next (s.hearFrame frame).settle

/-- RELEASE_RECEIVED: a frame heard, by the checks of reception (R55 to R59) to its block (R15). -/
def execReleaseReceived (frame : List Byte) (s : State) : Answer := .next (s.hearFrame frame).settle

/-- REPORT_DRILLED_RECEIVED: a frame heard, by the checks of reception (R55 to R59) to its block (R16). -/
def execReportDrilledReceived (frame : List Byte) (s : State) : Answer := .next (s.hearFrame frame).settle

/-- REPORT_SET_RECEIVED: a frame heard, by the checks of reception (R55 to R59) to its block (R17). -/
def execReportSetReceived (frame : List Byte) (s : State) : Answer := .next (s.hearFrame frame).settle

/-- REPORT_REJECTED_RECEIVED: a frame heard, by the checks of reception (R55 to R59) to its block (R18). -/
def execReportRejectedReceived (frame : List Byte) (s : State) : Answer := .next (s.hearFrame frame).settle

/-- CORRECTION_RECEIVED: a frame heard, by the checks of reception (R55 to R59) to its block (R14, R19). -/
def execCorrectionReceived (frame : List Byte) (s : State) : Answer := .next (s.hearFrame frame).settle

/-- REWORK_CORRECTION_RECEIVED: a frame heard, by the checks of reception (R55 to R59) to its block (R20). -/
def execReworkCorrectionReceived (frame : List Byte) (s : State) : Answer := .next (s.hearFrame frame).settle

/-- ZONE_SEIZE_RECEIVED: a frame heard, by the checks of reception (R55 to R59) to its block (R73). -/
def execZoneSeizeReceived (frame : List Byte) (s : State) : Answer := .next (s.hearFrame frame).settle

/-- ZONE_RELEASE_RECEIVED: a frame heard, by the checks of reception (R55 to R59) to its block (R78). -/
def execZoneReleaseReceived (frame : List Byte) (s : State) : Answer := .next (s.hearFrame frame).settle

/-- ZONE_REQUEST_RECEIVED: a frame heard, by the checks of reception (R55 to R59) to its block (R74). -/
def execZoneRequestReceived (frame : List Byte) (s : State) : Answer := .next (s.hearFrame frame).settle

/-- DRAW_INTENT_RECEIVED: a frame heard, by the checks of reception (R55 to R59) to its block (R149). -/
def execDrawIntentReceived (frame : List Byte) (s : State) : Answer := .next (s.hearFrame frame).settle

/-- DRAW_DONE_RECEIVED: a frame heard, by the checks of reception (R55 to R59) to its block (R150). -/
def execDrawDoneReceived (frame : List Byte) (s : State) : Answer := .next (s.hearFrame frame).settle

/-- DRAW_WITHDRAW_RECEIVED: a frame heard, by the checks of reception (R55 to R59) to its block (R150). -/
def execDrawWithdrawReceived (frame : List Byte) (s : State) : Answer := .next (s.hearFrame frame).settle

end Sys2Proof.Machine
end

