-- ==== Sys2Proof/Machine/Requests.lean ====
section
/-! DEFINITION. The commands of the service port: bytes, gaps, the end of an answer, and the thirteen requests. -/

namespace Sys2Proof.Machine

open Sys2Proof (Byte Word Data Datum Side)

/-- SERVICE_BYTE: one byte on the service line (R176). -/
def execServiceByte (b : Byte) (s : State) : Answer := .next (s.hearByte b)

/-- SERVICE_BYTE_GAP: 10 ms between two bytes of an incomplete request (R176). -/
def execServiceByteGap (s : State) : Answer := .next (s.expire s.gapDueAt State.dropPartial)

/-- ANSWER_SENT: the last byte of an answer has been sent (R176). -/
def execAnswerSent (s : State) : Answer := .next s.answerEnds

/-- SERVICE_LINE_QUIET: 10 ms of quiet while bytes are ignored (R176). -/
def execServiceLineQuiet (s : State) : Answer := .next (s.expire s.quietDueAt State.lineQuiet)

/-- WRITE_SETUP: the bytes that complete the request, taken whole at the last of them (R176, R177; R181, R182). -/
def execWriteSetup (bytes : List Byte) (s : State) : Answer := .next (s.hearBytes bytes)

/-- READ_SETUP: the bytes that complete the request, taken whole at the last of them (R176, R177; R183). -/
def execReadSetup (bytes : List Byte) (s : State) : Answer := .next (s.hearBytes bytes)

/-- LOAD_PLAN_HEADER: the bytes that complete the request, taken whole at the last of them (R176, R177; R1, R4). -/
def execLoadPlanHeader (bytes : List Byte) (s : State) : Answer := .next (s.hearBytes bytes)

/-- LOAD_PLAN_GROUP: the bytes that complete the request, taken whole at the last of them (R176, R177; R2, R5). -/
def execLoadPlanGroup (bytes : List Byte) (s : State) : Answer := .next (s.hearBytes bytes)

/-- LOAD_PLAN_HOLE: the bytes that complete the request, taken whole at the last of them (R176, R177; R3, R5). -/
def execLoadPlanHole (bytes : List Byte) (s : State) : Answer := .next (s.hearBytes bytes)

/-- COMMIT_PLAN: the bytes that complete the request, taken whole at the last of them (R176, R177; R6, R7). -/
def execCommitPlan (bytes : List Byte) (s : State) : Answer := .next (s.hearBytes bytes)

/-- READ_STATUS: the bytes that complete the request, taken whole at the last of them (R176, R177; R184). -/
def execReadStatus (bytes : List Byte) (s : State) : Answer := .next (s.hearBytes bytes)

/-- READ_HOLE: the bytes that complete the request, taken whole at the last of them (R176, R177; R185). -/
def execReadHole (bytes : List Byte) (s : State) : Answer := .next (s.hearBytes bytes)

/-- READ_PEER: the bytes that complete the request, taken whole at the last of them (R176, R177; R186). -/
def execReadPeer (bytes : List Byte) (s : State) : Answer := .next (s.hearBytes bytes)

/-- READ_EVENTS: the bytes that complete the request, taken whole at the last of them (R176, R177; R187). -/
def execReadEvents (bytes : List Byte) (s : State) : Answer := .next (s.hearBytes bytes)

/-- ERROR_CLEAR: the bytes that complete the request, taken whole at the last of them (R176, R177; R172, R173). -/
def execErrorClear (bytes : List Byte) (s : State) : Answer := .next (s.hearBytes bytes)

/-- STATION_CLEAR: the bytes that complete the request, taken whole at the last of them (R176, R177; R174). -/
def execStationClear (bytes : List Byte) (s : State) : Answer := .next (s.hearBytes bytes)

/-- REWORK_HOLE: the bytes that complete the request, taken whole at the last of them (R176, R177; R22). -/
def execReworkHole (bytes : List Byte) (s : State) : Answer := .next (s.hearBytes bytes)

end Sys2Proof.Machine
end

