-- ==== Sys2Proof/Machine/Transmission.lean ====
section
/-! DEFINITION. The commands of own transmission: the start of an attempt, its failure, and the read-backs. -/

namespace Sys2Proof.Machine

open Sys2Proof (Byte Word Data Datum Side)

/-! ### The kinds the read-back commands name -/

def Body.isPresence : Body → Bool
  | .presence _ => true
  | _ => false

def Body.isDatum : Body → Bool
  | .datum .. => true
  | _ => false

def Body.isClaim : Body → Bool
  | .claim _ => true
  | _ => false

def Body.isRelease : Body → Bool
  | .release _ => true
  | _ => false

def Body.isReport : Body → Bool
  | .report _ => true
  | _ => false

def Body.isCorrection : Body → Bool
  | .correction _ => true
  | _ => false

def Body.isSeize : Body → Bool
  | .zone _ .seize => true
  | _ => false

def Body.isZoneRequest : Body → Bool
  | .zone _ .request => true
  | _ => false

def Body.isZoneRelease : Body → Bool
  | .zone _ .release => true
  | _ => false

def Body.isIntent : Body → Bool
  | .draw .intent _ _ => true
  | _ => false

def Body.isWithdraw : Body → Bool
  | .draw .withdraw _ _ => true
  | _ => false

def Body.isDone : Body → Bool
  | .draw .done _ _ => true
  | _ => false

/-- TRANSMIT_START: the line has been quiet for `quiet` bit times (R45). -/
def execTransmitStart (quiet : Nat) (s : State) : Answer := .next (s.transmit quiet)

/-- ATTEMPT_FAILED: a byte read back unlike the byte sent (R46, R47). -/
def execAttemptFailed (s : State) : Answer := .next s.failAttempt.settle

/-- PRESENCE_READ_BACK: the attempt in progress, a frame of this kind, read back whole (R46; R53, R81). -/
def execPresenceReadBack (s : State) : Answer := .next (s.readBack Body.isPresence).settle

/-- DATUM_READ_BACK: the attempt in progress, a frame of this kind, read back whole (R46; R30). -/
def execDatumReadBack (s : State) : Answer := .next (s.readBack Body.isDatum).settle

/-- CLAIM_READ_BACK: the attempt in progress, a frame of this kind, read back whole (R46; R101). -/
def execClaimReadBack (s : State) : Answer := .next (s.readBack Body.isClaim).settle

/-- RELEASE_READ_BACK: the attempt in progress, a frame of this kind, read back whole (R46; R94). -/
def execReleaseReadBack (s : State) : Answer := .next (s.readBack Body.isRelease).settle

/-- REPORT_READ_BACK: the attempt in progress, a frame of this kind, read back whole (R46; R94). -/
def execReportReadBack (s : State) : Answer := .next (s.readBack Body.isReport).settle

/-- CORRECTION_READ_BACK: the attempt in progress, a frame of this kind, read back whole (R46; R94). -/
def execCorrectionReadBack (s : State) : Answer := .next (s.readBack Body.isCorrection).settle

/-- ZONE_SEIZE_READ_BACK: the attempt in progress, a frame of this kind, read back whole (R46; R72). -/
def execZoneSeizeReadBack (s : State) : Answer := .next (s.readBack Body.isSeize).settle

/-- ZONE_REQUEST_READ_BACK: the attempt in progress, a frame of this kind, read back whole (R46; R74). -/
def execZoneRequestReadBack (s : State) : Answer := .next (s.readBack Body.isZoneRequest).settle

/-- ZONE_RELEASE_READ_BACK: the attempt in progress, a frame of this kind, read back whole (R46; R77). -/
def execZoneReleaseReadBack (s : State) : Answer := .next (s.readBack Body.isZoneRelease).settle

/-- DRAW_INTENT_READ_BACK: the attempt in progress, a frame of this kind, read back whole (R46; R152). -/
def execDrawIntentReadBack (s : State) : Answer := .next (s.readBack Body.isIntent).settle

/-- DRAW_WITHDRAW_READ_BACK: the attempt in progress, a frame of this kind, read back whole (R46; R154). -/
def execDrawWithdrawReadBack (s : State) : Answer := .next (s.readBack Body.isWithdraw).settle

/-- DRAW_DONE_READ_BACK: the attempt in progress, a frame of this kind, read back whole (R46; R158). -/
def execDrawDoneReadBack (s : State) : Answer := .next (s.readBack Body.isDone).settle

end Sys2Proof.Machine
end

