-- ==== Sys2Proof/Machine/Dispatch.lean ====
section
/-! DEFINITION. The meaning of every command of the table, one arm for each. -/

namespace Sys2Proof.Machine

def exec (i : Instr) (s : State) : Host.Outcome State Fault Refusal :=
  match i with
  | .powerOn => Sys2Proof.Machine.execPowerOn s
  | .jigClosed => Sys2Proof.Machine.execJigClosed s
  | .jigOpen => Sys2Proof.Machine.execJigOpen s
  | .stationReset width => Sys2Proof.Machine.execStationReset width s
  | .ack width => Sys2Proof.Machine.execAck width s
  | .effectorReadyFall width => Sys2Proof.Machine.execEffectorReadyFall width s
  | .serviceByte b => Sys2Proof.Machine.execServiceByte b s
  | .serviceByteGap => Sys2Proof.Machine.execServiceByteGap s
  | .answerSent => Sys2Proof.Machine.execAnswerSent s
  | .writeSetup bytes => Sys2Proof.Machine.execWriteSetup bytes s
  | .readSetup bytes => Sys2Proof.Machine.execReadSetup bytes s
  | .loadPlanHeader bytes => Sys2Proof.Machine.execLoadPlanHeader bytes s
  | .loadPlanGroup bytes => Sys2Proof.Machine.execLoadPlanGroup bytes s
  | .loadPlanHole bytes => Sys2Proof.Machine.execLoadPlanHole bytes s
  | .commitPlan bytes => Sys2Proof.Machine.execCommitPlan bytes s
  | .readStatus bytes => Sys2Proof.Machine.execReadStatus bytes s
  | .readHole bytes => Sys2Proof.Machine.execReadHole bytes s
  | .readPeer bytes => Sys2Proof.Machine.execReadPeer bytes s
  | .readEvents bytes => Sys2Proof.Machine.execReadEvents bytes s
  | .errorClear bytes => Sys2Proof.Machine.execErrorClear bytes s
  | .stationClear bytes => Sys2Proof.Machine.execStationClear bytes s
  | .reworkHole bytes => Sys2Proof.Machine.execReworkHole bytes s
  | .frameDiscarded frame => Sys2Proof.Machine.execFrameDiscarded frame s
  | .presenceReceived frame => Sys2Proof.Machine.execPresenceReceived frame s
  | .datumReceived frame => Sys2Proof.Machine.execDatumReceived frame s
  | .claimReceived frame => Sys2Proof.Machine.execClaimReceived frame s
  | .releaseReceived frame => Sys2Proof.Machine.execReleaseReceived frame s
  | .reportDrilledReceived frame => Sys2Proof.Machine.execReportDrilledReceived frame s
  | .reportSetReceived frame => Sys2Proof.Machine.execReportSetReceived frame s
  | .reportRejectedReceived frame => Sys2Proof.Machine.execReportRejectedReceived frame s
  | .correctionReceived frame => Sys2Proof.Machine.execCorrectionReceived frame s
  | .reworkCorrectionReceived frame => Sys2Proof.Machine.execReworkCorrectionReceived frame s
  | .zoneSeizeReceived frame => Sys2Proof.Machine.execZoneSeizeReceived frame s
  | .zoneReleaseReceived frame => Sys2Proof.Machine.execZoneReleaseReceived frame s
  | .zoneRequestReceived frame => Sys2Proof.Machine.execZoneRequestReceived frame s
  | .drawIntentReceived frame => Sys2Proof.Machine.execDrawIntentReceived frame s
  | .drawDoneReceived frame => Sys2Proof.Machine.execDrawDoneReceived frame s
  | .drawWithdrawReceived frame => Sys2Proof.Machine.execDrawWithdrawReceived frame s
  | .transmitStart quiet => Sys2Proof.Machine.execTransmitStart quiet s
  | .attemptFailed => Sys2Proof.Machine.execAttemptFailed s
  | .presenceReadBack => Sys2Proof.Machine.execPresenceReadBack s
  | .datumReadBack => Sys2Proof.Machine.execDatumReadBack s
  | .claimReadBack => Sys2Proof.Machine.execClaimReadBack s
  | .releaseReadBack => Sys2Proof.Machine.execReleaseReadBack s
  | .reportReadBack => Sys2Proof.Machine.execReportReadBack s
  | .correctionReadBack => Sys2Proof.Machine.execCorrectionReadBack s
  | .zoneSeizeReadBack => Sys2Proof.Machine.execZoneSeizeReadBack s
  | .zoneRequestReadBack => Sys2Proof.Machine.execZoneRequestReadBack s
  | .zoneReleaseReadBack => Sys2Proof.Machine.execZoneReleaseReadBack s
  | .drawIntentReadBack => Sys2Proof.Machine.execDrawIntentReadBack s
  | .drawWithdrawReadBack => Sys2Proof.Machine.execDrawWithdrawReadBack s
  | .drawDoneReadBack => Sys2Proof.Machine.execDrawDoneReadBack s
  | .presenceIntervalExpiry => Sys2Proof.Machine.execPresenceIntervalExpiry s
  | .datumExpiry d => Sys2Proof.Machine.execDatumExpiry d s
  | .proberAgeDue => Sys2Proof.Machine.execProberAgeDue s
  | .retryDeadline => Sys2Proof.Machine.execRetryDeadline s
  | .peerSilent j => Sys2Proof.Machine.execPeerSilent j s
  | .peerLost j => Sys2Proof.Machine.execPeerLost j s
  | .selfLapse side => Sys2Proof.Machine.execSelfLapse side s
  | .yieldDeadline side => Sys2Proof.Machine.execYieldDeadline side s
  | .drawEntryExpiry j => Sys2Proof.Machine.execDrawEntryExpiry j s
  | .settleDeadline => Sys2Proof.Machine.execSettleDeadline s
  | .waitDeadline => Sys2Proof.Machine.execWaitDeadline s
  | .nextPoll => Sys2Proof.Machine.execNextPoll s
  | .pressureWaitLimit => Sys2Proof.Machine.execPressureWaitLimit s
  | .ownIntentRenewal => Sys2Proof.Machine.execOwnIntentRenewal s
  | .clampSettleExpiry => Sys2Proof.Machine.execClampSettleExpiry s
  | .ramRecoveryExpiry => Sys2Proof.Machine.execRamRecoveryExpiry s
  | .resumeRise => Sys2Proof.Machine.execResumeRise s
  | .resumeFall => Sys2Proof.Machine.execResumeFall s
  | .responseTimeout => Sys2Proof.Machine.execResponseTimeout s
  | .completionDeadline => Sys2Proof.Machine.execCompletionDeadline s
  | .reportFlagFall => Sys2Proof.Machine.execReportFlagFall s
  | .reportWord word mark => Sys2Proof.Machine.execReportWord word mark s
  | .doneReport data mark => Sys2Proof.Machine.execDoneReport data mark s
  | .positionReport data mark => Sys2Proof.Machine.execPositionReport data mark s
  | .thrustReport data mark => Sys2Proof.Machine.execThrustReport data mark s
  | .senseReport data mark => Sys2Proof.Machine.execSenseReport data mark s
  | .gaugeReport data mark => Sys2Proof.Machine.execGaugeReport data mark s
  | .squeezeReport data mark => Sys2Proof.Machine.execSqueezeReport data mark s
  | .pressureReport data mark => Sys2Proof.Machine.execPressureReport data mark s
  | .faultReport data mark => Sys2Proof.Machine.execFaultReport data mark s
  | .refusedReport data mark => Sys2Proof.Machine.execRefusedReport data mark s
  | .serviceLineQuiet => Sys2Proof.Machine.execServiceLineQuiet s

end Sys2Proof.Machine
end

