-- ==== Sys2Proof/WellFormed.lean ====
section
/-! DEFINITION. Well-formed commands: operands within the ranges of the wires, and frames and requests that are their row's. `exec` is total and asks for none of this. -/

namespace Sys2Proof

open Sys2Proof.Machine

/-! ### What the wires can carry (ch. 12) -/

/-- The work states a PRESENCE carries (ch. 12, 12.1). -/
def sentState (w : WorkState) : Bool := decide (w ≠ .unconfigured) && decide (w ≠ .halted)

def claimFits (c : Claim) : Bool := decide (c.hole ≤ Config.holeMax)

/-- A PRESENCE with every field in its range. -/
def presenceFits (p : Presence) : Bool :=
  sentState p.state && decide (p.position ≤ Config.railMax) && decide (p.target ≤ Config.railMax)
  && decide (p.low ≤ Config.railMax) && decide (p.high ≤ Config.railMax) && (p.claim.map claimFits).getD true

/-- A REPORT with every field in its range. -/
def reportFits (r : Report) : Bool :=
  decide (r.hole ≤ Config.holeMax) && (r.stack.map (fun v => decide (v < 65536))).getD true && decide (r.plies < 8)
  && decide (r.grip < 8) && decide (r.peak < 4096) && decide (r.stroke < 4096)

/-- A CORRECTION with every field in its range: a reject cause exactly with REJECTED, a rework asserting PLANNED or DRILLED. -/
def correctionFits (m : CorrectionMsg) : Bool :=
  decide (m.hole ≤ Config.holeMax) && decide (m.worker ≤ 8) && (m.stack.map (fun t => decide (t.value < 65536))).getD true
  && (m.grip.map (fun g => decide (g < 8))).getD true && (m.reject.isSome == decide (m.asserted = .rejected))
  && (!m.rework || decide (m.asserted = .planned) || decide (m.asserted = .drilled))

/-- A frame's contents that the wire can carry. -/
def bodyFits : Body → Bool
  | .presence p => presenceFits p
  | .datum _ r q _ => decide (r ≤ Config.railMax) && decide (q ≤ Config.crossMax)
  | .claim c => claimFits c
  | .release c => claimFits c
  | .report r => reportFits r
  | .correction m => correctionFits m
  | .zone .. => true
  | .draw _ amount hole => decide (amount < 256) && decide (hole ≤ Config.holeMax)
  | .owed => false

def classFits (g : GripClass) : Bool :=
  decide (g.minStack < 65536) && decide (g.maxStack < 65536) && decide (g.rivet < 65536) && decide (g.pressure < 65536)
  && decide (g.draw < 256) && decide (g.minStroke < 65536) && decide (g.maxStroke < 65536)

/-- A setup record that the WRITE SETUP payload can carry, with its class count byte. -/
def setupFits (c : Setup) (count : Nat) : Bool :=
  c.scalars.all (fun v => decide (v < 16777216)) && c.classes.all classFits && decide (c.classes.length ≤ 8)
  && decide (count = c.classes.length) && decide (c.levels.length = 14) && c.levels.all (fun v => decide (v < 256))

def headerFits (h : PlanHeader) : Bool :=
  decide (h.frameType < 65536) && decide (h.holeCount < 65536) && decide (h.groupCount < 65536)
  && decide (h.xA < 16777216) && decide (h.yA < 65536) && decide (h.xB < 16777216) && decide (h.yB < 65536)

def groupFits (n : Nat) (g : GroupEntry) : Bool := decide (n < 256) && decide (g.size < 256) && decide (g.start < 256)

def holeFits (n : Nat) (h : PlanHole) : Bool :=
  decide (n < 65536) && decide (h.x < 16777216) && decide (h.y < 65536) && decide (h.group < 256) && decide (h.index < 256)
  && decide (h.nominal < 65536) && decide (h.tolerance < 256) && decide (h.plies < 256)

/-- A request that the service port's framing can carry. -/
def requestFits : Request → Bool
  | .writeSetup c count => setupFits c count
  | .loadPlanHeader h => headerFits h
  | .loadPlanGroup n g => groupFits n g
  | .loadPlanHole n h => holeFits n h
  | .readHole n => decide (n < 65536)
  | .readPeer j => decide (j < 256)
  | .reworkHole n _ => decide (n < 65536)
  | .readSetup | .commitPlan | .readStatus | .readEvents | .errorClear | .stationClear => true

/-- What a frame says, if its CRC, kind, length and codes check and its sender is 1..8 (R42, R55, R189). -/
def frameBody (frame : List Byte) : Option Body :=
  if crcChecks frame then
    (splitFrame frame).bind fun f => if 1 ≤ f.sender ∧ f.sender ≤ 8 then decodeBody f.kind f.content else none
  else none

/-- A frame whose body meets a test. -/
def frameIs (p : Body → Bool) (frame : List Byte) : Bool := ((frameBody frame).map p).getD false

/-- The bytes are a whole request by their start byte and length field (R176). -/
def wholeRequest (bytes : List Byte) : Bool :=
  decide (bytes.head? = some startByte) && decide (3 < bytes.length) && decide (bytes.length = field bytes 1 2 + 5)

/-- The bytes that complete a request: at least one, at most the longest request, and of this code when they are a whole
request (R176, R178). -/
def requestIs (code : Nat) (bytes : List Byte) : Bool :=
  decide (bytes ≠ []) && decide (bytes.length ≤ Config.maxRequestLength + 5)
  && (!wholeRequest bytes || decide ((requestCode bytes).toNat = code))

/-- A station number (R60). -/
def stationNumber (j : Nat) : Bool := decide (1 ≤ j) && decide (j ≤ 8)

/-- Well-formedness of a command. -/
def Instr.wf : Instr → Bool
  | .powerOn | .jigClosed | .jigOpen => true
  | .stationReset w | .ack w | .effectorReadyFall w => decide (0 < w)
  | .serviceByte _ | .serviceByteGap | .answerSent | .serviceLineQuiet => true
  | .writeSetup b => requestIs 1 b
  | .readSetup b => requestIs 2 b
  | .loadPlanHeader b => requestIs 3 b
  | .loadPlanGroup b => requestIs 4 b
  | .loadPlanHole b => requestIs 5 b
  | .commitPlan b => requestIs 6 b
  | .readStatus b => requestIs 7 b
  | .readHole b => requestIs 8 b
  | .readPeer b => requestIs 9 b
  | .readEvents b => requestIs 10 b
  | .errorClear b => requestIs 11 b
  | .stationClear b => requestIs 12 b
  | .reworkHole b => requestIs 13 b
  | .frameDiscarded f => decide (f ≠ [])
  | .presenceReceived f => frameIs (fun b => match b with | .presence _ => true | _ => false) f
  | .datumReceived f => frameIs (fun b => match b with | .datum .. => true | _ => false) f
  | .claimReceived f => frameIs (fun b => match b with | .claim _ => true | _ => false) f
  | .releaseReceived f => frameIs (fun b => match b with | .release _ => true | _ => false) f
  | .reportDrilledReceived f =>
    frameIs (fun b => match b with | .report r => decide (r.outcome = .drilled) | _ => false) f
  | .reportSetReceived f => frameIs (fun b => match b with | .report r => decide (r.outcome = .set) | _ => false) f
  | .reportRejectedReceived f =>
    frameIs (fun b => match b with
      | .report r => match r.outcome with | .rejected _ => true | _ => false
      | _ => false) f
  | .correctionReceived f => frameIs (fun b => match b with | .correction m => !m.rework | _ => false) f
  | .reworkCorrectionReceived f => frameIs (fun b => match b with | .correction m => m.rework | _ => false) f
  | .zoneSeizeReceived f => frameIs (fun b => match b with | .zone _ .seize => true | _ => false) f
  | .zoneReleaseReceived f => frameIs (fun b => match b with | .zone _ .release => true | _ => false) f
  | .zoneRequestReceived f => frameIs (fun b => match b with | .zone _ .request => true | _ => false) f
  | .drawIntentReceived f => frameIs (fun b => match b with | .draw .intent .. => true | _ => false) f
  | .drawDoneReceived f => frameIs (fun b => match b with | .draw .done .. => true | _ => false) f
  | .drawWithdrawReceived f => frameIs (fun b => match b with | .draw .withdraw .. => true | _ => false) f
  | .transmitStart quiet => decide (Config.baseGap ≤ quiet)
  | .attemptFailed => true
  | .presenceReadBack | .datumReadBack | .claimReadBack | .releaseReadBack | .reportReadBack | .correctionReadBack
  | .zoneSeizeReadBack | .zoneRequestReadBack | .zoneReleaseReadBack | .drawIntentReadBack | .drawWithdrawReadBack
  | .drawDoneReadBack => true
  | .presenceIntervalExpiry | .datumExpiry _ | .proberAgeDue | .retryDeadline => true
  | .peerSilent j | .peerLost j | .drawEntryExpiry j => stationNumber j
  | .selfLapse _ | .yieldDeadline _ | .settleDeadline | .waitDeadline | .nextPoll | .pressureWaitLimit
  | .ownIntentRenewal | .clampSettleExpiry | .ramRecoveryExpiry => true
  | .resumeRise | .resumeFall | .responseTimeout | .completionDeadline | .reportFlagFall => true
  | .reportWord .. => true
  | .doneReport d m => decide (d = 0) && m
  | .positionReport _ m => !m
  | .thrustReport .. => true
  | .senseReport _ m | .gaugeReport _ m | .squeezeReport _ m | .pressureReport _ m => m
  | .faultReport .. => true
  | .refusedReport d _ => decide (d = 0)

end Sys2Proof
end

