-- ==== Sys2Proof/Safety.lean ====
section
/-! DEFINITION. What counts as a safe run, in the terms the statements use: a station that never drives its carriage into another's, shows what it knows, and never overfills its queue. -/

namespace Sys2Proof.Machine

/-- LC's queue never holds more than 16 frames (R49). -/
def State.queueFits (s : State) : Prop := s.lc.queue.length ≤ Config.queueSize

/-- The annunciator shows the highest level among pending sources (R164). -/
def State.annunciatorAgrees (s : State) : Prop := s.eu.annunciator = highestPending s.levels s.eu.sources

/-- The FINISHED line is driven exactly in FINISHED, the FAULT line exactly in FAULTED and HALTED (R86, R168, R171). -/
def State.linesAgree (s : State) : Prop :=
  (s.lines.finishedLine = true ↔ s.ws.state = .finished)
  ∧ (s.lines.faultLine = true ↔ s.ws.state = .faulted ∨ s.ws.state = .halted)

/-- A station out of UNCONFIGURED has its setup and a VALID plan (R87), and the hole table has one entry for each hole of a
VALID plan and none otherwise (R11). -/
def State.configuredWhole (s : State) : Prop :=
  (s.ws.state ≠ .unconfigured → s.setup.isSome = true ∧ s.ps.status = .valid)
  ∧ s.ht.length = if s.ps.status = .valid then s.ps.holeCount else 0

/-- In IDLE the jig is open (R86, R92). -/
def State.idleIsOpen (s : State) : Prop := s.ws.state = .idle → s.lines.jigClosed = false

/-- Fourteen event sources, fourteen levels of at most 7, and the annunciator at the highest pending one (R161, R164). -/
def State.eventsWhole (s : State) : Prop :=
  s.eu.sources.length = 14 ∧ s.levels.length = 14 ∧ (∀ l ∈ s.levels, l ≤ 7) ∧ s.annunciatorAgrees

/-- The plan store's groups and holes stand in rising number, each below the header's counts (R1, R2, R3, R5). -/
def State.planOrdered (s : State) : Prop :=
  (s.ps.groups.map (·.1)).Pairwise (· < ·) ∧ (s.ps.holes.map (·.1)).Pairwise (· < ·)
  ∧ (∀ e ∈ s.ps.groups, e.1 < s.ps.groupCount) ∧ ∀ e ∈ s.ps.holes, e.1 < s.ps.holeCount

/-- A name that an owner keeps for a frame of access class 0 names no other frame (R51). -/
def State.namesClass0 (s : State) (id : Nat) : Prop :=
  id < s.lc.nextId ∧ ∀ f ∈ s.lc.queue ++ s.lc.held, f.id = id → f.body.accessClass = 0

/-- A name that ZC or WS keeps for its frame is already given, and names no frame of DU's (R51). -/
def State.ownName (s : State) (id : Nat) : Prop :=
  id < s.lc.nextId ∧ ∀ f ∈ s.lc.queue ++ s.lc.held, f.id = id → f.owner ≠ .du

/-- Frames bear names already given, two owners' never the same one, and the names that ZC, WS and DU keep to ask for their frames'
removal are their own (R51, R74, R100, R159). -/
def State.namesGiven (s : State) : Prop :=
  (∀ f ∈ s.lc.queue ++ s.lc.held, f.id < s.lc.nextId ∧ ∀ g ∈ s.lc.queue ++ s.lc.held, g.id = f.id → g.owner = f.owner)
  ∧ (∀ side, (s.zone side).outstanding ≠ .no → s.ownName (s.zone side).frameId)
  ∧ (∀ x, s.ws.selection = some x → x.stage = .claimQueued ∨ x.stage = .claimWithdrawn → s.ownName x.frameId)
  ∧ ∀ id, s.du.own.intentId = some id → id < s.lc.nextId

/-- LC's queue stands in the order of access class (R49). The rest rules out states that no run reaches: the names
ZC and DU keep for replacement are those of ZONE and DRAW frames (R51, R73, R154), and every name is given and its owner's own. -/
def State.queueOrdered (s : State) : Prop :=
  (s.lc.queue.map (·.body.accessClass)).Pairwise (· ≤ ·)
  ∧ (s.zc.left.outstanding ≠ .no → s.namesClass0 s.zc.left.frameId)
  ∧ (s.zc.right.outstanding ≠ .no → s.namesClass0 s.zc.right.frameId)
  ∧ (∀ id, s.du.own.withdrawId = some id → s.namesClass0 id)
  ∧ s.namesGiven

/-- In HALTED no attempt is in progress, no stream is open, no cycle or lone motion goes on, and nothing is in transfer to the
drive unit but HALT (R116). -/
def State.haltedSilent (s : State) : Prop :=
  s.ws.state = .halted →
    s.lc.attempt = none ∧ s.ep.stream = none ∧ s.cs.cycle = none ∧ s.cs.lone = none
    ∧ (s.ep.transfer = none ∨ s.ep.transfer = some { command := .halt, user := .port, rest := [] })

/-- A peer entry and a draw entry for each of the eight stations, and no zone whose bounds are the wrong way round (R60, R68, R147). -/
def State.tablesWhole (s : State) : Prop :=
  s.pt.peers.length = 8 ∧ s.du.table.length = 8 ∧ ∀ side b, (s.zone side).bounds = some b → b.1 ≤ b.2

/-! ### The rows of the table by what they carry -/

/-- The row of a request, carrying all of its bytes. -/
def requestRow (r : Request) : Instr :=
  match r with
  | .writeSetup .. => .writeSetup r.bytes
  | .readSetup => .readSetup r.bytes
  | .loadPlanHeader _ => .loadPlanHeader r.bytes
  | .loadPlanGroup .. => .loadPlanGroup r.bytes
  | .loadPlanHole .. => .loadPlanHole r.bytes
  | .commitPlan => .commitPlan r.bytes
  | .readStatus => .readStatus r.bytes
  | .readHole _ => .readHole r.bytes
  | .readPeer _ => .readPeer r.bytes
  | .readEvents => .readEvents r.bytes
  | .errorClear => .errorClear r.bytes
  | .stationClear => .stationClear r.bytes
  | .reworkHole .. => .reworkHole r.bytes

/-- The row of a frame heard, by what it says. -/
def heardRow (b : Body) (frame : List Byte) : Instr :=
  match b with
  | .presence _ => .presenceReceived frame
  | .datum .. => .datumReceived frame
  | .claim _ => .claimReceived frame
  | .release _ => .releaseReceived frame
  | .report r =>
    match r.outcome with
    | .drilled => .reportDrilledReceived frame
    | .set => .reportSetReceived frame
    | .rejected _ => .reportRejectedReceived frame
  | .correction m => if m.rework then .reworkCorrectionReceived frame else .correctionReceived frame
  | .zone _ .seize => .zoneSeizeReceived frame
  | .zone _ .release => .zoneReleaseReceived frame
  | .zone _ .request => .zoneRequestReceived frame
  | .draw .intent _ _ => .drawIntentReceived frame
  | .draw .done _ _ => .drawDoneReceived frame
  | .draw .withdraw _ _ => .drawWithdrawReceived frame
  | .owed => .frameDiscarded frame

/-- Every row that brings a frame heard. -/
def frameRows (frame : List Byte) : List Instr :=
  [.frameDiscarded frame, .presenceReceived frame, .datumReceived frame, .claimReceived frame, .releaseReceived frame,
   .reportDrilledReceived frame, .reportSetReceived frame, .reportRejectedReceived frame, .correctionReceived frame,
   .reworkCorrectionReceived frame, .zoneSeizeReceived frame, .zoneReleaseReceived frame, .zoneRequestReceived frame,
   .drawIntentReceived frame, .drawDoneReceived frame, .drawWithdrawReceived frame]

/-- The row of a read-back, by what the frame in the attempt says. -/
def readBackRow : Body → Instr
  | .presence _ => .presenceReadBack
  | .datum .. => .datumReadBack
  | .claim _ => .claimReadBack
  | .release _ => .releaseReadBack
  | .report _ => .reportReadBack
  | .correction _ => .correctionReadBack
  | .zone _ .seize => .zoneSeizeReadBack
  | .zone _ .request => .zoneRequestReadBack
  | .zone _ .release => .zoneReleaseReadBack
  | .draw .intent _ _ => .drawIntentReadBack
  | .draw .withdraw _ _ => .drawWithdrawReadBack
  | .draw .done _ _ => .drawDoneReadBack
  | .owed => .attemptFailed

/-! ### Situations the statements speak of -/

/-- A frame has ended on the line with its CRC good: kept, and stamped (R48). -/
def State.heard (frame : List Byte) (s : State) : State :=
  { s with lc.rxBuffer := frame, lc.quiet := Config.frameEndRest, lc.stamp := s.lc.stamp + 1 }

/-- A block's frame waits with LC, queued or held (R49). -/
def State.offered (s : State) (o : Owner) (b : Body) : Prop := ∃ f ∈ s.lc.queue ++ s.lc.held, f.owner = o ∧ f.body = b

/-- From s to u every field of the zone's record but the state and the bounds has been cleared, and the state is what the neighbour's
last PRESENCE shows (R84's first row with R79, R85). -/
def State.zoneCleared (s u : State) (side : Side) : Prop :=
  ((s.zone side).state = .noZone → (u.zone side).state = .noZone)
  ∧ ∀ i, (s.zone side).state ≠ .noZone → s.sideInfo side = some i →
      u.zone side = { state := if s.planDiffers side then .blocked else if i.heldFor side then .heldOther
                               else if s.neighbourInside side then .blocked else .free,
                      bounds := (s.zone side).bounds }

/-- From s to u the zone has been given up as at JIG OPEN and at entry into FAULTED: its record cleared, a RELEASE offered for a hold
and for nothing else, its outstanding frame removed, or left in flight to change nothing at its read-back (R85). -/
def State.zoneGivenUp (s u : State) (side : Side) : Prop :=
  s.zoneCleared u side
  ∧ ((s.zone side).state = .heldOwn → u.offered .zc (.zone side .release))
  ∧ ((s.zone side).state ≠ .heldOwn → u.offered .zc (.zone side .release) → s.offered .zc (.zone side .release))
  ∧ ((s.zone side).outstanding ≠ .no → s.inFlight (s.zone side).frameId = false →
      ∀ f ∈ u.lc.queue ++ u.lc.held, f.id ≠ (s.zone side).frameId)
  ∧ ((s.zone side).outstanding ≠ .no → s.inFlight (s.zone side).frameId = true →
      ∃ a, u.lc.attempt = some a ∧ a.frame.id = (s.zone side).frameId ∧ a.frame.void = true)

/-- From s to u the own intent has been given up by its state: an INTENT queued removed, one that stands withdrawn and its entry
emptied, a WITHDRAW already offered left, a squeeze left to its end; the announcement and the supply wait count kept (R159). -/
def State.intentGivenUp (s u : State) : Prop :=
  u.du.own.announced = s.du.own.announced ∧ u.du.supplyWaits = s.du.supplyWaits
  ∧ (s.du.own.state = .squeezing → u.du = s.du)
  ∧ (s.du.own.state ≠ .squeezing → u.du.own.state = .no)
  ∧ (s.du.own.state = .no ∨ s.du.own.state = .waiting ∨ s.du.own.state = .squeezing →
      u.du.table = s.du.table ∧ ∀ a n h, u.offered .du (.draw a n h) ↔ s.offered .du (.draw a n h))
  ∧ (s.du.own.state = .queued → u.du.table = s.du.table ∧ (∀ a n h, u.offered .du (.draw a n h) → s.offered .du (.draw a n h))
      ∧ ∀ id, s.du.own.intentId = some id → s.inFlight id = false → ∀ f ∈ u.lc.queue ++ u.lc.held, f.id ≠ id)
  ∧ (s.du.own.state = .settling ∨ s.du.own.state = .supplyCheck ∨ s.du.own.state = .allowed →
      u.offered .du (.draw .withdraw 0 s.du.own.hole) ∧ u.drawEntry s.k = none
      ∧ ∀ j, 1 ≤ j → 1 ≤ s.k → j ≠ s.k → u.drawEntry j = s.drawEntry j)

/-- From s to u DU has sent a fresh INTENT of the same amount and hole: in the place of its WITHDRAW where LC still keeps that and no
attempt at it is in progress, else as a new frame behind the frames of class 0 (R51, R154). -/
def State.freshlyIntended (s u : State) : Prop :=
  u = { s with lc := u.lc, du := { s.du with own := u.du.own } }
  ∧ u.du.own.state = .queued ∧ u.du.own.amount = s.du.own.amount ∧ u.du.own.hole = s.du.own.hole
  ∧ (∀ id, s.du.own.withdrawId = some id → (∃ f ∈ s.lc.queue ++ s.lc.held, f.id = id) → s.inFlight id = false →
      let swap := fun f : TxFrame => if f.id = id then { f with body := .draw .intent s.du.own.amount s.du.own.hole } else f
      u.du.own.intentId = some id ∧ u.lc = { s.lc with queue := s.lc.queue.map swap, held := s.lc.held.map swap })
  ∧ ((∀ id, s.du.own.withdrawId = some id → (∀ f ∈ s.lc.queue ++ s.lc.held, f.id ≠ id) ∨ s.inFlight id = true) →
      u.du.own.intentId = some s.lc.nextId
      ∧ ∃ g : TxFrame, g.id = s.lc.nextId ∧ g.owner = .du ∧ g.body = .draw .intent s.du.own.amount s.du.own.hole
        ∧ (s.lc.queue.length < Config.queueSize → ∃ a b : List TxFrame, s.lc.queue = a ++ b
            ∧ u.lc = { s.lc with queue := a ++ g :: b, nextId := s.lc.nextId + 1 }
            ∧ (∀ f ∈ a, f.body.accessClass = 0) ∧ ∀ f, b.head? = some f → f.body.accessClass ≠ 0)
        ∧ (Config.queueSize ≤ s.lc.queue.length →
            u.lc = { s.lc with held := s.lc.held ++ [g], nextId := s.lc.nextId + 1 }))

/-- Station j is another station of the line (R55, R56). -/
def State.otherOnLine (s : State) (j : Nat) : Prop := 1 ≤ j ∧ j ≤ 8 ∧ j ≤ s.cfg.stations ∧ j ≠ s.k

/-- Frames of station j of every kind are dispatched: the state lets them be, and j works to this plan (R57, R59). -/
def State.dispatches (s : State) (j : Nat) : Prop :=
  s.ws.state.active = true ∧ s.otherOnLine j ∧ ∃ i, (s.peer j).info = some i ∧ i.check = s.planCheck

/-- The station as it takes a whole request: the port ANSWERING, the bytes in its buffer (R176). -/
def State.taking (r : Request) (s : State) : State :=
  { s with sp := { rx := .answering, ignoring := false, buffer := r.bytes, answer := s.sp.answer, lastByte := s.clock } }

/-- The station with a request answered and nothing else changed. -/
def State.answering (r : Request) (st : Status) (data : List Byte) (s : State) : State :=
  { s with sp := { rx := .answering, ignoring := false, buffer := r.bytes,
                   answer := answerBytes (BitVec.ofNat 8 r.code) st data, lastByte := s.clock } }

end Sys2Proof.Machine
end

