-- ==== Sys2Proof/Certificates/Slice0/Obligations.lean ====
section
/-! DEFINITION. The statements for the provers, each from the rules of spec/ it cites in OBLIGATIONS.json. -/

open Sys2Proof Sys2Proof.Machine

/-! ### The machine -/

/-- A step takes the command at the front of the queue and runs its meaning with the queue's rest; every command goes on. -/
def Obligations.StepRunsFrontCommand : Prop :=
  ∀ (c : Instr) (rest : List Instr) (s : State),
    step { s with pending := c :: rest } = exec c { s with pending := rest } ∧ ∃ t : State, exec c s = .next t

/-- The place of a timer's command among those that fall due in one millisecond (log entry 1). -/
def Sys2Proof.Machine.timerPlace : Instr → Nat
  | .presenceIntervalExpiry => 0 | .datumExpiry .a => 1 | .datumExpiry .b => 2 | .proberAgeDue => 3 | .retryDeadline => 4
  | .peerSilent j => 4 + j | .peerLost j => 12 + j | .selfLapse .left => 21 | .selfLapse .right => 22
  | .yieldDeadline .left => 23 | .yieldDeadline .right => 24 | .drawEntryExpiry j => 24 + j | .settleDeadline => 33
  | .waitDeadline => 34 | .nextPoll => 35 | .pressureWaitLimit => 36 | .ownIntentRenewal => 37 | .clampSettleExpiry => 38
  | .ramRecoveryExpiry => 39 | .responseTimeout => 40 | .completionDeadline => 41 | .serviceByteGap => 42
  | .serviceLineQuiet => 43 | _ => 44

/-- On an empty queue a step is one millisecond of the station clock, and queues the timers then due, each once and in the order of
`timerPlace`: this is the model's choice (log entry 1). The timers due are those whose time has come, and no others: the presence
interval's out of UNCONFIGURED and HALTED (R53); a VALID datum's past the datum life (R25); a CURRENT prober's at three quarters of
it (R28) and its retry deadline (R31); a heard peer's at the hold period, and one not yet lost at the loss period (R61); a held
zone's self-lapse (R81) and a yield deadline (R77); another station's draw entry's at the draw life, out of HALTED (R151); the own
intent's settle (R153), wait (R154), poll and pressure wait limit (R155) and renewal (R157); the response (R107) and completion
(R112) deadlines; a service line's 10 ms without a byte (R176). The two waiting intervals of R117 fall due at their end while a
cycle is in flight (log entry 12, DEDUCED). -/
def Obligations.EmptyQueueTicks : Prop :=
  (∀ s : State, s.pending = [] →
    step s = .next { s with clock := s.clock + 1, pending := State.dueTimers { s with clock := s.clock + 1 } })
  ∧ ∀ s : State,
    s.dueTimers.Pairwise (fun a b => timerPlace a < timerPlace b)
    ∧ ∀ c, c ∈ s.dueTimers ↔
      (c = .presenceIntervalExpiry ∧ s.ws.state ≠ .unconfigured ∧ s.ws.state ≠ .halted ∧ ∃ t, s.lc.timer = some t ∧ t ≤ s.clock)
      ∨ (∃ d f, c = .datumExpiry d ∧ s.pu.record d = ⟨.valid, some f⟩ ∧ f.time + s.cfg.datumLife < s.clock)
      ∨ (c = .proberAgeDue ∧ s.proberStatus = some .current
          ∧ ∃ f, s.ownRecord = some ⟨.valid, some f⟩ ∧ 4 * f.time + 3 * s.cfg.datumLife ≤ 4 * s.clock)
      ∨ (c = .retryDeadline ∧ ∃ t m, s.pu.prober = some ⟨.retryWait, some t, m⟩ ∧ t ≤ s.clock)
      ∨ (∃ j i, c = .peerSilent j ∧ s.ws.state ≠ .unconfigured ∧ s.ws.state ≠ .halted ∧ 1 ≤ j ∧ j ≤ 8 ∧ j ≠ s.k
          ∧ s.peer j = ⟨.heard, some i⟩ ∧ i.time + s.cfg.holdPeriod ≤ s.clock)
      ∨ (∃ j i, c = .peerLost j ∧ s.ws.state ≠ .unconfigured ∧ s.ws.state ≠ .halted ∧ 1 ≤ j ∧ j ≤ 8 ∧ j ≠ s.k
          ∧ (s.peer j = ⟨.heard, some i⟩ ∨ s.peer j = ⟨.silent, some i⟩) ∧ i.time + s.cfg.lossPeriod ≤ s.clock)
      ∨ (∃ side, c = .selfLapse side ∧ (s.zone side).state = .heldOwn
          ∧ s.presenceTime + (s.cfg.holdPeriod - s.cfg.lapseMargin) < s.clock)
      ∨ (∃ side t, c = .yieldDeadline side ∧ (s.zone side).state = .yielding ∧ (s.zone side).yieldDeadline = some t ∧ t ≤ s.clock)
      ∨ (∃ j e, c = .drawEntryExpiry j ∧ s.ws.state ≠ .halted ∧ 1 ≤ j ∧ j ≤ 8 ∧ j ≠ s.k ∧ s.drawEntry j = some e
          ∧ e.time + s.cfg.drawLife ≤ s.clock)
      ∨ (c = .settleDeadline ∧ s.du.own.state = .settling ∧ ∃ t, s.du.own.settleDeadline = some t ∧ t ≤ s.clock)
      ∨ (c = .waitDeadline ∧ s.du.own.state = .waiting ∧ ∃ t, s.du.own.waitDeadline = some t ∧ t ≤ s.clock)
      ∨ (c = .nextPoll ∧ s.du.own.state = .supplyCheck ∧ s.du.own.pollAsked = false ∧ s.readingPressure = false
          ∧ ∃ t, s.du.own.nextPoll = some t ∧ t ≤ s.clock)
      ∨ (c = .pressureWaitLimit ∧ s.du.own.state = .supplyCheck ∧ s.du.own.lastBelow = true ∧ s.readingPressure = false
          ∧ ∃ t, s.du.own.supplyStart = some t ∧ t + s.cfg.pressureWait ≤ s.clock)
      ∨ (c = .ownIntentRenewal ∧ (s.du.own.state = .supplyCheck ∨ s.du.own.state = .allowed)
          ∧ s.du.own.readBack + s.cfg.drawLife ≤ s.clock)
      ∨ (c = .clampSettleExpiry ∧ s.cs.cycle ≠ none ∧ ∃ t, s.cs.lastClamp = some t ∧ t + s.cfg.clampSettle = s.clock)
      ∨ (c = .ramRecoveryExpiry ∧ s.cs.cycle ≠ none ∧ ∃ t, s.cs.lastSqueeze = some t ∧ t + s.cfg.ramRecovery = s.clock)
      ∨ (c = .responseTimeout ∧ ∃ t, s.ep.responseDeadline = some t ∧ t ≤ s.clock)
      ∨ (c = .completionDeadline ∧ s.ep.stream ≠ none ∧ ∃ t, s.ep.deadline = some t ∧ t ≤ s.clock)
      ∨ (c = .serviceByteGap ∧ s.sp.rx = .receiving ∧ s.sp.ignoring = false ∧ s.sp.lastByte + 10 ≤ s.clock)
      ∨ (c = .serviceLineQuiet ∧ s.sp.rx = .receiving ∧ s.sp.ignoring = true ∧ s.sp.lastByte + 10 ≤ s.clock)

/-- After reset: WS UNCONFIGURED with nothing selected, claimed or parked; no setup; no plan; no hole entries; LC with stamp 0,
nothing queued, held, sent or due; every peer UNKNOWN; both zones NONE; no draw entries and no own intent; a DUE prober; CS, EP,
SA and SP at rest; the default levels, no flag, count or cause; both output lines released. That COMMAND FLAG and TAKEN are low
(log entry 5) and that the command queue is empty (log entry 48) are the model's choices. -/
def Obligations.ResetValues : Prop :=
  State.reset.ws.state = .unconfigured ∧ State.reset.ws.selection = none ∧ State.reset.ws.claim = none
  ∧ State.reset.ws.park = .no ∧ State.reset.ws.jigOpened = false
  ∧ State.reset.setup = none ∧ State.reset.ps.status = .invalid ∧ State.reset.ps.header = none ∧ State.reset.ht = []
  ∧ State.reset.lc.stamp = 0 ∧ State.reset.lc.queue = [] ∧ State.reset.lc.held = [] ∧ State.reset.lc.attempt = none
  ∧ State.reset.lc.slot = none ∧ State.reset.lc.due = false ∧ State.reset.lc.promoted = false ∧ State.reset.lc.timer = none
  ∧ State.reset.lc.failures = 0 ∧ State.reset.lc.recovery = false ∧ State.reset.lc.foreignTime = none
  ∧ State.reset.candidate = none
  ∧ (∀ j, State.reset.peer j = { status := .unknown, info := none }) ∧ State.reset.pt.conflict = false
  ∧ State.reset.zc.left.state = .noZone ∧ State.reset.zc.right.state = .noZone
  ∧ (∀ j, State.reset.drawEntry j = none) ∧ State.reset.du.own.state = .no ∧ State.reset.du.own.announced = false
  ∧ State.reset.du.supplyWaits = 0
  ∧ State.reset.pu.datumA.status = .absent ∧ State.reset.pu.datumB.status = .absent ∧ State.reset.pu.correction = none
  ∧ State.reset.proberStatus = some .due
  ∧ State.reset.cs.cycle = none ∧ State.reset.cs.lone = none ∧ State.reset.cs.lastClamp = none
  ∧ State.reset.cs.lastSqueeze = none
  ∧ State.reset.ep.handshake = .ready ∧ State.reset.ep.transfer = none ∧ State.reset.ep.stream = none
  ∧ State.reset.ep.stopped = .no ∧ State.reset.ep.discard = false ∧ State.reset.ep.haltedMark = false
  ∧ State.reset.ep.ownPos = none ∧ State.reset.ep.commandFlag = false ∧ State.reset.ep.taken = false
  ∧ State.reset.sa.status = .no ∧ State.reset.sa.outcome = none ∧ State.reset.sp.rx = .ready
  ∧ State.reset.eu.annunciator = 0 ∧ State.reset.levels = defaultLevels
  ∧ (∀ r ∈ State.reset.eu.sources, r.pending = false ∧ r.count = 0) ∧ State.reset.eu.cause = none
  ∧ State.reset.eu.linkSuccess = false
  ∧ State.reset.lines.faultLine = false ∧ State.reset.lines.finishedLine = false ∧ State.reset.pending = []

/-- POWER_ON puts every block into its power-on state, from any state, and releases the two output lines. That the input lines JIG
CLOSED, STATION RESET, ACK, EFFECTOR READY, RESUME, REPORT FLAG and MARK keep the levels they are held at (log entry 4) and that the
command queue and the clock go on (log entry 2) are the model's choices. -/
def Obligations.PowerOnRestores : Prop :=
  ∀ s : State, ∃ t : State, exec .powerOn s = .next t
    ∧ t.ps = State.reset.ps ∧ t.setup = State.reset.setup ∧ t.ht = State.reset.ht ∧ t.pu = State.reset.pu
    ∧ t.lc = State.reset.lc ∧ t.pt = State.reset.pt ∧ t.zc = State.reset.zc ∧ t.ws = State.reset.ws
    ∧ t.cs = State.reset.cs ∧ t.ep = State.reset.ep ∧ t.sa = State.reset.sa ∧ t.du = State.reset.du
    ∧ t.eu = State.reset.eu ∧ t.sp = State.reset.sp
    ∧ t.lines.jigClosed = s.lines.jigClosed ∧ t.lines.resetHighUntil = s.lines.resetHighUntil
    ∧ t.lines.ackHighUntil = s.lines.ackHighUntil ∧ t.lines.readyLowUntil = s.lines.readyLowUntil
    ∧ t.lines.resume = s.lines.resume ∧ t.lines.reportFlag = s.lines.reportFlag ∧ t.lines.mark = s.lines.mark
    ∧ t.lines.finishedLine = false ∧ t.lines.faultLine = false
    ∧ t.pending = s.pending ∧ t.clock = s.clock

/-- What follows a command at once leaves these as they are: the queue, the clock, the setup, the plan, the service port, the
peers, the datum view, the input lines and the link's counts. In UNCONFIGURED and HALTED nothing follows at all. -/
def Obligations.SettlingFrame : Prop :=
  (∀ s : State, s.settle.pending = s.pending ∧ s.settle.clock = s.clock ∧ s.settle.freeCount = s.freeCount
    ∧ s.settle.setup = s.setup ∧ s.settle.ps = s.ps ∧ s.settle.sp = s.sp
    ∧ s.settle.pt.peers = s.pt.peers ∧ s.settle.pt.conflict = s.pt.conflict
    ∧ s.settle.pu.datumA = s.pu.datumA ∧ s.settle.pu.datumB = s.pu.datumB ∧ s.settle.pu.correction = s.pu.correction
    ∧ s.settle.pu.concern = s.pu.concern
    ∧ s.settle.lines.jigClosed = s.lines.jigClosed ∧ s.settle.lines.resume = s.lines.resume
    ∧ s.settle.lines.reportFlag = s.lines.reportFlag ∧ s.settle.lines.mark = s.lines.mark
    ∧ s.settle.lines.readyLowUntil = s.lines.readyLowUntil
    ∧ s.settle.lc.stamp = s.lc.stamp ∧ s.settle.lc.failures = s.lc.failures ∧ s.settle.lc.recovery = s.lc.recovery
    ∧ s.settle.lc.rxBuffer = s.lc.rxBuffer ∧ s.settle.lc.foreignTime = s.lc.foreignTime
    ∧ s.settle.ep.ownPos = s.ep.ownPos ∧ s.settle.ep.taken = s.ep.taken
    ∧ s.settle.ht.length = s.ht.length)
  ∧ ∀ s : State, s.ws.state = .unconfigured ∨ s.ws.state = .halted → s.settle = s

/-- The rows that bring bytes on the service line. -/
def Sys2Proof.Machine.onServiceLine : Instr → Bool
  | .serviceByte _ | .writeSetup _ | .readSetup _ | .loadPlanHeader _ | .loadPlanGroup _ | .loadPlanHole _ | .commitPlan _
  | .readStatus _ | .readHole _ | .readPeer _ | .readEvents _ | .errorClear _ | .stationClear _ | .reworkHole _ => true
  | _ => false

/-- Power-on is the only way out of HALTED, and no command but power-on and what the terminal sends changes the setup record or the
plan store. -/
def Obligations.PowerOnAndTerminalAlone : Prop :=
  (∀ (c : Instr) (s : State), s.ws.state = .halted → c ≠ .powerOn → ∃ t : State, exec c s = .next t ∧ t.ws.state = .halted)
  ∧ ∀ (c : Instr) (s : State), c ≠ .powerOn → onServiceLine c = false →
    ∃ t : State, exec c s = .next t ∧ t.setup = s.setup ∧ t.ps = s.ps

/-- What a command newly places on the way to the drive unit. A TRAVEL: its target lies within the travel limits (R40) and PT
permits it (R65), a cycle's TRAVEL into a zone only while that zone is HELD-OWN with release progress NONE, and a lone motion's only
while it is HELD-OWN (R70). A SQUEEZE: only for a hole whose set order condition holds (R124). PT permits a path that keeps the
minimum gap from the occupied interval of every existing adjacent neighbour, each of which has been heard (R64, R65). The zone of a
cycle's TRAVEL is that of its selection for the frozen target, and for a corrected one the zone it lies in (R68). How a cycle goes
on with the command it has to place, the port being free for it: a TRAVEL out of the limits is not issued; one whose zone does not
stand ends the cycle with ZONE LOST; one PT does not permit waits, and ZC is asked again when PT permits (R119); else it is issued,
and takes CLAIMING to MOVING. A DRILL waits for the clamp settle, and is then placed with SA's record opened and the stage CUTTING
(R117, R123). A SQUEEZE waits for DU's allowance, the clamp settle and the ram recovery; then a set order lost ends the cycle with
ORDER LOST, and one that holds places it, the stage SQUEEZING (R117, R124). An interval measured from none has run out. DU's ask of
READ PRESSURE is placed in BUDGETING (R124). A SLIDE within the cross limit and the commands with nothing to wait for are placed at
once. -/
def Obligations.PlacedCommandsAreAllowed : Prop :=
  (∀ (c : Instr) (s t : State), exec c s = .next t →
    (∀ p u r, t.ep.transfer = some ⟨.travel p, u, r⟩ →
      (∃ r', s.ep.transfer = some ⟨.travel p, u, r'⟩)
      ∨ (t.cfg.low ≤ p ∧ p ≤ t.cfg.high ∧ t.permitted p = true
          ∧ (u = .cycle → ∀ side, t.cycleZone p = some side →
              (t.zone side).state = .heldOwn ∧ (t.zone side).progress = .no)
          ∧ (u = .lone → ∀ side, t.zoneAt p = some side → (t.zone side).state = .heldOwn)))
    ∧ (∀ a b u r, t.ep.transfer = some ⟨.squeeze a b, u, r⟩ →
        (∃ r', s.ep.transfer = some ⟨.squeeze a b, u, r'⟩)
        ∨ ∃ cy w, t.cs.cycle = some cy ∧ cy.work = .hole w ∧ t.setOrder w.hole = true ∧ t.du.own.state = .squeezing))
  ∧ (∀ (p : Nat) (cy : Cycle) (s : State), s.cs.cycle = some cy → s.cycleZone p = if cy.rail = p then cy.zone else s.zoneAt p)
  ∧ (∀ (p : Nat) (s : State), s.permitted p = true ↔
      ∀ j, (j + 1 = s.k ∧ 1 ≤ j) ∨ (j = s.k + 1 ∧ s.k < s.cfg.stations) →
        ∃ i, (s.peer j).info = some i
          ∧ (s.cfg.gap = 0 ∨ max s.own p + s.cfg.gap ≤ min i.position i.target
              ∨ max i.position i.target + s.cfg.gap ≤ min s.own p))
  ∧ (∀ (p : Nat) (asked : Bool) (cy : Cycle) (s : State), s.cs.cycle = some cy → cy.winding = false →
      cy.task = .toPlace (.travel p) asked → s.canPlace (.travel p) = true →
      ∀ Z : Prop, (Z ↔ ∀ side, s.cycleZone p = some side → (s.zone side).state = .heldOwn ∧ (s.zone side).progress = .no) →
      (p < s.cfg.low ∨ s.cfg.high < p → s.stepCycle = s)
      ∧ (s.cfg.low ≤ p → p ≤ s.cfg.high →
          (asked = true → s.permitted p = false → s.stepCycle = s)
          ∧ (asked = false ∨ s.permitted p = true → ¬ Z → s.stepCycle = s.takeEnding .zoneLost false)
          ∧ (asked = false → Z → s.permitted p = false →
              s.stepCycle = { s with cs.cycle := some { cy with task := .toPlace (.travel p) true } })
          ∧ (Z → s.permitted p = true → s.effectorReady = true →
              s.stepCycle.cs.cycle = some { cy with task := .placed (.travel p), stopAsked := false,
                                                    stage := if cy.stage = .claiming then .moving else cy.stage }
              ∧ s.stepCycle.ep.commandFlag = true
              ∧ s.stepCycle.ep.transfer
                = some { command := .travel p, user := .cycle, rest := [BitVec.ofNat 16 p, BitVec.ofNat 16 s.cfg.tolerance] })))
  ∧ (∀ (n : Nat) (asked : Bool) (cy : Cycle) (s : State), s.cs.cycle = some cy → cy.winding = false →
      cy.task = .toPlace (.drill n) asked → s.canPlace (.drill n) = true →
      (∀ x, s.cs.lastClamp = some x → s.clock < x + s.cfg.clampSettle → s.stepCycle = s)
      ∧ (∀ w h, (∀ x, s.cs.lastClamp = some x → x + s.cfg.clampSettle ≤ s.clock) → cy.work = .hole w →
          lookupKey w.hole s.ps.holes = some h → s.effectorReady = true →
          s.stepCycle.cs.cycle = some { cy with task := .placed (.drill (sampleLimit s.cfg h)), stage := .cutting }
          ∧ s.stepCycle.ep.transfer = some { command := .drill (sampleLimit s.cfg h), user := .cycle, rest := [] }
          ∧ s.stepCycle.ep.commandFlag = true ∧ s.stepCycle.sa = openAnalysis s.cfg w.hole h))
  ∧ (∀ (cy : Cycle) (w : Claim) (n : Nat) (g : GripClass) (s : State), s.cs.cycle = some cy → cy.winding = false →
      cy.stage = .budgeting → cy.task = .idle → cy.work = .hole w → cy.grip = some (n, g) → s.du.own.pollAsked = false →
      s.canPlace (.squeeze g.rivet g.pressure) = true →
      (s.du.own.state ≠ .allowed ∨ (∃ x, s.cs.lastClamp = some x ∧ s.clock < x + s.cfg.clampSettle)
          ∨ (∃ x, s.cs.lastSqueeze = some x ∧ s.clock < x + s.cfg.ramRecovery) → s.stepCycle = s)
      ∧ (s.du.own.state = .allowed → (∀ x, s.cs.lastClamp = some x → x + s.cfg.clampSettle ≤ s.clock) →
          (∀ x, s.cs.lastSqueeze = some x → x + s.cfg.ramRecovery ≤ s.clock) →
          (s.setOrder w.hole = false → s.stepCycle = s.takeEnding .orderLost false)
          ∧ (s.setOrder w.hole = true → s.effectorReady = true →
              s.stepCycle.cs.cycle = some { cy with task := .placed (.squeeze g.rivet g.pressure), stage := .squeezing }
              ∧ s.stepCycle.du.own = { s.du.own with state := .squeezing } ∧ s.stepCycle.ep.commandFlag = true
              ∧ s.stepCycle.ep.transfer = some { command := .squeeze g.rivet g.pressure, user := .cycle,
                                                 rest := [BitVec.ofNat 16 g.pressure] })))
  ∧ (∀ (cy : Cycle) (s : State), s.cs.cycle = some cy → cy.winding = false → cy.stage = .budgeting → cy.task = .idle →
      s.du.own.pollAsked = true → s.canPlace .readPressure = true → s.effectorReady = true →
      s.stepCycle.cs.cycle = some { cy with task := .placed .readPressure } ∧ s.stepCycle.du.own = { s.du.own with pollAsked := false }
      ∧ s.stepCycle.ep.transfer = some { command := .readPressure, user := .cycle, rest := [] } ∧ s.stepCycle.ep.commandFlag = true)
  ∧ ∀ (c : Command) (asked : Bool) (cy : Cycle) (s : State), s.cs.cycle = some cy → cy.winding = false →
      cy.task = .toPlace c asked → s.canPlace c = true → s.effectorReady = true →
      (c = .sense ∨ c = .clamp ∨ c = .unclamp ∨ c = .retract ∨ c = .gauge ∨ (∃ q, c = .slide q ∧ q ≤ s.cfg.crossLimit) →
        s.stepCycle.cs.cycle
          = some { cy with task := .placed c, senses := if c = .sense then cy.senses + 1 else cy.senses }
        ∧ s.stepCycle.ep.commandFlag = true
        ∧ ∃ x, s.stepCycle.ep.transfer = some x ∧ x.command = c ∧ x.user = .cycle)
      ∧ (∀ q, c = .slide q → s.cfg.crossLimit < q → s.stepCycle = s)

/-! ### Invariants of every step -/

/-- The FINISHED and FAULT lines follow the station state through every step. -/
def Obligations.StepKeepsLines : Prop := ∀ s t : State, s.linesAgree → step s = .next t → t.linesAgree

/-- The annunciator shows the highest pending level through every step. -/
def Obligations.StepKeepsAnnunciator : Prop := ∀ s t : State, s.eventsWhole → step s = .next t → t.eventsWhole

/-- The transmit queue holds at most 16 frames through every step. -/
def Obligations.StepKeepsQueueBound : Prop := ∀ s t : State, s.queueFits → step s = .next t → t.queueFits

/-- Out of UNCONFIGURED the setup and the plan stay VALID, and the hole table follows the plan, through every step. -/
def Obligations.StepKeepsConfiguration : Prop :=
  ∀ s t : State, s.configuredWhole → step s = .next t → t.configuredWhole

/-- A station is in IDLE only with its jig open, through every step. -/
def Obligations.StepKeepsIdleOpen : Prop := ∀ s t : State, s.idleIsOpen → step s = .next t → t.idleIsOpen

/-- The plan store's groups and holes stay in rising number, each below the header's counts, through every step. -/
def Obligations.StepKeepsPlanOrder : Prop := ∀ s t : State, s.planOrdered → step s = .next t → t.planOrdered

/-- The transmit queue stays in the order of access class through every step, under names that are LC's own. -/
def Obligations.StepKeepsQueueOrder : Prop := ∀ s t : State, s.queueOrdered → step s = .next t → t.queueOrdered

/-- A halted station stays silent through every step: no attempt, no stream, no cycle, and nothing for the drive unit but HALT. -/
def Obligations.StepKeepsHaltedSilent : Prop := ∀ s t : State, s.haltedSilent → step s = .next t → t.haltedSilent

/-- The eight invariants hold after reset. -/
def Obligations.ResetMeetsInvariants : Prop :=
  State.reset.linesAgree ∧ State.reset.eventsWhole ∧ State.reset.queueFits ∧ State.reset.configuredWhole
  ∧ State.reset.idleIsOpen ∧ State.reset.planOrdered ∧ State.reset.queueOrdered ∧ State.reset.haltedSilent

/-! ### Lines, station states and clears -/

/-- JIG CLOSED becoming active is a frame cycle start in IDLE, and elsewhere only the line's level. Becoming inactive: to IDLE from
WAITING, WORKING and FINISHED with claim, selection, park and zone holds given up, the cycle in flight ended with cause JIG OPEN,
the lone motion given up or stopped, and a prober IN CYCLE or AWAITING READ-BACK DUE with its DATUM out of the queue; the jig-opened
mark in FAULTED; elsewhere only the level. Zones and own intent at that fall: a RELEASE is offered for each zone held and every
zone's record is cleared but for its bounds, the state as R84's first row and R79 give it, its outstanding frame removed or void
(R85); an INTENT queued is removed, one that stands is withdrawn with a DRAW WITHDRAW, a WITHDRAW already offered stays, a squeeze
runs on (R159). That the cleared record's stamp and yield deadline are absent is the model's choice (log entry 68). `namesGiven` is
part of the invariant StepKeepsQueueOrder. -/
def Obligations.JigLine : Prop :=
  ∀ s : State,
    (s.ws.state = .idle →
      exec .jigClosed s = .next (State.frameCycleStart { s with lines.jigClosed := true }).settle)
    ∧ (s.ws.state ≠ .idle → exec .jigClosed s = .next (State.settle { s with lines.jigClosed := true }))
    ∧ (s.ws.state = .waiting ∨ s.ws.state = .working ∨ s.ws.state = .finished →
      ∃ u : State, exec .jigOpen s = .next u.settle ∧ u.ws.state = .idle ∧ u.lines.jigClosed = false
        ∧ u.lines.finishedLine = false ∧ u.ws.claim = none ∧ u.ws.park = .no
        ∧ (∀ x, u.ws.selection = some x → x.stage = .claimWithdrawn)
        ∧ u.zc.left.state ≠ .heldOwn ∧ u.zc.right.state ≠ .heldOwn ∧ u.zc.idleEntry = some s.clock
        ∧ (u.du.own.state = .no ∨ u.du.own.state = .squeezing) ∧ u.ps = s.ps ∧ u.setup = s.setup
        ∧ (∀ side, s.zoneCleared u side)
        ∧ (s.namesGiven → (∀ side, s.zoneGivenUp u side) ∧ s.intentGivenUp u)
        ∧ u.pu.datumA = s.pu.datumA ∧ u.pu.datumB = s.pu.datumB ∧ u.pu.correction = s.pu.correction
        ∧ (s.cs.cycle = none → u.cs.cycle = none)
        ∧ (∀ cy, s.cs.cycle = some cy → cy.ending = none → ∃ cy' e, u.cs.cycle = some cy' ∧ cy'.work = cy.work
            ∧ cy'.stage = cy.stage ∧ cy'.ending = some e ∧ e.cause = .jigOpen ∧ e.through = false ∧ e.stage = cy.stage)
        ∧ (∀ cy, s.cs.cycle = some cy → cy.ending ≠ none → u.cs.cycle = some cy)
        ∧ (s.cs.lone = none → u.cs.lone = none)
        ∧ (∀ l, s.cs.lone = some l → u.cs.lone = if l.ending ≠ none then some l
            else if l.placed = true then some { l with ending := some .plain } else none)
        ∧ (s.proberStatus = some .inCycle ∨ s.proberStatus = some .awaitingReadBack → u.proberStatus = some .due)
        ∧ (s.proberStatus ≠ some .inCycle → s.proberStatus ≠ some .awaitingReadBack → u.pu.prober = s.pu.prober)
        ∧ (s.proberStatus = some .awaitingReadBack → ∀ f ∈ u.lc.queue ++ u.lc.held, f.owner = .pu → s.inFlight f.id = true))
    ∧ (s.ws.state = .faulted →
        exec .jigOpen s = .next (State.settle { s with lines.jigClosed := false, ws.jigOpened := true }))
    ∧ (s.ws.state = .unconfigured ∨ s.ws.state = .idle ∨ s.ws.state = .halted →
        exec .jigOpen s = .next (State.settle { s with lines.jigClosed := false }))

/-- A frame cycle start sets back the hole table, the datums, the correction, a prober if there is one, the queue and the held
frames but for ZONE frames, the draws and WS's record, ends every hold, leaves an ending under way nothing to write, and keeps plan,
setup, peers, events, port, analysis and the link's stamp and failure count. A zone's record is cleared but for its bounds, its
state as R84's first row and R79 give it, and the ZONE frames queued are those queued before: no RELEASE is offered for a hold
(R85). That a cleared zone record's stamp and yield deadline are absent (log entry 68), that the own intent's amount, hole, own
stamp and read-back time become 0 and its deadlines absent (log entry 58), that an ending's left frames are dropped (log entry 26,
DEDUCED) and that the frame of an attempt in progress leaves the queue with the others (log entry 50) are the model's choices. -/
def Obligations.FrameCycleStartSetsBack : Prop :=
  ∀ s : State,
    s.frameCycleStart.ws.state = .waiting ∧ s.frameCycleStart.ht = s.ps.freshTable
    ∧ s.frameCycleStart.pu.datumA = {} ∧ s.frameCycleStart.pu.datumB = {} ∧ s.frameCycleStart.pu.correction = none
    ∧ (s.pu.prober ≠ none → s.frameCycleStart.proberStatus = some .due)
    ∧ (s.pu.prober = none → s.frameCycleStart.pu.prober = none)
    ∧ (∀ f ∈ s.frameCycleStart.lc.queue ++ s.frameCycleStart.lc.held, ∃ side a, f.body = .zone side a)
    ∧ (∀ j, s.frameCycleStart.drawEntry j = none) ∧ s.frameCycleStart.du.own = {} ∧ s.frameCycleStart.du.supplyWaits = 0
    ∧ s.frameCycleStart.ws.selection = none ∧ s.frameCycleStart.ws.claim = none ∧ s.frameCycleStart.ws.park = .no
    ∧ s.frameCycleStart.ws.jigOpened = false
    ∧ s.frameCycleStart.zc.left.state ≠ .heldOwn ∧ s.frameCycleStart.zc.right.state ≠ .heldOwn
    ∧ (∀ side, s.zoneCleared s.frameCycleStart side)
    ∧ (∀ side a, s.frameCycleStart.offered .zc (.zone side a) ↔ s.offered .zc (.zone side a))
    ∧ (∀ cy, s.frameCycleStart.cs.cycle = some cy → cy.left = [] ∧ ∀ e, cy.ending = some e → e.void = true)
    ∧ s.frameCycleStart.ps = s.ps ∧ s.frameCycleStart.setup = s.setup ∧ s.frameCycleStart.pt = s.pt
    ∧ s.frameCycleStart.eu = s.eu ∧ s.frameCycleStart.ep = s.ep ∧ s.frameCycleStart.sa = s.sa
    ∧ s.frameCycleStart.lc.stamp = s.lc.stamp ∧ s.frameCycleStart.lc.failures = s.lc.failures

/-- A station clear is without effect in UNCONFIGURED and HALTED; elsewhere it sets back link, peers, zones, draws, selection, claim
and park, clears events and cause, ends a cycle in flight with cause CLEAR or clears the through-FAULTED mark of its ending, gives
up or stops a lone motion, makes a prober IN CYCLE or AWAITING READ-BACK DUE, offers the RELEASE of a zone held and of no other,
makes the own intent NONE and offers the WITHDRAW of one announced, naming its hole and keeping announced until it is read back
(unless the landing is a frame cycle start, which clears both), and of no other (R160), keeps plan, setup and analysis, and lands by
the JIG CLOSED level and the jig-opened mark; the STATION RESET line and the request take the same clear. The line's level is held
as the time its edge lasts (log entry 4); the premise on the limits is there because PT evaluates the configuration again on the
cleared table (log entry 16). -/
def Obligations.StationClearSetsBack : Prop :=
  ∀ s : State,
    (∀ w, exec (.stationReset w) s
      = .next (State.stationClear { s with lines.resetHighUntil := s.clock + w }).settle)
    ∧ (s.sp.rx = .ready → exec (requestRow .stationClear) s
        = .next (Served.answered 12#8 ((s.taking .stationClear).stationClear).accept))
    ∧ (s.ws.state.online = false → s.stationClear = s)
    ∧ (s.ws.state.online = true →
        s.stationClear.lc.attempt = none ∧ s.stationClear.lc.failures = 0 ∧ s.stationClear.lc.recovery = false
        ∧ s.stationClear.lc.foreignTime = none ∧ s.stationClear.lc.due = true ∧ s.stationClear.lc.promoted = false
        ∧ (∀ j, (s.stationClear.peer j).status = .unknown)
        ∧ s.stationClear.zc.left.state = .noZone ∧ s.stationClear.zc.right.state = .noZone
        ∧ (∀ side, (s.zone side).state = .heldOwn ↔ s.stationClear.offered .zc (.zone side .release))
        ∧ (∀ j, s.stationClear.drawEntry j = none) ∧ s.stationClear.du.supplyWaits = 0 ∧ s.stationClear.du.own.state = .no
        ∧ (s.du.own.announced = true → s.lines.jigClosed = false ∨ s.ws.jigOpened = false →
            s.stationClear.du.own.announced = true ∧ s.stationClear.du.own.hole = s.du.own.hole
            ∧ ∀ a n h, s.stationClear.offered .du (.draw a n h) ↔ a = .withdraw ∧ n = 0 ∧ h = s.du.own.hole)
        ∧ (s.du.own.announced = false ∨ s.lines.jigClosed = true ∧ s.ws.jigOpened = true →
            s.stationClear.du.own.announced = false ∧ ∀ a n h, ¬ s.stationClear.offered .du (.draw a n h))
        ∧ s.stationClear.ws.selection = none ∧ s.stationClear.ws.claim = none ∧ s.stationClear.ws.park = .no
        ∧ s.stationClear.eu.cause = none ∧ (s.cfg.low + s.cfg.gap ≤ s.cfg.high → ∀ r ∈ s.stationClear.eu.sources, r.pending = false)
        ∧ s.stationClear.eu.linkSuccess = false ∧ s.stationClear.lines.faultLine = false
        ∧ s.stationClear.ps = s.ps ∧ s.stationClear.setup = s.setup ∧ s.stationClear.sa = s.sa
        ∧ s.stationClear.ws.state = (if s.lines.jigClosed then .waiting else .idle)
        ∧ s.stationClear.ws.jigOpened = false
        ∧ (s.lines.jigClosed = true → s.ws.jigOpened = true → s.stationClear.ht = s.ps.freshTable)
        ∧ (s.cs.cycle = none → s.stationClear.cs.cycle = none)
        ∧ (∀ cy, s.cs.cycle = some cy → ∃ cy' e, s.stationClear.cs.cycle = some cy' ∧ cy'.work = cy.work ∧ cy'.stage = cy.stage
            ∧ cy'.ending = some e ∧ e.through = false ∧ (cy.ending = none → e.cause = .clear ∧ e.stage = cy.stage)
            ∧ ∀ x, cy.ending = some x → e.cause = x.cause ∧ e.stage = x.stage ∧ e.todo = x.todo)
        ∧ (s.cs.lone = none → s.stationClear.cs.lone = none)
        ∧ (∀ l, s.cs.lone = some l → s.stationClear.cs.lone = if l.ending ≠ none then some l
            else if l.placed = true then some { l with ending := some .plain } else none)
        ∧ (s.proberStatus = some .inCycle ∨ s.proberStatus = some .awaitingReadBack →
            s.stationClear.proberStatus = some .due)
        ∧ (s.proberStatus ≠ some .inCycle → s.proberStatus ≠ some .awaitingReadBack →
            s.lines.jigClosed = false ∨ s.ws.jigOpened = false → s.stationClear.pu.prober = s.pu.prober))

/-- An ACK pulse clears the flags at the level shown and nothing else; with the level at 0 it does nothing. Raising a source
counts it up to 255, sets its flag when its level is above 0, touches no other source, and sets the annunciator afresh. The ACK
line's level is held as the time its edge lasts (log entry 4, the model's choice). -/
def Obligations.EventFlags : Prop :=
  (∀ (w : Nat) (s : State),
    (s.eu.annunciator = 0 → exec (.ack w) s = .next { s with lines.ackHighUntil := s.clock + w })
    ∧ (s.eu.annunciator ≠ 0 → s.eu.sources.length = 14 → s.levels.length = 14 →
        ∃ t : List SourceRecord, exec (.ack w) s
            = .next { s with lines.ackHighUntil := s.clock + w, eu.sources := t, eu.annunciator := highestPending s.levels t }
          ∧ t.length = 14
          ∧ ∀ (n : Nat) (r : SourceRecord) (l : Nat), s.eu.sources[n]? = some r → s.levels[n]? = some l →
              t[n]? = some { r with pending := r.pending && decide (l ≠ s.eu.annunciator) }))
  ∧ ∀ (e : EventSource) (s : State) (r : SourceRecord), s.eu.sources[e.index]? = some r →
    (s.raise e).eu.sources[e.index]?
        = some { pending := r.pending || decide (0 < s.levels.getD e.index 0), count := min 255 (r.count + 1) }
    ∧ (∀ n, n ≠ e.index → (s.raise e).eu.sources[n]? = s.eu.sources[n]?)
    ∧ (s.raise e).annunciatorAgrees
    ∧ s.raise e = { s with eu.sources := (s.raise e).eu.sources, eu.annunciator := (s.raise e).eu.annunciator }

/-! ### Failures and fault states -/

/-- A failure at the port closes the stream, abandons the transfer, sets the discard mark and counts EFFECTOR FAULT in every state.
In IDLE, WAITING, WORKING and FINISHED it takes the station into FAULTED with its cause recorded; in FAULTED the station stays as it
is; during a through-FAULTED ending, or the stopping of a lone motion ended at entry into FAULTED, it is HALTED; in UNCONFIGURED and
HALTED the state is kept. On entry into FAULTED, from any source, a RELEASE is offered for each zone held, every zone's record is
cleared and takes the state that the neighbour's last PRESENCE shows (R85), and the own intent is given up by its state (R159). That
the cleared record's stamp and yield deadline are absent is the model's choice (log entry 68). `namesGiven` is part of the invariant
StepKeepsQueueOrder. -/
def Obligations.PortFailureFaults : Prop :=
  (∀ (src : FaultSource) (s : State),
    (s.ws.state = .idle ∨ s.ws.state = .waiting ∨ s.ws.state = .working ∨ s.ws.state = .finished →
      (s.enterFaulted src).ws.state = .faulted ∧ (∀ side, s.zoneCleared (s.enterFaulted src) side)
      ∧ (s.namesGiven → (∀ side, s.zoneGivenUp (s.enterFaulted src) side) ∧ s.intentGivenUp (s.enterFaulted src)))
    ∧ (s.ws.state = .faulted ∨ s.ws.state = .halted ∨ s.ws.state = .unconfigured → s.enterFaulted src = s))
  ∧ ∀ (kind : FailKind) (extra : Option Command) (s : State),
    (∀ r, s.eu.sources[10]? = some r → (s.portFails kind extra).eu.sources[10]?
      = some { pending := r.pending || decide (0 < s.levels.getD 10 0), count := min 255 (r.count + 1) })
    ∧ (s.portFails kind extra).ep.stream = none
    ∧ (s.throughEnding = false → s.faultStopping = false →
        (s.portFails kind extra).ep.transfer = none ∧ (s.portFails kind extra).ep.commandFlag = false
        ∧ (s.portFails kind extra).ep.discard = true)
    ∧ (s.ws.state = .idle ∨ s.ws.state = .waiting ∨ s.ws.state = .working ∨ s.ws.state = .finished →
        s.throughEnding = false → s.faultStopping = false →
        (s.portFails kind extra).ws.state = .faulted ∧ (s.portFails kind extra).lines.faultLine = true
        ∧ (s.portFails kind extra).eu.cause
            = some { source := .effectorFault kind, stateLeft := s.ws.state, time := s.clock, cleared := false }
        ∧ (s.portFails kind extra).ws.selection.all (fun x => decide (x.stage = .claimWithdrawn)) = true
        ∧ (s.portFails kind extra).ws.park = .no
        ∧ (s.portFails kind extra).zc.left.state ≠ .heldOwn ∧ (s.portFails kind extra).zc.right.state ≠ .heldOwn
        ∧ (s.namesGiven → (∀ side, s.zoneGivenUp (s.portFails kind extra) side)
            ∧ (s.du.own.state ≠ .squeezing → s.intentGivenUp (s.portFails kind extra))))
    ∧ (s.ws.state = .faulted → s.throughEnding = false → s.faultStopping = false →
        (s.portFails kind extra).ws.state = .faulted ∧ (s.portFails kind extra).eu.cause = s.eu.cause)
    ∧ (s.ws.state.online = true → s.throughEnding = true ∨ s.faultStopping = true →
        (s.portFails kind extra).ws.state = .halted ∧ (s.portFails kind extra).cs.cycle = none
        ∧ (s.portFails kind extra).cs.lone = none
        ∧ ((s.portFails kind extra).ep.haltedMark = true ∨ (s.portFails kind extra).ep.haltWaiting = true)
        ∧ (s.ws.state = .faulted → (s.portFails kind extra).eu.cause = s.eu.cause))
    ∧ (s.ws.state.online = false → (s.portFails kind extra).ws.state = s.ws.state
        ∧ (s.portFails kind extra).eu.cause = s.eu.cause)

/-- A clearance halt leaves no cycle, no lone motion, no selection, claim, park or own intent, both zones NONE, the attempt and the
presence timer stopped, HALT placed or waiting at the port, ages frozen, and the cause recorded unless FAULTED already. That the own
intent's record reads as after reset, its announced mark included (log entries 58 and 59), and that a cleared zone record's stamp,
yield deadline and bounds are absent (log entry 68) are the model's choices. -/
def Obligations.ClearanceHaltStops : Prop :=
  ∀ (c : HaltCheck) (s : State), s.ws.state.online = true →
    (s.clearanceHalt c).ws.state = .halted ∧ (s.clearanceHalt c).lines.faultLine = true
    ∧ (s.clearanceHalt c).cs.cycle = none ∧ (s.clearanceHalt c).cs.lone = none
    ∧ (s.clearanceHalt c).ws.selection = none ∧ (s.clearanceHalt c).ws.claim = none ∧ (s.clearanceHalt c).ws.park = .no
    ∧ (s.clearanceHalt c).du.own = {} ∧ (s.clearanceHalt c).du.table = s.du.table
    ∧ (s.clearanceHalt c).zc.left = {} ∧ (s.clearanceHalt c).zc.right = {}
    ∧ (s.clearanceHalt c).lc.attempt = none ∧ (s.clearanceHalt c).lc.due = false ∧ (s.clearanceHalt c).lc.timer = none
    ∧ (s.clearanceHalt c).pt.frozen = some s.clock ∧ (s.clearanceHalt c).ep.stream = none
    ∧ ((s.clearanceHalt c).ep.haltedMark = true ∨ (s.clearanceHalt c).ep.haltWaiting = true)
    ∧ (s.ws.state ≠ .faulted → (s.clearanceHalt c).eu.cause
        = some { source := .clearanceHalt c, stateLeft := s.ws.state, time := s.clock, cleared := false })
    ∧ (s.ws.state = .faulted → (s.clearanceHalt c).eu.cause = s.eu.cause)
    ∧ (s.clearanceHalt c).ps = s.ps ∧ (s.clearanceHalt c).setup = s.setup

/-! ### The service port -/

/-- One byte by the receive state: ignored, beginning a request, stored while the request is incomplete, or completing a
length field of 0 or above 512, which is answered BAD-FORMAT; its code byte, of which no request code has been received, is a free
value, and freeCount counts the free values taken (log entry 3). A gap discards a partial request, quiet ends the ignoring of
bytes, and the end of an answer makes the port READY; a timer's command brings the clock to its due time (log entry 10, the
model's choice). -/
def Obligations.ServiceLine : Prop :=
  (∀ (b : Byte) (s : State),
    (s.sp.rx = .ready → b ≠ startByte → exec (.serviceByte b) s = .next { s with sp.lastByte := s.clock })
    ∧ (s.sp.rx = .ready → b = startByte →
        exec (.serviceByte b) s
          = .next { s with sp.lastByte := s.clock, sp.rx := .receiving, sp.ignoring := false, sp.buffer := [b] })
    ∧ (s.sp.rx = .receiving → s.sp.ignoring = false →
        s.sp.buffer.length < 2
          ∨ (3 ≤ s.sp.buffer.length ∧ s.sp.buffer.length + 1 < field (s.sp.buffer ++ [b]) 1 2 + 5)
          ∨ (s.sp.buffer.length = 2 ∧ field (s.sp.buffer ++ [b]) 1 2 ≠ 0
              ∧ field (s.sp.buffer ++ [b]) 1 2 ≤ Config.maxRequestLength) →
        exec (.serviceByte b) s = .next { s with sp.lastByte := s.clock, sp.buffer := s.sp.buffer ++ [b] })
    ∧ (s.sp.rx = .receiving → s.sp.ignoring = true → exec (.serviceByte b) s = .next { s with sp.lastByte := s.clock })
    ∧ (s.sp.rx = .answering → exec (.serviceByte b) s = .next { s with sp.lastByte := s.clock })
    ∧ (∀ x y, s.sp.rx = .receiving → s.sp.ignoring = false → s.sp.buffer = [x, y] →
        field [x, y, b] 1 2 = 0 ∨ Config.maxRequestLength < field [x, y, b] 1 2 →
        ∃ code : Byte, exec (.serviceByte b) s
          = .next { s with freeCount := s.freeCount + 1,
                           sp := { rx := .receiving, ignoring := true, buffer := [x, y, b],
                                   answer := answerBytes code .badFormat [], lastByte := s.clock } }))
  ∧ ∀ s : State,
    (s.sp.rx = .receiving → s.sp.ignoring = false →
      exec .serviceByteGap s
        = .next { s with clock := max s.clock (s.sp.lastByte + 10), sp.rx := .ready, sp.buffer := [] })
    ∧ (s.sp.rx = .receiving → s.sp.ignoring = true →
        exec .serviceLineQuiet s
          = .next { s with clock := max s.clock (s.sp.lastByte + 10), sp.rx := .ready, sp.ignoring := false, sp.buffer := [] })
    ∧ (s.sp.rx = .answering → exec .answerSent s = .next { s with sp.rx := .ready })

/-- Every request the service framing can carry, and every frame the rail wire can carry, is read back from its own bytes: for a
frame its CRC, kind, length, sender and contents. -/
def Obligations.WireRoundTrips : Prop :=
  (∀ r : Request, requestFits r = true → parseRequest r.bytes = .ok r)
  ∧ ∀ (k : Nat) (b : Body), 1 ≤ k → k ≤ 8 → bodyFits b = true →
    crcChecks (frameBytes k b) = true ∧ kindLength b.kind = some (frameBytes k b).length
    ∧ splitFrame (frameBytes k b) = some { kind := b.kind, sender := k, content := b.content }
    ∧ decodeBody b.kind b.content = some b

/-- A whole request arriving in READY is taken once, at its last byte: its meaning is served and answered under its code. A
complete request whose CRC, code, length or codes fail is answered with the check's status and no data, and changes nothing
else: BAD-CHECK where the CRC fails, whatever else does, and BAD-FORMAT for a code that is none of the thirteen, a payload not of its
code's length, and an order mode, a datum role or a rework target that is not defined. -/
def Obligations.RequestsTakenOrRefused : Prop :=
  (∀ (r : Request) (s : State), requestFits r = true → s.sp.rx = .ready →
    exec (requestRow r) s = .next (Served.answered (BitVec.ofNat 8 r.code) ((s.taking r).serve r)))
  ∧ (∀ (bytes : List Byte) (st : Status) (s : State), parseRequest bytes = .error st →
    s.takeRequest bytes
      = { s with sp.buffer := bytes, sp.rx := .answering, sp.answer := answerBytes (requestCode bytes) st [] }
    ∧ (st = .badCheck ∨ st = .badFormat) ∧ (crcChecks bytes = false → st = .badCheck))
  ∧ (∀ (b : Byte) (s : State), s.sp.rx = .receiving → s.sp.ignoring = false → 3 ≤ s.sp.buffer.length →
      field (s.sp.buffer ++ [b]) 1 2 + 5 ≤ s.sp.buffer.length + 1 →
      exec (.serviceByte b) s = .next (State.takeRequest (s.sp.buffer ++ [b]) { s with sp.lastByte := s.clock }))
  ∧ (∀ bytes : List Byte, crcChecks bytes = false → parseRequest bytes = .error .badCheck)
  ∧ (∀ (code : Nat) (payload : List Byte), crcChecks (requestBytes code payload) = true
      ∧ (code = 0 ∨ 13 < code → code < 256 → parseRequest (requestBytes code payload) = .error .badFormat))
  ∧ (∀ (x : Nat × Nat) (payload : List Byte),
      x ∈ [(1, 236), (2, 0), (3, 18), (4, 4), (5, 13), (6, 0), (7, 0), (8, 2), (9, 1), (10, 0), (11, 0), (12, 0), (13, 3)] →
      payload.length ≠ x.2 → parseRequest (requestBytes x.1 payload) = .error .badFormat)
  ∧ (∀ payload : List Byte, payload.length = 236 → 2 < field payload 30 3 →
      parseRequest (requestBytes 1 payload) = .error .badFormat)
  ∧ (∀ payload : List Byte, payload.length = 4 → 1 < field payload 2 1 →
      parseRequest (requestBytes 4 payload) = .error .badFormat)
  ∧ ∀ payload : List Byte, payload.length = 3 → field payload 2 1 ≠ 0 → field payload 2 1 ≠ 2 →
      parseRequest (requestBytes 13 payload) = .error .badFormat

/-- The five read requests change nothing but the service port, and answer what they read, or are refused. What READ STATUS, READ
HOLE, READ PEER and READ EVENTS answer is stated in ReadoutContents; its codings are those of log entry 8. -/
def Obligations.ReadsChangeNothing : Prop :=
  ∀ s : State, s.sp.rx = .ready →
    (∀ c, s.setup = some c → exec (requestRow .readSetup) s = .next (s.answering .readSetup .accepted c.bytes))
    ∧ (∀ c, setupFits c c.classes.length = true →
        parseRequest (requestBytes 1 c.bytes) = .ok (.writeSetup c c.classes.length))
    ∧ (s.setup = none → exec (requestRow .readSetup) s = .next (s.answering .readSetup .wrongState []))
    ∧ exec (requestRow .readStatus) s = .next (s.answering .readStatus .accepted s.statusData)
    ∧ exec (requestRow .readEvents) s = .next (s.answering .readEvents .accepted s.eventData)
    ∧ (∀ n, n < 65536 → s.ps.status ≠ .valid →
        exec (requestRow (.readHole n)) s = .next (s.answering (.readHole n) .wrongState []))
    ∧ (∀ n h e, n < 65536 → s.ps.status = .valid → lookupKey n s.ps.holes = some h → s.ht[n]? = some e →
        exec (requestRow (.readHole n)) s = .next (s.answering (.readHole n) .accepted (s.holeData n h e)))
    ∧ (∀ n, n < 65536 → s.ps.status = .valid → s.ht[n]? = none →
        exec (requestRow (.readHole n)) s = .next (s.answering (.readHole n) .range []))
    ∧ (∀ j, j < 256 → s.setup = none →
        exec (requestRow (.readPeer j)) s = .next (s.answering (.readPeer j) .wrongState []))
    ∧ (∀ j, 1 ≤ j → j ≤ 8 → j ≠ s.k → s.setup ≠ none →
        exec (requestRow (.readPeer j)) s = .next (s.answering (.readPeer j) .accepted (s.peerData j)))
    ∧ (∀ j, j < 256 → j = 0 ∨ 8 < j ∨ j = s.k → s.setup ≠ none →
        exec (requestRow (.readPeer j)) s = .next (s.answering (.readPeer j) .range []))

/-- What the read requests answer, group by group in order: READ STATUS the ten groups of R184, with the fields of the station
group, the table counts, the position, the link, the work, the port, the draw and the fault groups; READ HOLE the plan entry, the
entry, the targets and the concern; READ PEER the status, the entry and its age; READ EVENTS each source's level, flag and count,
then the annunciator and the cause. Log entry 8 says how a value that ch. 12 gives no width or code for is laid out, log entry 57
how an outcome is, and log entry 4 that the levels of STATION RESET, ACK and EFFECTOR READY are held as the times their edges last (the
model's choices). Log entry 80 says the same of the selection's cross target, of which the lower two bytes are shown. -/
def Obligations.ReadoutContents : Prop :=
  ∀ s : State,
    s.statusData = s.stationGroup ++ s.tableGroup ++ s.positionGroup ++ s.linkGroup ++ s.zoneGroup ++ s.workGroup ++ s.portGroup
      ++ s.sa.bytes ++ s.drawGroup ++ s.faultGroup
    ∧ s.stationGroup = num1 s.ws.state.code ++ num1 (if s.setup.isSome then 1 else 0) ++ num1 s.ps.status.place
      ++ headerSummary s.ps.header ++ levelByte s.lines.jigClosed ++ levelByte (s.clock < s.lines.resetHighUntil)
      ++ levelByte (s.clock < s.lines.ackHighUntil) ++ levelByte s.effectorReady ++ levelByte s.lines.finishedLine
      ++ levelByte s.lines.faultLine ++ num1 s.eu.annunciator
    ∧ s.tableGroup = num4 (s.countState .planned) ++ num4 (s.countState .drillClaimed) ++ num4 (s.countState .drilled)
      ++ num4 (s.countState .setClaimed) ++ num4 (s.countState .set) ++ num4 (s.countState .rejected)
      ++ optional (fun l : List Nat => num4 l.length) s.pu.concern
    ∧ s.positionGroup = s.pu.datumA.bytes ++ s.pu.datumB.bytes ++ correctionBytes s.pu.correction
      ++ optional Prober.bytes s.pu.prober
    ∧ s.linkGroup = stampBytes s.lc.stamp ++ num4 s.lc.failures ++ num1 (if s.lc.recovery then 1 else 0)
      ++ [1, 2, 3, 4, 5, 6, 7, 8].flatMap (fun n => num4 (countKind s.lc.queue n))
      ++ [1, 2, 3, 4, 5, 6, 7, 8].flatMap (fun n => num4 (countKind s.lc.held n))
      ++ num4 (16 - s.lc.queue.length) ++ levelByte s.lc.due ++ levelByte s.lc.promoted
    ∧ s.zoneGroup = s.zc.left.bytes ++ s.zc.right.bytes
    ∧ s.workGroup = optional Selection.bytes s.ws.selection ++ optional claimBytes s.ws.claim ++ num1 s.ws.park.place
      ++ levelByte s.ws.jigOpened ++ optional Cycle.bytes s.cs.cycle
    ∧ s.portGroup = num1 s.ep.handshake.place ++ optional (fun t : OpenStream => num1 t.command.code) s.ep.stream
      ++ optional num3 (s.ep.ownPos <|> s.setup.map (·.park))
    ∧ s.drawGroup = s.du.table.flatMap (optional DrawEntry.bytes) ++ s.du.own.bytes ++ num4 s.du.supplyWaits
    ∧ s.faultGroup = optional FaultCause.bytes s.eu.cause ++ levelByte s.eu.linkSuccess
    ∧ (∀ n h e, s.holeData n h e = holeBytes n h ++ e.bytes ++ optional (fun t : Int × Int => signedBytes t.1) (s.target? n)
        ++ optional (fun t : Int × Int => signedBytes t.2) (s.target? n)
        ++ optional (fun l : List Nat => levelByte (l.contains n)) s.pu.concern)
    ∧ (∀ j, (s.peer j).info = none → s.peerData j = num1 (s.peer j).status.place)
    ∧ (∀ j i, (s.peer j).info = some i →
        s.peerData j = num1 (s.peer j).status.place ++ i.bytes ++ num4 (s.pt.frozen.getD s.clock - i.time))
    ∧ s.eventData = (s.levels.zip s.eu.sources).flatMap (fun p => num1 p.1 ++ num1 (if p.2.pending then 0 else 1) ++ num4 p.2.count)
      ++ num1 s.eu.annunciator ++ optional FaultCause.bytes s.eu.cause

/-- WRITE SETUP: refused whole with WRONG-STATE or BAD-VALUE, else the record replaced and taken up. A setup record that WRITE
SETUP lets pass keeps these ranges of R180 and these agreements of R181, its grip classes with no stack value in common. -/
def Obligations.WriteSetupRules : Prop :=
  (∀ (c : Setup) (s : State), setupFits c c.classes.length = true → s.sp.rx = .ready →
    (s.settingOut = false →
      exec (requestRow (.writeSetup c c.classes.length)) s
        = .next (s.answering (.writeSetup c c.classes.length) .wrongState []))
    ∧ (∀ d, s.settingOut = true → c.fault c.classes.length = some d →
        exec (requestRow (.writeSetup c c.classes.length)) s
          = .next (s.answering (.writeSetup c c.classes.length) .badValue d))
    ∧ (s.settingOut = true → c.fault c.classes.length = none →
        ∃ u : State, exec (requestRow (.writeSetup c c.classes.length)) s = .next (Served.answered 1#8 u.accept)
          ∧ u.setup = some c ∧ u.ps = s.ps ∧ (∀ j, (u.peer j).status = .unknown)
          ∧ u.zc.left.state = .noZone ∧ u.zc.right.state = .noZone ∧ u.levels = c.levels
          ∧ (c.role = .no → u.pu.prober = none)
          ∧ u.ws.state = (if s.ws.state = .unconfigured ∧ s.ps.status = .valid then
              if s.lines.jigClosed then .waiting else .idle
            else s.ws.state)))
  ∧ ∀ (c : Setup) (count : Nat), c.fault count = none →
    (1 ≤ c.station ∧ c.station ≤ c.stations ∧ c.stations ≤ 8) ∧ (c.low + 20000 ≤ c.high ∧ c.high ≤ 524287)
    ∧ (c.low ≤ c.park ∧ c.park ≤ c.high) ∧ (10000 ≤ c.gap ∧ c.gap ≤ 60000) ∧ (2000 ≤ c.hardGap ∧ 2 * c.hardGap ≤ c.gap)
    ∧ (50 ≤ c.presenceInterval ∧ 3 * c.presenceInterval < c.holdPeriod) ∧ c.lapseMargin + c.presenceInterval < c.holdPeriod
    ∧ 2 * c.holdPeriod ≤ c.lossPeriod ∧ c.squeezeTimeout + c.settleInterval < c.drawLife
    ∧ (1 ≤ c.tx ∧ c.tx < c.te ∧ c.te ≤ 4095) ∧ (1 ≤ count ∧ count ≤ 8)
    ∧ (∀ g ∈ c.classes, g.minStack ≤ g.maxStack ∧ g.maxStack ≤ 4095 ∧ 100 ≤ g.pressure ∧ g.pressure ≤ 700
        ∧ 1 ≤ g.draw ∧ g.draw ≤ c.capacity ∧ g.minStroke ≤ g.maxStroke)
    ∧ c.classes.Pairwise (fun a b => ∀ v, ¬ ((a.minStack ≤ v ∧ v ≤ a.maxStack) ∧ (b.minStack ≤ v ∧ v ≤ b.maxStack)))

/-- The plan requests that load: refused with WRONG-STATE or RANGE and then without effect, else stored. -/
def Obligations.PlanLoading : Prop :=
  ∀ s : State, s.sp.rx = .ready →
    (∀ h, headerFits h = true → s.settingOut = false →
      exec (requestRow (.loadPlanHeader h)) s = .next (s.answering (.loadPlanHeader h) .wrongState []))
    ∧ (∀ h, headerFits h = true → s.settingOut = true → h.holeCount = 0 ∨ 2048 < h.holeCount ∨ h.groupCount = 0 ∨ 256 < h.groupCount →
        exec (requestRow (.loadPlanHeader h)) s = .next (s.answering (.loadPlanHeader h) .range []))
    ∧ (∀ h, headerFits h = true → s.settingOut = true → 1 ≤ h.holeCount → h.holeCount ≤ 2048 → 1 ≤ h.groupCount → h.groupCount ≤ 256 →
        ∃ t : State, exec (requestRow (.loadPlanHeader h)) s = .next t ∧ t.sp.answer = answerBytes 3#8 .accepted []
          ∧ t.ps = { status := .loading, header := some h, groups := [], holes := [] } ∧ t.setup = s.setup
          ∧ (s.ps.status = .valid → t.ws.state = .unconfigured ∧ t.ht = []))
    ∧ (∀ n g, groupFits n g = true → s.loadingOpen = false →
        exec (requestRow (.loadPlanGroup n g)) s = .next (s.answering (.loadPlanGroup n g) .wrongState []))
    ∧ (∀ n g, groupFits n g = true → s.loadingOpen = true → s.ps.groupCount ≤ n →
        exec (requestRow (.loadPlanGroup n g)) s = .next (s.answering (.loadPlanGroup n g) .range []))
    ∧ (∀ n g, groupFits n g = true → s.loadingOpen = true → n < s.ps.groupCount →
        ∃ t : State, exec (requestRow (.loadPlanGroup n g)) s = .next t ∧ t.sp.answer = answerBytes 4#8 .accepted []
          ∧ t.ps = { s.ps with groups := insertKey n g s.ps.groups } ∧ t.setup = s.setup)
    ∧ (∀ n h, holeFits n h = true → s.loadingOpen = false →
        exec (requestRow (.loadPlanHole n h)) s = .next (s.answering (.loadPlanHole n h) .wrongState []))
    ∧ (∀ n h, holeFits n h = true → s.loadingOpen = true → s.ps.holeCount ≤ n ∨ s.ps.groupCount ≤ h.group →
        exec (requestRow (.loadPlanHole n h)) s = .next (s.answering (.loadPlanHole n h) .range []))
    ∧ (∀ n h, holeFits n h = true → s.loadingOpen = true → n < s.ps.holeCount → h.group < s.ps.groupCount →
        ∃ t : State, exec (requestRow (.loadPlanHole n h)) s = .next t ∧ t.sp.answer = answerBytes 5#8 .accepted []
          ∧ t.ps = { s.ps with holes := insertKey n h s.ps.holes } ∧ t.setup = s.setup)

/-- COMMIT PLAN: refused with the first failed check of R6 and without effect, else the plan VALID and the hole table built. A plan
that passes the nine checks of R6 is whole: every number loaded, every range kept, every group filled, the plan check word the CRC
of its bytes. -/
def Obligations.CommitPlanRules : Prop :=
  (∀ s : State, s.sp.rx = .ready →
    (s.loadingOpen = false → exec (requestRow .commitPlan) s = .next (s.answering .commitPlan .wrongState []))
    ∧ (∀ f, s.loadingOpen = true → s.ps.commitFault = some f →
        exec (requestRow .commitPlan) s
          = .next (s.answering .commitPlan f.status (num1 f.check ++ optional num2 f.number)))
    ∧ (s.loadingOpen = true → s.ps.commitFault = none →
        ∃ u : State, exec (requestRow .commitPlan) s = .next (Served.answered 6#8 u.accept)
          ∧ u.ps = { s.ps with status := .valid } ∧ u.ht = List.replicate s.ps.holeCount {} ∧ u.setup = s.setup
          ∧ u.ws.state = (if s.ws.state = .unconfigured ∧ s.setup ≠ none then
              if s.lines.jigClosed then .waiting else .idle
            else s.ws.state)))
  ∧ ∀ p : PlanStore, p.commitFault = none →
    ∃ h, p.header = some h ∧ (∀ n, n < h.groupCount → (lookupKey n p.groups).isSome = true)
      ∧ (∀ n, n < h.holeCount → (lookupKey n p.holes).isSome = true)
      ∧ h.xA + 20000 ≤ h.xB ∧ h.xB ≤ 400000 ∧ h.yA ≤ 40000 ∧ h.yB ≤ 40000
      ∧ (∀ e ∈ p.groups, 1 ≤ e.2.size ∧ e.2.size ≤ 16 ∧ e.2.start < e.2.size
          ∧ (e.2.order = .xorInterleaved → e.2.size = 2 ∨ e.2.size = 4 ∨ e.2.size = 8 ∨ e.2.size = 16)
          ∧ ((p.holes.filter fun x => x.2.group = e.1).map (·.2.index)).Nodup
          ∧ (∀ x ∈ p.holes, x.2.group = e.1 → x.2.index < e.2.size)
          ∧ (p.holes.filter fun x => x.2.group = e.1).length = e.2.size)
      ∧ (∀ e ∈ p.holes, e.2.x ≤ 400000 ∧ e.2.y ≤ 40000 ∧ 40 ≤ e.2.nominal ∧ e.2.nominal ≤ 2000
          ∧ 1 ≤ e.2.tolerance ∧ e.2.tolerance ≤ 200 ∧ e.2.plies ≤ 6)
      ∧ crc16 p.bytes = h.check

/-- A group's visiting order: the index visited at each position and the position of each index, by order mode; each undoes
the other, so every index is visited exactly once. In a whole plan the members of a hole's group are the holes of that group, and
its predecessor is the one a place before it. -/
def Obligations.VisitingOrderIsAPermutation : Prop :=
  (∀ (g : GroupEntry) (p : Nat), g.start < g.size → p < g.size →
    g.order = .ascendingWrap ∨ g.size = 2 ∨ g.size = 4 ∨ g.size = 8 ∨ g.size = 16 →
    (g.order = .ascendingWrap → g.visitedAt p = (g.start + p) % g.size
      ∧ (g.positionOf p : Int) = ((p : Int) - g.start) % (g.size : Int))
    ∧ (g.order = .xorInterleaved → g.visitedAt p = Nat.xor g.start p ∧ g.positionOf p = Nat.xor p g.start)
    ∧ g.visitedAt p < g.size ∧ g.positionOf (g.visitedAt p) = p
    ∧ g.positionOf p < g.size ∧ g.visitedAt (g.positionOf p) = p)
  ∧ ∀ (s : State) (h : Nat) (hole : PlanHole) (g : GroupEntry), s.ps.status = .valid → s.ps.commitFault = none → s.planOrdered →
      lookupKey h s.ps.holes = some hole → lookupKey hole.group s.ps.groups = some g →
      (∀ m, m ∈ s.ps.members h ↔ ∃ x, lookupKey m s.ps.holes = some x ∧ x.group = hole.group)
      ∧ (∀ m, s.ps.predecessor h = some m ↔ ∃ x, lookupKey m s.ps.holes = some x ∧ x.group = hole.group
          ∧ g.positionOf x.index + 1 = g.positionOf hole.index)

/-- A hole's targets under a correction, both brackets rounded to the nearest integer with halves away from zero; no target
while the correction is NONE. -/
def Obligations.TargetsUnderCorrection : Prop :=
  (∀ (n : Nat) (m : Correction) (h : PlanHole) (s : State), s.pu.correction = some m → lookupKey n s.ps.holes = some h →
    s.target? n = some (m.rA + ((h.x : Int) - m.xA) + roundDiv (((h.x : Int) - m.xA) * m.s) 1000000,
                        (h.y : Int) + m.oA + roundDiv ((m.oB - m.oA) * ((h.x : Int) - m.xA)) m.span))
  ∧ (∀ (n : Nat) (s : State), s.pu.correction = none → s.target? n = none)
  ∧ ∀ n d : Int, 0 < d → 2 * (n - d * roundDiv n d).natAbs ≤ d.natAbs
      ∧ (2 * (n - d * roundDiv n d).natAbs = d.natAbs → n.natAbs < (d * roundDiv n d).natAbs)

/-- ERROR CLEAR: without effect outside FAULTED, refused while the carriage is being brought to rest or the cause stands, else the
station lands with its cause marked CLEARED; what makes each cause stand, and LC's link success mark. EFFECTOR READY's level is held
as the time its last fall lasts (log entry 4, the model's choice). -/
def Obligations.ErrorClearRules : Prop :=
  (∀ s : State, s.sp.rx = .ready →
    (s.ws.state ≠ .faulted → exec (requestRow .errorClear) s = .next (s.answering .errorClear .accepted []))
    ∧ (s.ws.state = .faulted → s.throughEnding = true ∨ s.faultStopping = true →
        exec (requestRow .errorClear) s = .next (s.answering .errorClear .wrongState []))
    ∧ (s.ws.state = .faulted → s.throughEnding = false → s.faultStopping = false → s.causeStands = true →
        exec (requestRow .errorClear) s = .next (s.answering .errorClear .causePresent []))
    ∧ (s.ws.state = .faulted → s.throughEnding = false → s.faultStopping = false → s.causeStands = false →
        ∃ u : State, exec (requestRow .errorClear) s = .next (Served.answered 11#8 u.accept)
          ∧ u.ws.state = (if s.lines.jigClosed then .waiting else .idle) ∧ u.lines.faultLine = false
          ∧ u.eu.cause = s.eu.cause.map (fun c => { c with cleared := true })
          ∧ (s.lines.jigClosed = false → u.ws.claim = none) ∧ u.eu.sources = s.eu.sources ∧ u.pt = s.pt ∧ u.lc.failures = s.lc.failures
          ∧ (s.causeSource = some .supplyLow → u.du.supplyWaits = 0)
          ∧ (s.ws.jigOpened = false ∨ s.lines.jigClosed = false → u.ht = s.ht ∧ u.du.table = s.du.table)))
  ∧ (∀ (s : State) (c : FaultCause), s.eu.cause = some c →
      (c.source = .linkFault → (s.causeStands = true ↔ s.eu.linkSuccess = false))
      ∧ (∀ t, c.source = .duplicateStation → s.lc.foreignTime = some t →
          (s.causeStands = true ↔ s.clock < t + s.cfg.lossPeriod))
      ∧ (∀ k, c.source = .effectorFault k → (s.causeStands = true ↔ s.clock < s.lines.readyLowUntil))
      ∧ (c.source = .supplyLow → s.causeStands = false))
  ∧ State.reset.eu.linkSuccess = false
  ∧ (∀ (src : FaultSource) (s : State),
      s.ws.state = .idle ∨ s.ws.state = .waiting ∨ s.ws.state = .working ∨ s.ws.state = .finished →
      (s.enterFaulted src).eu.linkSuccess = false)
  ∧ (∀ (f : TxFrame) (s : State), s.ws.state = .faulted → (s.readBackWhole f).eu.linkSuccess = true)
  ∧ ∀ s : State, s.hearForeign.lc.foreignTime = some s.clock

/-- REWORK HOLE: its refusals in their order, else the entry bare at its target with the count raised and a rework
CORRECTION offered. -/
def Obligations.ReworkRules : Prop :=
  ∀ (n : Nat) (target : ReworkTarget) (s : State), n < 65536 → s.sp.rx = .ready →
    (s.ps.status ≠ .valid →
      exec (requestRow (.reworkHole n target)) s = .next (s.answering (.reworkHole n target) .wrongState []))
    ∧ (s.ps.status = .valid → s.ht[n]? = none →
        exec (requestRow (.reworkHole n target)) s = .next (s.answering (.reworkHole n target) .range []))
    ∧ (∀ e, s.ps.status = .valid → s.ht[n]? = some e → e.state ≠ .rejected →
        exec (requestRow (.reworkHole n target)) s = .next (s.answering (.reworkHole n target) .wrongState []))
    ∧ (∀ e, s.ps.status = .valid → s.ht[n]? = some e → e.state = .rejected → 3 ≤ e.rework →
        exec (requestRow (.reworkHole n target)) s = .next (s.answering (.reworkHole n target) .limit []))
    ∧ (∀ e, s.ps.status = .valid → s.ht[n]? = some e → e.state = .rejected → e.rework < 3 → s.ws.state.online = false →
        exec (requestRow (.reworkHole n target)) s = .next (s.answering (.reworkHole n target) .wrongState []))
    ∧ (∀ e, s.ps.status = .valid → s.ht[n]? = some e → e.state = .rejected → e.rework < 3 → s.ws.state.online = true →
        ∃ u : State, exec (requestRow (.reworkHole n target)) s = .next (Served.answered 13#8 u.accept)
          ∧ u = State.offer .ht (.correction (reworkMsg n target)) ((s.taking (.reworkHole n target)).putEntry n
              { state := target.state, drillWorker := if target = .drilled then some 0 else none,
                rework := e.rework + 1, owed := e.owed }))

/-! ### Frames heard -/

/-- What is held back. A frame that fails its CRC takes no stamp; one that fails kind, length or sender is stamped and no more. In
UNCONFIGURED and HALTED a frame heard is only stamped, whatever its row. A frame with this station's number raises DUPLICATE
STATION, keeps its time, and takes a station at work into FAULTED. A frame other than PRESENCE of a station with another plan is
ignored, and of a station not yet heard as well, but for a DATUM under this plan; in IDLE every one is. -/
def Obligations.FramesHeldBack : Prop :=
  ∀ (f : List Byte) (s : State),
    (crcChecks f = false → exec (.frameDiscarded f) s
      = .next (State.settle { s with lc.rxBuffer := f, lc.quiet := some 20 }))
    ∧ (crcChecks f = true → splitFrame f = none → exec (.frameDiscarded f) s = .next (s.heard f).settle)
    ∧ (∀ r : RawFrame, crcChecks f = true → splitFrame f = some r → r.sender = 0 ∨ s.cfg.stations < r.sender →
        exec (.frameDiscarded f) s = .next (s.heard f).settle)
    ∧ (s.ws.state.online = false → crcChecks f = true → ∀ c ∈ frameRows f, exec c s = .next (s.heard f))
    ∧ (∀ r : RawFrame, s.ws.state.online = true → crcChecks f = true → splitFrame f = some r → r.sender = s.k → 1 ≤ s.k →
        s.k ≤ s.cfg.stations →
        ∃ u : State, (∀ c ∈ frameRows f, exec c s = .next u.settle) ∧ u.lc.foreignTime = some s.clock
          ∧ u.lc.stamp = s.lc.stamp + 1 ∧ u.ws.state = .faulted
          ∧ (∀ x, s.eu.sources[9]? = some x → u.eu.sources[9]?
              = some { pending := x.pending || decide (0 < s.levels.getD 9 0), count := min 255 (x.count + 1) })
          ∧ (s.ws.state ≠ .faulted → u.eu.cause
              = some { source := .duplicateStation, stateLeft := s.ws.state, time := s.clock, cleared := false })
          ∧ (s.ws.state = .faulted → u.eu.cause = s.eu.cause))
    ∧ (∀ (j : Nat) (b : Body), s.ws.state.online = true → s.otherOnLine j → bodyFits b = true → (∀ p, b ≠ .presence p) →
        s.ws.state = .idle
          ∨ (∃ i, (s.peer j).info = some i ∧ i.check ≠ s.planCheck)
          ∨ ((s.peer j).info = none ∧ ∀ d r q, b ≠ .datum d r q s.planCheck) →
        exec (heardRow b (frameBytes j b)) s = .next (s.heard (frameBytes j b)).settle)

/-- A PRESENCE replaces its sender's peer entry whole and no other, takes a stamp, and leaves the states and claimants of the hole
table alone where the plan check held for its sender is another, or none is held and it carries another: one that lifts the filter
acts on the frames that follow. It raises PLAN MISMATCH when its plan is another and the plan held for its sender before was this
station's or none, and not again while the other plan is held. A DATUM under this plan replaces the named record, and the
correction follows it: from two VALID records the figures of R34, VALID when both limit checks pass with the concern set of R37,
and NONE with DATUM FAULT when one fails; from any other records NONE without it. -/
def Obligations.PresenceAndDatumRecorded : Prop :=
  (∀ (j : Nat) (p : Presence) (s : State), presenceFits p = true → s.ws.state.online = true → s.otherOnLine j →
    ∃ u : State, exec (.presenceReceived (frameBytes j (.presence p))) s = .next u.settle
      ∧ u.pt.peers = s.pt.peers.set (j - 1) (peerOf p s.clock) ∧ u.lc.stamp = s.lc.stamp + 1
      ∧ u.setup = s.setup ∧ u.ps = s.ps ∧ u.sp = s.sp ∧ u.pu.datumA = s.pu.datumA ∧ u.pu.datumB = s.pu.datumB
      ∧ u.pu.correction = s.pu.correction ∧ u.du.table = s.du.table
      ∧ ((s.peer j).info = none ∧ p.check ≠ s.planCheck ∨ (∃ i, (s.peer j).info = some i ∧ i.check ≠ s.planCheck) →
          u.ws.state ≠ .halted →
          u.ht.map (fun e => (e.state, e.claimant)) = s.ht.map (fun e => (e.state, e.claimant)))
      ∧ (∀ x, s.eu.sources[3]? = some x →
          (p.check ≠ s.planCheck → (∀ i, (s.peer j).info = some i → i.check = s.planCheck) →
            u.eu.sources[3]? = some { pending := x.pending || decide (0 < s.levels.getD 3 0), count := min 255 (x.count + 1) })
          ∧ (p.check = s.planCheck ∨ (∃ i, (s.peer j).info = some i ∧ i.check ≠ s.planCheck) →
            u.eu.sources[3]? = some x)))
  ∧ (∀ (j : Nat) (d : Datum) (r q : Nat) (s : State), s.ws.state.active = true → s.otherOnLine j →
    bodyFits (.datum d r q s.planCheck) = true → (∀ i, (s.peer j).info = some i → i.check = s.planCheck) →
    ∃ u : State, exec (.datumReceived (frameBytes j (.datum d r q s.planCheck))) s = .next u.settle
      ∧ u = ((s.heard (frameBytes j (.datum d r q s.planCheck))).setRecord d
              { status := .valid, fix := some { r, q, source := j, time := s.clock, stamp := s.lc.stamp + 1 } }).computeCorrection
      ∧ u.pu.record d = { status := .valid, fix := some { r, q, source := j, time := s.clock, stamp := s.lc.stamp + 1 } }
      ∧ u.ht = s.ht ∧ u.lc.queue = s.lc.queue ∧ u.ws = s.ws ∧ u.zc = s.zc ∧ u.du = s.du)
  ∧ (∀ (h : PlanHeader) (fa fb : DatumFix) (m : Correction) (s : State), s.ps.header = some h →
      s.pu.datumA = ⟨.valid, some fa⟩ → s.pu.datumB = ⟨.valid, some fb⟩ →
      m = { rA := fa.r, oA := (fa.q : Int) - h.yA, oB := (fb.q : Int) - h.yB, xA := h.xA, span := (h.xB : Int) - h.xA,
            s := roundDiv (((fb.r : Int) - fa.r - ((h.xB : Int) - h.xA)) * 1000000) ((h.xB : Int) - h.xA) } →
      (m.s.natAbs ≤ s.cfg.scaleLimit → (m.oB - m.oA).natAbs ≤ s.cfg.skewLimit →
        s.computeCorrection.pu.correction = some m ∧ s.computeCorrection.eu = s.eu
        ∧ ∃ l, s.computeCorrection.pu.concern = some l
          ∧ ((s.ps.holes.map (·.1)).Pairwise (· < ·) → l.Pairwise (· < ·))
          ∧ ∀ n, n ∈ l ↔ ∃ x, (n, x) ∈ s.ps.holes ∧ 0 ≤ (m.target x).1 ∧ (m.target x).1 ≤ 524287
              ∧ (s.cfg.low : Int) ≤ (m.target x).1 ∧ (m.target x).1 ≤ s.cfg.high
              ∧ 0 ≤ (m.target x).2 ∧ (m.target x).2 ≤ s.cfg.crossLimit)
      ∧ (s.cfg.scaleLimit < m.s.natAbs ∨ s.cfg.skewLimit < (m.oB - m.oA).natAbs →
          s.computeCorrection.pu.correction = none ∧ s.computeCorrection.pu.concern = none
          ∧ ∀ x, s.eu.sources[4]? = some x → s.computeCorrection.eu.sources[4]?
            = some { pending := x.pending || decide (0 < s.levels.getD 4 0), count := min 255 (x.count + 1) }))
  ∧ ∀ s : State, s.pu.datumA.status ≠ .valid ∨ s.pu.datumB.status ≠ .valid →
      s.computeCorrection = { s with pu.correction := none, pu.concern := none }

/-- What a PRESENCE leads to beyond its peer entry. Claims, where the plan check held for its sender is this station's, or none is
held and it carries this station's: its sender keeps only the hole it names claimed, and one that names a hole the plan does not
have leaves every entry as it is, but for a correction owed that finds room in the queue meanwhile. Demand: a CURRENT prober
becomes DUE when the sender lacks its datum and the own record is 10 s old, and otherwise no prober changes. The configuration is
evaluated, and a conflict that begins raises CONFIG CONFLICT. Clearance: a neighbour too near or out of order halts the station,
and a TRAVEL in progress, a cycle's or a lone motion's, whose remaining path comes too near is to be stopped, once, the table
having an entry for each of the eight stations (the invariant of LinkAndPeerTimers). The remaining path begins at the own position
(log entry 51). The configuration conflicts when the stretch from the left zone's upper bound to the right zone's lower bound, or
to the own limit where a zone does not exist, is shorter than the minimum gap, or when the limits of a heard station that is not
adjacent overlap the own ones. -/
def Obligations.PresenceActs : Prop :=
  (∀ (j : Nat) (p : Presence) (s : State), presenceFits p = true → s.ws.state.online = true → s.otherOnLine j →
    ∃ u : State, exec (.presenceReceived (frameBytes j (.presence p))) s = .next u.settle
      ∧ (((s.peer j).info = none → p.check = s.planCheck) → (∀ i, (s.peer j).info = some i → i.check = s.planCheck) →
          u.ws.state ≠ .halted → (∀ c, p.claim = some c → c.hole < s.ht.length) →
          ∀ n e, s.ht[n]? = some e → ∃ e', u.ht[n]? = some e'
            ∧ (e.claimedBy j = true → p.claim.map (·.hole) ≠ some n → e'.state = e.revert.state ∧ e'.claimant = none)
            ∧ (e.claimedBy j = false ∨ p.claim.map (·.hole) = some n → e'.state = e.state ∧ e'.claimant = e.claimant))
      ∧ (∀ c, p.claim = some c → s.ht.length ≤ c.hole → u.ws.state ≠ .halted →
          u.ht.map (fun e => { e with owed := false }) = s.ht.map (fun e => { e with owed := false }))
      ∧ (∀ d st f, s.cfg.role.datum = some d → s.ownRecord = some ⟨st, some f⟩ →
          (s.proberStatus = some .current → p.check = s.planCheck → p.state = .waiting ∨ p.state = .working →
            (match d with | .a => p.datumA | .b => p.datumB) ≠ .valid → 10000 ≤ s.clock - f.time →
            u.proberStatus = some .due)
          ∧ (s.proberStatus ≠ some .current ∨ p.check ≠ s.planCheck ∨ s.clock - f.time < 10000
              ∨ (match d with | .a => p.datumA | .b => p.datumB) = .valid ∨ (p.state ≠ .waiting ∧ p.state ≠ .working) →
            u.pu.prober = s.pu.prober))
      ∧ (s.ownRecord.bind (·.fix) = none → u.pu.prober = s.pu.prober)
      ∧ (s.setup ≠ none → u.pt.conflict = (u.shortStretch || u.nonAdjacentOverlap))
      ∧ (∀ x, s.eu.sources[13]? = some x → u.eu.sources[13]? = if u.pt.conflict = true ∧ s.pt.conflict = false then
          some { pending := x.pending || decide (0 < s.levels.getD 13 0), count := min 255 (x.count + 1) } else some x)
      ∧ (∀ side, s.tablesWhole → s.cfg.sideOf j = some side → s.ws.state.active = true →
          max p.position s.own - min p.position s.own < s.cfg.hardGap ∨ (j < s.k ∧ s.own ≤ p.position)
            ∨ (s.k < j ∧ p.position ≤ s.own) →
          u.ws.state = .halted)
      ∧ (∀ side t cy, s.tablesWhole → s.cfg.sideOf j = some side → u.ws.state ≠ .halted → s.cycleTravel = some t → s.cs.cycle = some cy →
          cy.ending = none → cy.stopAsked = false →
          intervalGap (min s.own t, max s.own t) (min p.position p.target, max p.position p.target) < s.cfg.gap →
          u.cs.interject = some .stopMotion ∧ u.cs.cycle = some { cy with stopAsked := true })
      ∧ (∀ side l, s.tablesWhole → s.cfg.sideOf j = some side → u.ws.state ≠ .halted → s.cs.lone = some l → l.placed = true →
          l.ending = none → l.stopAsked = false →
          intervalGap (min s.own l.target, max s.own l.target) (min p.position p.target, max p.position p.target) < s.cfg.gap →
          u.cs.interject = some .stopMotion ∧ u.cs.lone = some { l with stopAsked := true })
      ∧ (u.ws.state ≠ .halted →
          (∀ cy t, s.cs.cycle = some cy → s.cycleTravel = some t → cy.ending ≠ none ∨ cy.stopAsked = true ∨ u.permitted t = true) →
          (∀ l, s.cs.lone = some l → l.placed = true → l.ending ≠ none ∨ l.stopAsked = true ∨ u.permitted l.target = true) →
          u.cs = s.cs))
  ∧ ∀ s : State,
      (∀ lower upper : Int,
        (∀ b, s.boundsNow .left = some b → lower = b.2) → (s.boundsNow .left = none → lower = s.cfg.low) →
        (∀ b, s.boundsNow .right = some b → upper = b.1) → (s.boundsNow .right = none → upper = s.cfg.high) →
        (s.shortStretch = true ↔ upper - lower < s.cfg.gap))
      ∧ (s.nonAdjacentOverlap = true ↔ ∃ j i, 1 ≤ j ∧ j ≤ 8 ∧ (j + 1 < s.k ∨ s.k + 1 < j) ∧ (s.peer j).info = some i
          ∧ i.low ≤ s.cfg.high ∧ s.cfg.low ≤ i.high)

/-- ZC after a neighbour's PRESENCE: what becomes of the zone it shares, by the zone's state, the neighbour's held flag and its
interval; bounds made or unmade with its limits; a plan that differs blocks the zone. A zone exists where the own limits and the
heard neighbour's overlap, and its bounds are the overlap, the left one from the own low limit to the neighbour's high, the right
one from the neighbour's low limit to the own high; a rail position lies in a zone within its bounds. That the cleared record's
stamp, yield deadline and bounds are absent is the model's choice (log entry 68). -/
def Obligations.ZoneReconciled : Prop :=
  (∀ (j : Nat) (side : Side) (p : Presence) (s : State), presenceFits p = true → s.ws.state.online = true → s.otherOnLine j →
    s.cfg.sideOf j = some side →
    ∃ u v : State, exec (.presenceReceived (frameBytes j (.presence p))) s = .next u.settle
      ∧ v = (((s.heard (frameBytes j (.presence p))).setPeer j (peerOf p s.clock)).demand p).rebound side
      ∧ (u.ws.state ≠ .halted → (s.zone side).state = .noZone → u.zone side = v.zone side)
      ∧ (u.ws.state ≠ .halted → (s.zone side).state ≠ .noZone → u.zone side = (v.reconcileZone side).zone side))
  ∧ (∀ (s : State) (b : Nat × Nat) (x : Int),
      (s.boundsNow .left = some b ↔ ∃ i, 1 < s.k ∧ (s.peer (s.k - 1)).info = some i ∧ s.cfg.low ≤ i.high
        ∧ b = (s.cfg.low, i.high))
      ∧ (s.boundsNow .right = some b ↔ ∃ i, s.k < s.cfg.stations ∧ (s.peer (s.k + 1)).info = some i ∧ i.low ≤ s.cfg.high
        ∧ b = (i.low, s.cfg.high))
      ∧ (∀ side, s.planDiffers side = true ↔ ∃ i, s.sideInfo side = some i ∧ i.check ≠ s.planCheck)
      ∧ (∀ side, s.neighbourInside side = true ↔ ∃ i c, s.sideInfo side = some i ∧ (s.zone side).bounds = some c
          ∧ min i.position i.target ≤ c.2 ∧ c.1 ≤ max i.position i.target)
      ∧ (∀ side, s.zoneAt x = some side → ∃ lo hi : Nat, (s.zone side).bounds = some (lo, hi) ∧ (lo : Int) ≤ x ∧ x ≤ hi)
      ∧ (∀ side lo hi, s.zoneAt x = none → (s.zone side).bounds = some (lo, hi) → x < (lo : Int) ∨ (hi : Int) < x))
  ∧ (∀ (side : Side) (s : State),
      (s.boundsNow side = none → (s.zone side).state ≠ .noZone → (s.rebound side).zone side = {})
      ∧ (∀ b, s.boundsNow side = some b → (s.zone side).state = .noZone →
          ((s.rebound side).zone side).bounds = some b
          ∧ ∀ i, s.sideInfo side = some i → ((s.rebound side).zone side).state =
              if s.planDiffers side then .blocked else if i.heldFor side then .heldOther
              else if intervalInside i.interval b then .blocked else .free))
  ∧ ∀ (side : Side) (s : State) (i : PeerInfo), s.sideInfo side = some i →
      (s.planDiffers side = true → (s.zone side).state ≠ .noZone → (s.zone side).state ≠ .heldOwn →
        ((s.reconcileZone side).zone side).state = .blocked)
      ∧ (s.planDiffers side = false →
          ((s.zone side).state = .free ∨ (s.zone side).state = .blocked ∨ (s.zone side).state = .yielding → i.heldFor side = true →
            ((s.reconcileZone side).zone side).state = .heldOther)
          ∧ ((s.zone side).state = .heldOther → i.heldFor side = true → s.reconcileZone side = s)
          ∧ ((s.zone side).state = .free ∨ (s.zone side).state = .heldOther ∨ (s.zone side).state = .requested
              ∨ (s.zone side).state = .blocked ∨ (s.zone side).state = .yielding →
              i.heldFor side = false → s.neighbourInside side = true → ((s.reconcileZone side).zone side).state = .blocked)
          ∧ ((s.zone side).state = .heldOther ∨ (s.zone side).state = .blocked → i.heldFor side = false →
              s.neighbourInside side = false → ((s.reconcileZone side).zone side).state = .free)
          ∧ ((s.zone side).state = .free ∨ (s.zone side).state = .yielding → i.heldFor side = false →
              s.neighbourInside side = false → s.reconcileZone side = s)
          ∧ ((s.zone side).state = .requested → i.heldFor side = true → ((s.reconcileZone side).zone side).state = .requested)
          ∧ ((s.zone side).state = .requested → i.heldFor side = false → s.neighbourInside side = false →
              s.reconcileZone side = s.hearRelease side)
          ∧ ((s.zone side).state = .heldOwn →
              ((s.reconcileZone side).zone side).state = .heldOwn
              ∧ (i.heldFor side = true → (s.zone side).laterSeize = false →
                  ((s.reconcileZone side).zone side).dual = true
                  ∧ ((s.zone side).progress = .no → ((s.reconcileZone side).zone side).progress = .due))
              ∧ (i.heldFor side = false ∨ (s.zone side).laterSeize = true →
                  ((s.reconcileZone side).zone side).dual = (s.zone side).dual
                  ∧ ((s.reconcileZone side).zone side).progress = (s.zone side).progress)
              ∧ (i.requestedFor side = true → ((s.reconcileZone side).zone side).pending = true)
              ∧ (i.requestedFor side = false → ((s.reconcileZone side).zone side).pending = (s.zone side).pending)))

/-- A CLAIM, RELEASE, REPORT or CORRECTION changes the one entry it names by the tables of R13 to R20, unless this station
has it claimed; one that names no hole of the plan changes nothing but the stamp. -/
def Obligations.HoleFramesMerge : Prop :=
  ∀ (j n : Nat) (b : Body) (s : State), b.hole? = some n → bodyFits b = true → s.dispatches j →
    (∀ e, s.ht[n]? = some e → e.claimedBy s.k = false →
      exec (heardRow b (frameBytes j b)) s
        = .next ((s.heard (frameBytes j b)).putEntry n (mergeEntry s.k j b e)).settle)
    ∧ (s.ht[n]? = none → exec (heardRow b (frameBytes j b)) s = .next (s.heard (frameBytes j b)).settle)

/-- The tables of R13 to R20, row by row, for an entry this station has not claimed: a CLAIM, a RELEASE, a REPORT of each outcome
and a CORRECTION with and without the rework flag. From them: SET stays SET, REJECTED is left only for SET or a rework, and a claim
enters only by a CLAIM or a CORRECTION. -/
def Obligations.MergeTables : Prop :=
  ∀ (k j : Nat) (e : HoleEntry),
    (∀ c : Claim, c.phase = .drill →
      (e.state = .planned ∨ e.state = .drillClaimed →
        mergeEntry k j (.claim c) e = { e with state := .drillClaimed, claimant := some j })
      ∧ (e.state ≠ .planned → e.state ≠ .drillClaimed → mergeEntry k j (.claim c) e = { e with owed := true }))
    ∧ (∀ c : Claim, c.phase = .set →
      (e.state = .planned ∨ e.state = .drillClaimed →
        mergeEntry k j (.claim c) e = { e with state := .setClaimed, claimant := some j, drillWorker := some 0 })
      ∧ (e.state = .drilled ∨ e.state = .setClaimed →
        mergeEntry k j (.claim c) e = { e with state := .setClaimed, claimant := some j })
      ∧ (e.state = .set ∨ e.state = .rejected → mergeEntry k j (.claim c) e = { e with owed := true }))
    ∧ (∀ c : Claim,
      (c.phase = .drill → e.state = .drillClaimed → e.claimant = some j →
        mergeEntry k j (.release c) e = { e with state := .planned, claimant := none })
      ∧ (c.phase = .set → e.state = .setClaimed → e.claimant = some j →
        mergeEntry k j (.release c) e = { e with state := .drilled, claimant := none })
      ∧ (e.claimant ≠ some j ∨ (c.phase = .drill ∧ e.state ≠ .drillClaimed) ∨ (c.phase = .set ∧ e.state ≠ .setClaimed) →
        mergeEntry k j (.release c) e = e))
    ∧ (∀ r : Report, r.outcome = .drilled →
      (e.state = .planned ∨ e.state = .drillClaimed →
        mergeEntry k j (.report r) e = { e with
          state := .drilled, claimant := none, drillWorker := some j,
          stack := r.stack.map fun v => ⟨v, if r.plies = 0 then .gauge else .drill⟩,
          plies := if r.stack ≠ none ∧ r.plies ≠ 0 then some r.plies else none })
      ∧ (e.state ≠ .planned → e.state ≠ .drillClaimed →
        mergeEntry k j (.report r) e = { e with
          drillWorker := if e.drillWorker.getD 0 = 0 then some j else e.drillWorker,
          stack := if e.stack = none then r.stack.map fun v => ⟨v, if r.plies = 0 then .gauge else .drill⟩ else e.stack,
          plies := if e.stack = none then (if r.stack ≠ none ∧ r.plies ≠ 0 then some r.plies else none) else e.plies }))
    ∧ (∀ r : Report, r.outcome = .set →
      (e.state = .set → mergeEntry k j (.report r) e = e)
      ∧ (e.state ≠ .set → mergeEntry k j (.report r) e = { e with
          state := .set, claimant := none, setWorker := some j, grip := some r.grip, squeeze := some ⟨r.peak, r.stroke⟩,
          drillWorker := some (e.drillWorker.getD 0), reject := none,
          stack := if r.stack = none then e.stack else r.stack.map fun v => ⟨v, if r.plies = 0 then .gauge else .drill⟩,
          plies := if r.stack = none then e.plies else (if r.plies = 0 then none else some r.plies) }))
    ∧ (∀ (r : Report) (cause : RejectCause), r.outcome = .rejected cause →
      (e.state = .set ∨ e.state = .rejected → mergeEntry k j (.report r) e = e)
      ∧ (e.state ≠ .set → e.state ≠ .rejected → mergeEntry k j (.report r) e = { e with
          state := .rejected, claimant := none, reject := some ⟨cause, r.phase⟩ }))
    ∧ (∀ m : CorrectionMsg, m.rework = false →
      (m.asserted = .planned → mergeEntry k j (.correction m) e = e)
      ∧ (m.asserted = .drillClaimed ∨ m.asserted = .setClaimed → m.worker = 0 ∨ m.worker = k →
          mergeEntry k j (.correction m) e = e)
      ∧ (m.asserted = .drillClaimed → m.worker ≠ 0 → m.worker ≠ k →
          mergeEntry k j (.correction m) e = if e.state = .planned ∨ e.state = .drillClaimed then
            { e with state := .drillClaimed, claimant := some m.worker } else e)
      ∧ (m.asserted = .setClaimed → m.worker ≠ 0 → m.worker ≠ k →
          mergeEntry k j (.correction m) e =
            if e.state = .planned ∨ e.state = .drillClaimed then
              { e with state := .setClaimed, claimant := some m.worker, drillWorker := some 0 }
            else if e.state = .drilled ∨ e.state = .setClaimed then { e with state := .setClaimed, claimant := some m.worker }
            else e)
      ∧ (m.asserted = .drilled → e.state = .planned ∨ e.state = .drillClaimed →
          mergeEntry k j (.correction m) e = { e with
            state := .drilled, claimant := none, drillWorker := some m.worker, stack := m.stack, plies := none })
      ∧ (m.asserted = .drilled → e.state ≠ .planned → e.state ≠ .drillClaimed →
          mergeEntry k j (.correction m) e = { e with
            drillWorker := if e.drillWorker.getD 0 = 0 then some m.worker else e.drillWorker,
            stack := if e.stack = none then m.stack else e.stack, plies := if e.stack = none then none else e.plies })
      ∧ (m.asserted = .set → e.state = .set → mergeEntry k j (.correction m) e = e)
      ∧ (m.asserted = .set → e.state ≠ .set → mergeEntry k j (.correction m) e = { e with
          state := .set, claimant := none, setWorker := some m.worker, grip := m.grip, squeeze := none,
          drillWorker := some (e.drillWorker.getD 0), reject := none,
          stack := if m.stack = none then e.stack else m.stack, plies := if m.stack = none then e.plies else none })
      ∧ (m.asserted = .rejected → m.reject = none → mergeEntry k j (.correction m) e = e)
      ∧ (∀ r, m.asserted = .rejected → m.reject = some r →
          mergeEntry k j (.correction m) e = if e.state = .set ∨ e.state = .rejected then e
            else { e with state := .rejected, claimant := none, reject := some r }))
    ∧ (∀ m : CorrectionMsg, m.rework = true →
      (e.state = .set → mergeEntry k j (.correction m) e = e)
      ∧ (e.state ≠ .set → mergeEntry k j (.correction m) e =
          { state := m.asserted, drillWorker := if m.asserted = .drilled then some 0 else none,
            rework := min 3 (e.rework + 1), owed := e.owed }))
    ∧ ∀ b : Body,
      (e.state = .set → (mergeEntry k j b e).state = .set ∧ (mergeEntry k j b e).rework = e.rework)
      ∧ (e.state = .rejected → (mergeEntry k j b e).state = .rejected ∨ (mergeEntry k j b e).state = .set
          ∨ ∃ m, b = .correction m ∧ m.rework = true)
      ∧ ((mergeEntry k j b e).state.claimed = true → e.state.claimed = true
          ∨ (∃ c, b = .claim c) ∨ ∃ m, b = .correction m)

/-- A frame on an entry held by this station's claim. Passed to WS: the claim kept and asserted when there is no cycle, for a CLAIM,
for a rework, and from CLAMPING on; before CLAMPING any other such frame abandons the cycle and is left for its end; under an ending
already begun it is left too. Not passed: a RELEASE, a CORRECTION that asserts PLANNED or names this station, which change nothing,
and a REPORT DRILLED on a SET-CLAIMED entry, which fills what the entry lacks. -/
def Obligations.OwnClaimConflicts : Prop :=
  ∀ (j n : Nat) (b : Body) (e : HoleEntry) (s : State), b.hole? = some n → bodyFits b = true →
    s.dispatches j → s.ht[n]? = some e → e.claimedBy s.k = true →
    (passes s.k b e = true →
      (s.cs.cycle = none →
        exec (heardRow b (frameBytes j b)) s
          = .next ((s.heard (frameBytes j b)).putEntry n { e with owed := true }).settle)
      ∧ (∀ cy, s.cs.cycle = some cy → cy.ending = none → b.keepsClaim = true ∨ cy.stage.clampingOrLater = true →
        exec (heardRow b (frameBytes j b)) s
          = .next ((s.heard (frameBytes j b)).putEntry n { e with owed := true }).settle)
      ∧ (∀ cy, s.cs.cycle = some cy → cy.ending = none → b.keepsClaim = false → cy.stage.clampingOrLater = false →
          ∃ (u : State) (cy' : Cycle) (x : Ending), exec (heardRow b (frameBytes j b)) s = .next u.settle
            ∧ u.ht = s.ht ∧ u.cs.cycle = some cy' ∧ cy'.ending = some x ∧ x.cause = .abandon
            ∧ cy'.left = [{ sender := j, body := b, stamp := s.lc.stamp + 1 }] ∧ cy'.work = cy.work)
      ∧ (∀ cy x, s.cs.cycle = some cy → cy.ending = some x →
          ∃ u : State, exec (heardRow b (frameBytes j b)) s = .next u.settle ∧ u.ht = s.ht
            ∧ u.cs.cycle = some { cy with left := cy.left ++ [{ sender := j, body := b, stamp := s.lc.stamp + 1 }] }))
    ∧ (passes s.k b e = false →
      (∀ r, b = .report r →
        exec (heardRow b (frameBytes j b)) s
          = .next ((s.heard (frameBytes j b)).putEntry n { e with
              drillWorker := if e.drillWorker.getD 0 = 0 then some j else e.drillWorker,
              stack := if e.stack = none then r.stackOf else e.stack,
              plies := if e.stack = none then r.pliesOf else e.plies }).settle)
      ∧ ((∀ r, b ≠ .report r) → exec (heardRow b (frameBytes j b)) s = .next (s.heard (frameBytes j b)).settle))
    ∧ (∀ c, passes s.k (.claim c) e = true ∧ passes s.k (.release c) e = false)
    ∧ (∀ r : Report, passes s.k (.report r) e = true ↔ (r.outcome = .drilled → e.state = .drillClaimed))
    ∧ (∀ m : CorrectionMsg, passes s.k (.correction m) e = true ↔
        m.rework = true ∨ (m.asserted ≠ .planned
          ∧ (m.asserted = .drillClaimed ∨ m.asserted = .setClaimed → m.worker ≠ 0 ∧ m.worker ≠ s.k)))

/-- A neighbour's ZONE frame for the zone it shares: a SEIZE takes a zone not held here and is noted on one that is; a REQUEST is
noted on a held zone and nowhere else; a RELEASE frees a zone the neighbour held, and one requested is freed, waited for or seized
by WS's wanting and the neighbour's interval. A zone that would be taken or freed while the neighbour stands inside it without
holding it, or works to another plan, is BLOCKED, a BLOCKED zone at a SEIZE included (log entry 20, DEDUCED). A SEIZE of its own
still to be sent is replaced with a REQUEST. ZC asks for a HELD-OTHER zone that WS wants with a ZONE REQUEST, noted as
outstanding, and for no other; a REQUESTED zone that WS stops wanting returns to HELD-OTHER; and a REQUEST still to be sent is
removed when the zone leaves HELD-OTHER (R74). A station is not left with a HELD-OTHER zone wanted and nothing outstanding for it.
A ZONE frame from another station, for the other side or for a zone in NONE changes nothing. A DRAW INTENT fills its sender's
entry, an amount of 0 is ignored, DONE and WITHDRAW empty it, and on an empty one do nothing; that the frame's hole number may be
any of 0..2,047, of the plan or not (log entry 75), and that the amount of a DONE and a WITHDRAW is not examined (log entry 45,
DEDUCED) are the model's choices. A removal, while the own intent is WAITING, brings a fresh INTENT of the same amount and hole
once the amounts of all other entries leave room for the own one, in the place of a WITHDRAW that has not begun, else as a new
frame behind the frames of class 0; without room, or in another state, it changes nothing. A WITHDRAW queued again after a failed
attempt counts as not begun (log entry 73, DEDUCED). -/
def Obligations.ZoneAndDrawFramesHeard : Prop :=
  (∀ (j : Nat) (named : Side) (s : State),
    (∀ side, s.cfg.zoneNamed j named = some side ↔ (named = .right ∧ side = .left ∧ 1 < s.k ∧ j + 1 = s.k)
      ∨ (named = .left ∧ side = .right ∧ s.k < s.cfg.stations ∧ j = s.k + 1))
    ∧ (s.dispatches j → s.cfg.zoneNamed j named = none → ∀ a,
        exec (heardRow (.zone named a) (frameBytes j (.zone named a))) s = .next (s.heard (frameBytes j (.zone named a))).settle))
  ∧ (∀ (side : Side) (s : State),
    ((s.zone side).state = .noZone → s.hearSeize side = s ∧ s.hearRequest side = s ∧ s.hearRelease side = s)
    ∧ ((s.zone side).state = .heldOwn → (s.hearSeize side).zone side = { (s.zone side) with
            pending := true, laterSeize := true, cycles := if (s.zone side).pending then (s.zone side).cycles else 0,
            outstanding := if (s.zone side).outstanding = .seize ∧ s.inFlight (s.zone side).frameId = false then .request
              else (s.zone side).outstanding })
    ∧ ((s.zone side).state ≠ .noZone → (s.zone side).outstanding = .seize → s.inFlight (s.zone side).frameId = false →
        ((s.zone side).state = .heldOwn ∨ s.blocks side = false) →
        ((s.hearSeize side).zone side).outstanding = .request ∧ ∀ f ∈ (s.hearSeize side).lc.queue ++ (s.hearSeize side).lc.held,
          f.id = (s.zone side).frameId → f.body = .zone side .request))
  ∧ (∀ (j : Nat) (named side : Side) (a : ZoneAction) (s : State), s.dispatches j → s.cfg.zoneNamed j named = some side →
    exec (heardRow (.zone named a) (frameBytes j (.zone named a))) s
      = .next (State.settle (match a with
          | .seize => (s.heard (frameBytes j (.zone named a))).hearSeize side
          | .release => (s.heard (frameBytes j (.zone named a))).hearRelease side
          | .request => (s.heard (frameBytes j (.zone named a))).hearRequest side))
    ∧ ((s.zone side).state = .heldOwn → (s.zone side).outstanding = .no →
        (s.hearSeize side).zone side = { (s.zone side) with pending := true, laterSeize := true,
                                                            cycles := if (s.zone side).pending then (s.zone side).cycles else 0 })
    ∧ ((s.zone side).state ≠ .heldOwn → (s.zone side).state ≠ .noZone → s.blocks side = false →
        ((s.hearSeize side).zone side).state = .heldOther)
    ∧ ((s.zone side).state ≠ .heldOwn → (s.zone side).state ≠ .noZone → s.blocks side = true →
        ((s.hearSeize side).zone side).state = .blocked)
    ∧ (s.blocks side = true ↔ s.planDiffers side = true
        ∨ (s.neighbourInside side = true ∧ ∀ i, s.sideInfo side = some i → i.heldFor side = false))
    ∧ ((s.zone side).state = .heldOwn →
        (s.hearRequest side).zone side = { (s.zone side) with pending := true,
                                                              cycles := if (s.zone side).pending then (s.zone side).cycles else 0 })
    ∧ ((s.zone side).state ≠ .heldOwn → s.hearRequest side = s)
    ∧ ((s.zone side).state = .heldOther →
        ((s.hearRelease side).zone side).state = if s.blocks side = true then .blocked else .free)
    ∧ ((s.zone side).state = .requested →
        (s.wants side = false → ((s.hearRelease side).zone side).state = if s.blocks side = true then .blocked else .free)
        ∧ (s.wants side = true → s.neighbourInside side = true →
            (s.hearRelease side).zone side = { (s.zone side) with releaseHeard := true })
        ∧ (s.wants side = true → s.neighbourInside side = false → (s.zone side).outstanding = .no →
            ((s.hearRelease side).zone side).state = .requested ∧ ((s.hearRelease side).zone side).outstanding = .seize
            ∧ (s.hearRelease side).offered .zc (.zone side .seize)))
    ∧ ((s.zone side).state ≠ .heldOther → (s.zone side).state ≠ .requested → s.hearRelease side = s))
  ∧ (∀ (side : Side) (s : State),
    ((s.zone side).state = .heldOther → (s.zone side).outstanding = .no → s.wants side = true →
      (s.makeRequest side).zone side = { (s.zone side) with outstanding := .request, frameId := s.lc.nextId }
      ∧ (s.makeRequest side).offered .zc (.zone side .request))
    ∧ ((s.zone side).state ≠ .heldOther ∨ (s.zone side).outstanding ≠ .no ∨ s.wants side = false → s.makeRequest side = s)
    ∧ (s.settle.ws.state.online = true → (s.settle.zone side).state = .heldOther → (s.settle.zone side).outstanding = .no →
        s.settle.wants side = false)
    ∧ ((s.zone side).state = .requested →
        (s.wants side = true → s.stepZone side = s)
        ∧ (s.wants side = false → ((s.stepZone side).zone side).state = if s.blocks side = true then .blocked else .heldOther)
        ∧ (s.wants side = false → ((s.stepZone side).zone side).releaseHeard = false))
    ∧ (∀ st, (s.zone side).state = .heldOther → (s.zone side).outstanding = .request → st ≠ .heldOther →
        (s.inFlight (s.zone side).frameId = false → ((s.zoneChange side st).zone side).outstanding = .no
          ∧ ((s.zone side).frameId < s.lc.nextId →
            ∀ f ∈ (s.zoneChange side st).lc.queue ++ (s.zoneChange side st).lc.held, f.id ≠ (s.zone side).frameId))
        ∧ (s.inFlight (s.zone side).frameId = true → ((s.zoneChange side st).zone side).outstanding = .request
          ∧ (s.zoneChange side st).lc = s.lc)))
  ∧ (∀ s : State, ∀ others : Nat,
    others = (([1, 2, 3, 4, 5, 6, 7, 8] : List Nat).map fun j => match s.drawEntry j with
      | some e => if j ≠ s.k then e.amount else 0
      | none => 0).sum →
    (s.du.own.state = .waiting → others + s.du.own.amount ≤ s.cfg.capacity → s.freshlyIntended s.removal)
    ∧ (s.du.own.state ≠ .waiting ∨ s.cfg.capacity < others + s.du.own.amount → s.removal = s))
  ∧ ∀ (j amount hole : Nat) (s : State), s.dispatches j → amount < 256 → hole ≤ 2047 →
    (amount ≠ 0 →
      exec (.drawIntentReceived (frameBytes j (.draw .intent amount hole))) s
        = .next ((s.heard (frameBytes j (.draw .intent amount hole))).setDraw j
            (some { amount, hole, stamp := s.lc.stamp + 1, time := s.clock })).settle)
    ∧ (amount = 0 →
        exec (.drawIntentReceived (frameBytes j (.draw .intent amount hole))) s
          = .next (s.heard (frameBytes j (.draw .intent amount hole))).settle)
    ∧ (∀ e, s.drawEntry j = some e →
        exec (.drawDoneReceived (frameBytes j (.draw .done amount hole))) s
          = .next ((s.heard (frameBytes j (.draw .done amount hole))).setDraw j none).removal.settle
        ∧ exec (.drawWithdrawReceived (frameBytes j (.draw .withdraw amount hole))) s
          = .next ((s.heard (frameBytes j (.draw .withdraw amount hole))).setDraw j none).removal.settle)
    ∧ (s.drawEntry j = none →
        exec (.drawDoneReceived (frameBytes j (.draw .done amount hole))) s
          = .next (s.heard (frameBytes j (.draw .done amount hole))).settle)
    ∧ (s.drawEntry j = none →
        exec (.drawWithdrawReceived (frameBytes j (.draw .withdraw amount hole))) s
          = .next (s.heard (frameBytes j (.draw .withdraw amount hole))).settle)

/-! ### Own transmission -/

/-- LC begins its candidate once the line has been quiet for the deferral or a later slot boundary, and not before; an attempt in
progress keeps the line busy and nothing changes. A failed attempt leaves the frame where it was, makes the line busy and counts, to
255 at most; the eighth failure in a row raises LINK FAULT. A CLAIM that had been withdrawn leaves the queue when its attempt has
failed, the eighth failure included. Between slot boundaries LC does not begin. The candidate: the queue's head where the station
state lets queued frames go, the due PRESENCE where there is none, and a promoted PRESENCE before any head but one of class 0; ZONE
and DRAW are of class 0, PRESENCE of class 2 or promoted of class 1, the others of class 1; a PRESENCE goes with the contents of the
moment. TRANSMIT_START reports the line's quiet time, and the line counts as busy from the own start bit until a frame's end is
heard (log entry 13, the model's choice). -/
def Obligations.AttemptsBeginAndFail : Prop :=
  (∀ (q : Nat) (s : State),
    (s.lc.attempt ≠ none → exec (.transmitStart q) s = .next s)
    ∧ (s.lc.attempt = none → s.candidate = none → exec (.transmitStart q) s = .next { s with lc.quiet := some q })
    ∧ (∀ c, s.lc.attempt = none → s.candidate = some c → q < s.deferral c →
        exec (.transmitStart q) s = .next { s with lc.quiet := some q })
    ∧ (∀ c, s.lc.attempt = none → s.candidate = some c → (q - 32) % 4 ≠ 0 →
        exec (.transmitStart q) s = .next { s with lc.quiet := some q })
    ∧ (∀ c, s.lc.attempt = none → s.candidate = some c → s.deferral c ≤ q → (q - 32) % 4 = 0 →
        ∃ t : State, exec (.transmitStart q) s = .next t
          ∧ t.lc.attempt = some { frame := s.candidateFrame c, bytes := frameBytes s.k (s.candidateFrame c).body }
          ∧ t.lc.recovery = false ∧ t.lc.quiet = none ∧ t.lc.queue = s.lc.queue ∧ t.lc.held = s.lc.held
          ∧ t.lc.failures = s.lc.failures
          ∧ t.lc.stamp = s.lc.stamp ∧ t.ws = s.ws ∧ t.ht = s.ht ∧ t.zc = s.zc ∧ t.du = s.du ∧ t.eu = s.eu)
    ∧ (∀ c, s.deferral c = 32 + 4 * (8 * s.candidateClass c + (s.k - 1) + 8 * (if s.lc.recovery then 1 else 0))))
  ∧ (∀ s : State,
    (s.ws.state = .unconfigured ∨ s.ws.state = .halted → s.candidate = none)
    ∧ (s.ws.state = .idle ∨ (s.ws.state.active = true ∧ s.lc.queue = []) →
        s.candidate = if s.lc.due = true then some .presence else none)
    ∧ (∀ f q, s.ws.state.active = true → s.lc.queue = f :: q →
        s.candidate = if s.lc.due = true ∧ s.lc.promoted = true ∧ s.candidateClass (.queued f) ≠ 0 then some .presence
          else some (.queued f))
    ∧ s.candidateClass .presence = (if s.lc.promoted = true then 1 else 2)
    ∧ (∀ (f : TxFrame) side a, f.body = .zone side a → s.candidateClass (.queued f) = 0)
    ∧ (∀ (f : TxFrame) a n h, f.body = .draw a n h → s.candidateClass (.queued f) = 0)
    ∧ (∀ f : TxFrame, (∀ p, f.body ≠ .presence p) → (∀ side a, f.body ≠ .zone side a) → (∀ a n h, f.body ≠ .draw a n h) →
        s.candidateClass (.queued f) = 1)
    ∧ (s.candidateFrame .presence).body = .presence s.presenceNow
    ∧ (∀ f, s.candidateFrame (.queued f) = f))
  ∧ ∀ (a : Attempt) (s : State), s.lc.attempt = some a →
    ((∀ x, s.ws.selection = some x → x.stage ≠ .claimWithdrawn) →
      (s.lc.failures ≠ 7 →
        exec .attemptFailed s
          = .next (State.settle { s with lc.attempt := none, lc.quiet := none, lc.failures := min 255 (s.lc.failures + 1) }))
      ∧ (s.lc.failures = 7 →
        exec .attemptFailed s
          = .next (State.raiseFault .linkFault .linkFault
              { s with lc.attempt := none, lc.quiet := none, lc.failures := 8 }).settle))
    ∧ (∀ x, s.ws.selection = some x → x.stage = .claimWithdrawn → s.lc.failures ≠ 7 → x.frameId < s.lc.nextId →
        ∃ u : State, exec .attemptFailed s = .next u.settle ∧ u.ws.selection = none ∧ u.lc.attempt = none
          ∧ u.lc.failures = min 255 (s.lc.failures + 1) ∧ ∀ f ∈ u.lc.queue ++ u.lc.held, f.id ≠ x.frameId)
    ∧ (∀ x, s.ws.selection = some x → x.stage = .claimWithdrawn → s.lc.failures = 7 → x.frameId < s.lc.nextId →
        ∃ u : State, exec .attemptFailed s = .next u.settle ∧ u.ws.selection = none ∧ u.lc.attempt = none ∧ u.lc.failures = 8
          ∧ (∀ f ∈ u.lc.queue ++ u.lc.held, f.id ≠ x.frameId)
          ∧ (∀ r, s.eu.sources[8]? = some r → u.eu.sources[8]?
              = some { pending := r.pending || decide (0 < s.levels.getD 8 0), count := min 255 (r.count + 1) })
          ∧ u.ws.state = (if s.ws.state = .idle ∨ s.ws.state = .waiting ∨ s.ws.state = .working ∨ s.ws.state = .finished
              then .faulted else s.ws.state))

/-- A frame read back whole takes the next stamp, leaves the queue, sets the recovery mark and clears the failure count, and its
owner acts, in every station state (log entry 29, DEDUCED); a command that names another kind of frame than the one in the attempt
reports nothing, and the line has then been quiet for 20 bit times (log entry 13, the model's choice). When a frame leaves a full
queue the held frame of lowest class, the one held longest among these, takes its place behind the frames of its class; HT's held
place becomes the CORRECTION of the lowest entry still owed, as the entry then stands. With room and nothing held HT queues the owed
CORRECTIONs in ascending hole number and none is owed any longer; without it HT holds one place while any is owed. -/
def Obligations.ReadBacksAccounted : Prop :=
  (∀ (a : Attempt) (s : State), s.lc.attempt = some a → a.frame.body ≠ .owed →
    exec (readBackRow a.frame.body) s = .next (State.ownerBack a.frame (s.readBackWhole a.frame)).settle
    ∧ (∀ b : Body, b ≠ .owed → readBackRow b ≠ readBackRow a.frame.body → exec (readBackRow b) s = .next s.settle)
    ∧ (s.readBackWhole a.frame).lc.attempt = none ∧ (s.readBackWhole a.frame).lc.recovery = true
    ∧ (s.readBackWhole a.frame).lc.quiet = some 20
    ∧ (s.readBackWhole a.frame).lc.failures = 0 ∧ (s.readBackWhole a.frame).lc.stamp = s.lc.stamp + 1
    ∧ (s.lc.held = [] → (s.readBackWhole a.frame).lc.queue = s.lc.queue.filter (fun g => g.id != a.frame.id))
    ∧ (s.ws.state = .faulted → (s.readBackWhole a.frame).eu.linkSuccess = true)
    ∧ (∀ q pre post f, q = s.lc.queue.filter (fun g => g.id != a.frame.id) → q.length = 15 → s.lc.held = pre ++ f :: post →
        f.body.accessClass = 0 ∧ (∀ g ∈ pre, g.body.accessClass ≠ 0) ∨ pre = [] ∧ (∀ g ∈ f :: post, g.body.accessClass ≠ 0) →
        (f.body ≠ .owed → ∃ x y, q = x ++ y ∧ (s.readBackWhole a.frame).lc.queue = x ++ f :: y
          ∧ (∀ g ∈ x, g.body.accessClass ≤ f.body.accessClass) ∧ (∀ g, y.head? = some g → f.body.accessClass < g.body.accessClass)
          ∧ (s.readBackWhole a.frame).lc.held = pre ++ post ∧ (s.readBackWhole a.frame).ht = s.ht)
        ∧ (∀ h e, f.body = .owed → s.ht[h]? = some e → e.owed = true → (∀ n x, n < h → s.ht[n]? = some x → x.owed = false) →
          (s.readBackWhole a.frame).offered .ht (.correction (e.correction h))
          ∧ (s.readBackWhole a.frame).lc.held = pre ++ post ∧ (s.readBackWhole a.frame).lc.queue.length = 16
          ∧ (s.readBackWhole a.frame).ht = s.ht.set h { e with owed := false })))
  ∧ ∀ (owed : List Nat) (s : State),
      owed = (List.range s.ht.length).filter (fun h => ((s.ht[h]?).map (·.owed)).getD false) →
      (owed = [] → (∀ f ∈ s.lc.held, f.body ≠ .owed) → s.offerOwed = s)
      ∧ (s.lc.held = [] → s.lc.queue.length + owed.length ≤ 16 → (∀ f ∈ s.lc.queue, f.body.accessClass ≤ 1) →
          s.offerOwed.lc.queue.map (fun f => (f.owner, f.body)) = s.lc.queue.map (fun f => (f.owner, f.body))
            ++ owed.map (fun h => (Owner.ht, Body.correction (((s.ht[h]?).getD {}).correction h)))
          ∧ s.offerOwed.lc.held = [] ∧ s.offerOwed.ht = s.ht.map (fun e => { e with owed := false }))
      ∧ (owed ≠ [] → 16 ≤ s.lc.queue.length ∨ s.lc.held ≠ [] → (∀ f ∈ s.lc.held, f.body ≠ .owed) →
          ∃ f, f.owner = .ht ∧ f.body = .owed ∧ s.offerOwed.lc.held = s.lc.held ++ [f] ∧ s.offerOwed.lc.queue = s.lc.queue
            ∧ s.offerOwed.ht = s.ht)
      ∧ (owed ≠ [] → (∃ f ∈ s.lc.held, f.body = .owed) → s.offerOwed = s)

/-- What the owners do when their frames have been read back. LC: its marks. WS: the current claim, closed by its RELEASE, its
REPORT or the closing CORRECTION of CS and by no other frame. PU: the datum record, and the prober CURRENT whatever its status was
(log entry 40, DEDUCED), and nothing for a DATUM made void while it was sent (log entry 28, DEDUCED). DU: the own intent and its
announcement, an INTENT no longer wanted answered by a WITHDRAW, one queued under another name since among them (log entry 49,
DEDUCED). ZC: a SEIZE holds a FREE or REQUESTED zone, a SEIZE or a REQUEST makes HELD-OTHER REQUESTED, a SEIZE leaves any other
state, a RELEASE ends the hold by YIELDING or FREE, after a dual hold by the state that the neighbour's last PRESENCE shows, and
HELD-OTHER and a hold become BLOCKED where the neighbour blocks. -/
def Obligations.OwnersActOnReadBack : Prop :=
  (∀ (f : TxFrame) (s : State),
    (∀ p, f.body = .presence p →
      s.ownerBack f = { s with lc.due := false, lc.promoted := false, zc.presenceBack := some s.clock })
    ∧ (∀ c, f.body = .release c → s.ws.claim = some c → s.ownerBack f = { s with ws.claim := none })
    ∧ (∀ r, f.body = .report r → s.ws.claim = some ⟨r.hole, r.phase⟩ → s.ownerBack f = { s with ws.claim := none })
    ∧ (∀ r c, f.body = .release r → s.ws.claim = some c → r ≠ c → s.ownerBack f = s)
    ∧ (∀ m, f.body = .correction m → f.owner ≠ .cs → s.ownerBack f = s)
    ∧ (∀ m c, f.body = .correction m → f.owner = .cs → s.ws.claim = some c →
        s.ownerBack f = if m.hole = c.hole then { s with ws.claim := none } else s)
    ∧ (∀ d r q w, f.body = .datum d r q w → f.void = false → s.cfg.role.datum = some d → s.pu.prober ≠ none →
        (s.ownerBack f).proberStatus = some .current
        ∧ (s.ownerBack f).pu.record d
          = { status := .valid, fix := some { r, q, source := s.k, time := s.clock, stamp := s.lc.stamp } })
    ∧ (∀ n h, f.body = .draw .intent n h → s.du.own.state = .queued → s.du.own.intentId = some f.id →
        1 ≤ s.k → s.k ≤ s.du.table.length →
        (s.ownerBack f).du.own.state = .settling ∧ (s.ownerBack f).du.own.announced = true
        ∧ (s.ownerBack f).du.own.ownStamp = s.lc.stamp
        ∧ (s.ownerBack f).du.own.settleDeadline = some (s.clock + s.cfg.settleInterval)
        ∧ (s.ownerBack f).drawEntry s.k = some { amount := n, hole := h, stamp := s.lc.stamp, time := s.clock })
    ∧ (∀ n h, f.body = .draw .intent n h → s.du.own.state ≠ .queued ∨ s.du.own.intentId ≠ some f.id →
        (s.ownerBack f).du.own.state = s.du.own.state ∧ (s.ownerBack f).du.own.announced = true
        ∧ (s.ownerBack f).du.table = s.du.table ∧ (s.ownerBack f).offered .du (.draw .withdraw 0 h))
    ∧ (∀ d r q w, f.body = .datum d r q w → f.void = true → s.ownerBack f = s)
    ∧ (∀ n h, f.body = .draw .withdraw n h ∨ f.body = .draw .done n h → f.mark = s.du.intentBacks →
        s.ownerBack f = { s with du.own.announced := false }))
  ∧ ∀ (f : TxFrame) (side : Side) (s : State), f.void = false →
    (f.body = .zone side .seize → (s.zone side).state = .free ∨ (s.zone side).state = .requested →
      ((s.ownerBack f).zone side).state = .heldOwn ∧ ((s.ownerBack f).zone side).ownStamp = some s.lc.stamp
      ∧ ((s.ownerBack f).zone side).pending = false ∧ ((s.ownerBack f).zone side).cycles = 0)
    ∧ (f.body = .zone side .seize → (s.zone side).state = .requested →
        (s.ownerBack f).eu.sources = s.eu.sources.modify 0 (SourceRecord.raised (s.levels.getD 0 0)))
    ∧ (f.body = .zone side .seize → (s.zone side).state = .heldOther →
        ((s.ownerBack f).zone side).state = if s.blocks side = true then .blocked else .requested)
    ∧ (f.body = .zone side .seize → (s.zone side).state = .noZone ∨ (s.zone side).state = .heldOwn
          ∨ (s.zone side).state = .blocked ∨ (s.zone side).state = .yielding →
        (s.ownerBack f).zone side = { (s.zone side) with
          outstanding := if (s.zone side).frameId = f.id then .no else (s.zone side).outstanding })
    ∧ (∀ i, f.body = .zone side .release → (s.zone side).state = .heldOwn → (s.zone side).progress = .sent →
        (s.zone side).dual = true → s.sideInfo side = some i →
        ((s.ownerBack f).zone side).dual = false ∧ ((s.ownerBack f).zone side).progress = .no
        ∧ ((s.ownerBack f).zone side).state =
            if s.planDiffers side then .blocked else if i.heldFor side then .heldOther
            else if s.neighbourInside side then .blocked else .free)
    ∧ (f.body = .zone side .request → (s.zone side).state = .heldOther →
        ((s.ownerBack f).zone side).state = if s.blocks side = true then .blocked else .requested)
    ∧ (f.body = .zone side .release → (s.zone side).state = .heldOwn → (s.zone side).progress = .sent →
        (s.zone side).dual = false → s.blocks side = true → ((s.ownerBack f).zone side).state = .blocked)
    ∧ (f.body = .zone side .release → (s.zone side).state ≠ .heldOwn ∨ (s.zone side).progress ≠ .sent → s.ownerBack f = s)
    ∧ (f.body = .zone side .release → (s.zone side).state = .heldOwn → (s.zone side).progress = .sent →
        (s.zone side).dual = false → s.planDiffers side = false → s.blocks side = false →
        ((s.zone side).pending = true →
          ((s.ownerBack f).zone side).state = .yielding
          ∧ ((s.ownerBack f).zone side).yieldDeadline = some (s.clock + s.cfg.yieldPeriod))
        ∧ ((s.zone side).pending = false → ((s.ownerBack f).zone side).state = .free))

/-- The own CLAIM read back: confirmed on the state its phase assumes, a cycle then counting against every pending request, to 16 at
most; lost to another's claim, stale on a later state and on PLANNED for a SET claim still wanted, released when it had been
withdrawn or when no selection stands behind it. -/
def Obligations.ClaimReadBackJudged : Prop :=
  (∀ (f : TxFrame) (c : Claim) (e : HoleEntry) (x : Selection) (s : State), f.body = .claim c → s.ht[c.hole]? = some e →
    s.ws.selection = some x → x.frameId = f.id →
    (x.stage = .claimQueued → e.state = c.phase.assumed →
      (s.ownerBack f).ht[c.hole]?
          = some { e with state := if c.phase = .drill then .drillClaimed else .setClaimed, claimant := some s.k }
      ∧ (s.ownerBack f).ws.claim = some c
      ∧ (s.ownerBack f).ws.selection = some { x with stage := .inCycle, claimStamp := some s.lc.stamp }
      ∧ (s.ownerBack f).cs.cycle = some (newCycle (.hole c) x.rail x.cross x.zone .claiming)
      ∧ ∀ side, ((s.ownerBack f).zone side).cycles
          = if (s.zone side).pending = true then min 16 ((s.zone side).cycles + 1) else (s.zone side).cycles)
    ∧ (x.stage = .claimQueued ∨ x.stage = .claimWithdrawn → e.state.claimed = true → e.claimedBy s.k = false →
        s.ownerBack f = { s with ws.selection := none })
    ∧ (x.stage = .claimQueued ∨ x.stage = .claimWithdrawn → e.state.claimed = false → c.phase.assumed.code < e.state.code →
        s.ownerBack f = { s with ws.selection := none })
    ∧ (x.stage = .claimWithdrawn → e.state = c.phase.assumed →
        s.ownerBack f = State.offer .ws (.release c) { s with ws.selection := none })
    ∧ (x.stage = .claimQueued → e.state.claimed = false ∨ e.claimedBy s.k = true → e.state.code < c.phase.assumed.code →
        s.ownerBack f = { s with ws.selection := none })
    ∧ (x.stage = .claimWithdrawn → e.state.claimed = false ∨ e.claimedBy s.k = true → e.state.code < c.phase.assumed.code →
        s.ownerBack f = State.offer .ws (.release c) { s with ws.selection := none }))
  ∧ ∀ (f : TxFrame) (c : Claim) (e : HoleEntry) (s : State), f.body = .claim c → s.ht[c.hole]? = some e →
    (∀ x, s.ws.selection = some x → x.frameId ≠ f.id ∨ x.stage = .seizeWait ∨ x.stage = .inCycle) →
    (e.state.claimed = true ∧ e.claimedBy s.k = false ∨ c.phase.assumed.code < e.state.code → s.ownerBack f = s)
    ∧ (e.state.claimed = false ∨ e.claimedBy s.k = true → e.state.code ≤ c.phase.assumed.code →
        s.ownerBack f = s.offer .ws (.release c))

/-! ### Timers -/

/-- The timers of the presence interval, the datums, the prober and the peers: what each does, and that it does so no earlier than
its time. An expired datum raises DATUM EXPIRED and a lost peer NEIGHBOUR LOST. A neighbour that falls silent gives up a zone it
held: FREE when its last interval keeps the minimum gap from the zone, BLOCKED otherwise; it and a lost one block any other zone
as they stand in it. The PRESENCE's contents are taken from their owners. Every step keeps a peer entry and a draw entry for each
of the eight stations and every zone's bounds in order, and reset has them so. A timer's command brings the clock to its due time
(log entry 10, the model's choice). -/
def Obligations.LinkAndPeerTimers : Prop :=
  State.reset.tablesWhole ∧ ∀ s : State,
    (∀ t, s.tablesWhole → Sys2Proof.Machine.step s = .next t → t.tablesWhole)
    ∧ (∀ t, s.ws.state.online = true → s.lc.timer = some t →
      exec .presenceIntervalExpiry s
        = .next (State.settle
            { s with clock := max s.clock t, lc.slot := some s.presenceNow, lc.promoted := s.lc.promoted || s.lc.due,
                     lc.due := true, lc.timer := some (max s.clock t + s.cfg.presenceInterval) }))
    ∧ (∀ d f, s.pu.record d = ⟨.valid, some f⟩ →
        ∃ u : State, exec (.datumExpiry d) s = .next u.settle ∧ u.pu.record d = ⟨.expired, some f⟩
          ∧ u.pu.correction = none ∧ u.pu.concern = none ∧ s.cfg.datumLife < u.clock - f.time
          ∧ (∀ x, s.eu.sources[5]? = some x → u.eu.sources[5]?
              = some { pending := x.pending || decide (0 < s.levels.getD 5 0), count := min 255 (x.count + 1) })
          ∧ (s.cfg.role.datum = some d → s.proberStatus = some .current → u.proberStatus = some .due))
    ∧ (∀ f, s.proberStatus = some .current → s.ownRecord = some ⟨.valid, some f⟩ →
        ∃ u : State, exec .proberAgeDue s = .next u.settle ∧ u.proberStatus = some .due
          ∧ 3 * s.cfg.datumLife ≤ 4 * (u.clock - f.time) ∧ u.pu.datumA = s.pu.datumA ∧ u.pu.datumB = s.pu.datumB)
    ∧ (∀ t m, s.pu.prober = some ⟨.retryWait, some t, m⟩ →
        ∃ u : State, exec .retryDeadline s = .next u.settle ∧ t ≤ u.clock
          ∧ (u.proberStatus = some .due ∨ u.proberStatus = some .current)
          ∧ (u.proberStatus = some .current ↔
              ∃ f, u.ownRecord = some ⟨.valid, some f⟩ ∧ 4 * (u.clock - f.time) < 3 * s.cfg.datumLife))
    ∧ (∀ j i, s.ws.state.online = true → s.otherStation j = true → j ≤ s.pt.peers.length → s.peer j = ⟨.heard, some i⟩ →
        ∃ u : State, exec (.peerSilent j) s = .next u.settle ∧ u.peer j = ⟨.silent, some i⟩
          ∧ s.cfg.holdPeriod ≤ u.clock - i.time
          ∧ (∀ side b, s.cfg.sideOf j = some side → (s.zone side).bounds = some b → b.1 ≤ b.2 →
              (s.zone side).state = .heldOther ∨ (s.zone side).state = .requested →
              ((u.zone side).state = if (s.cfg.gap = 0 ∨ max i.position i.target + s.cfg.gap ≤ b.1
                  ∨ b.2 + s.cfg.gap ≤ min i.position i.target) ∧ s.blocks side = false then .free else .blocked)
              ∧ (u.zone side).releaseHeard = false
              ∧ (s.inFlight (s.zone side).frameId = false → (u.zone side).outstanding = .no))
          ∧ (∀ side, s.cfg.sideOf j = some side → (s.zone side).state ≠ .heldOther → (s.zone side).state ≠ .requested →
              (u.zone side).state = if ((s.zone side).state = .free ∨ (s.zone side).state = .yielding) ∧ s.blocks side = true
                then .blocked else (s.zone side).state))
    ∧ (∀ j i, s.ws.state.online = true → s.otherStation j = true → j ≤ s.pt.peers.length → j ≤ s.du.table.length →
        s.peer j = ⟨.silent, some i⟩ ∨ s.peer j = ⟨.heard, some i⟩ →
        ∃ u : State, exec (.peerLost j) s = .next u.settle ∧ u.peer j = ⟨.lost, some i⟩
          ∧ s.cfg.lossPeriod ≤ u.clock - i.time ∧ u.drawEntry j = none
          ∧ (∀ e ∈ u.ht, e.claimedBy j = false)
          ∧ (∀ x, s.eu.sources[2]? = some x → u.eu.sources[2]?
              = some { pending := x.pending || decide (0 < s.levels.getD 2 0), count := min 255 (x.count + 1) })
          ∧ (∀ side, s.cfg.sideOf j = some side → s.peer j = ⟨.silent, some i⟩ →
              (u.zone side).state = if (s.zone side).state ≠ .noZone ∧ (s.zone side).state ≠ .heldOwn ∧ s.blocks side = true
                then .blocked else (s.zone side).state))
    ∧ s.presenceNow.state = s.ws.state ∧ s.presenceNow.position = s.own ∧ s.presenceNow.low = s.cfg.low
    ∧ s.presenceNow.high = s.cfg.high ∧ s.presenceNow.claim = s.ws.claim ∧ s.presenceNow.check = s.planCheck
    ∧ s.presenceNow.datumA = s.pu.datumA.status ∧ s.presenceNow.datumB = s.pu.datumB.status
    ∧ (s.presenceNow.heldLeft = true ↔ s.zc.left.state = .heldOwn) ∧ (s.presenceNow.heldRight = true ↔ s.zc.right.state = .heldOwn)
    ∧ (s.presenceNow.requestedLeft = true ↔ s.zc.left.state = .requested)
    ∧ (s.presenceNow.requestedRight = true ↔ s.zc.right.state = .requested)
    ∧ (∀ cy t, s.cs.cycle = some cy → cy.task = .placed (.travel t) → s.presenceNow.target = t)
    ∧ (∀ l, s.cs.lone = some l → l.placed = true → s.cs.cycle = none → s.presenceNow.target = l.target)
    ∧ ((∀ cy t, s.cs.cycle = some cy → cy.task ≠ .placed (.travel t)) → (∀ l, s.cs.lone = some l → l.placed = false) →
        s.presenceNow.target = s.own)

/-- The timers of zones, draws and the cycle's waits: what each does, and that it does so no earlier than its time. A self-lapse
raises ZONE LAPSED and gives the zone the state that the neighbour's last PRESENCE shows. The sum counted against the own intent
is that of the other entries stamped earlier. A decision without room offers a DRAW WITHDRAW, and so does a supply wait that fails
for the first or second time in a row; the wait deadline brings a fresh INTENT of the same amount and hole, in the place of a
WITHDRAW that has not begun, else as a new frame behind the frames of class 0 (ZoneAndDrawFramesHeard says the same of a removal).
A WITHDRAW queued again after a failed attempt counts as not begun (log entry 73, DEDUCED). A timer's command brings the clock to
its due time (log entry 10, the model's choice), and the two waiting intervals are watched while a cycle is in flight to use them
(log entry 12, DEDUCED). -/
def Obligations.ZoneAndDrawTimers : Prop :=
  ∀ s : State,
    (∀ side, (s.zone side).state = .heldOwn →
      ∃ u : State, exec (.selfLapse side) s = .next u.settle ∧ (u.zone side).state ≠ .heldOwn
        ∧ (u.zone side).ownStamp = (s.zone side).ownStamp
        ∧ (u.zone side).pending = false ∧ (u.zone side).cycles = 0 ∧ (u.zone side).laterSeize = false
        ∧ (u.zone side).dual = false ∧ (u.zone side).progress = .no
        ∧ ((s.zone side).outstanding = .no → u.lc = s.lc)
        ∧ (∀ i, s.sideInfo side = some i → (u.zone side).state =
            if s.planDiffers side then .blocked else if i.heldFor side then .heldOther
            else if s.neighbourInside side then .blocked else .free)
        ∧ (∀ x, s.eu.sources[1]? = some x → u.eu.sources[1]?
            = some { pending := x.pending || decide (0 < s.levels.getD 1 0), count := min 255 (x.count + 1) })
        ∧ s.cfg.holdPeriod - s.cfg.lapseMargin < u.clock - s.presenceTime)
    ∧ (∀ t, s.zc.presenceBack = some t → s.presenceTime = t)
    ∧ (s.zc.presenceBack = none → s.presenceTime = max (s.zc.idleEntry.getD 0) (s.zc.clearTime.getD 0))
    ∧ (∀ side t, (s.zone side).state = .yielding → (s.zone side).yieldDeadline = some t →
        ∃ u : State, exec (.yieldDeadline side) s = .next u.settle ∧ u.clock = max s.clock t
          ∧ (u.zone side).state = if s.blocks side = true then .blocked else .free)
    ∧ (∀ j e, s.ws.state ≠ .halted → s.otherStation j = true → s.drawEntry j = some e →
        exec (.drawEntryExpiry j) s
          = .next (State.removal (State.setDraw j none { s with clock := max s.clock (e.time + s.cfg.drawLife) })).settle)
    ∧ (∀ t, s.du.own.state = .settling → s.du.own.settleDeadline = some t →
        ∃ u : State, exec .settleDeadline s = .next u.settle ∧ u.clock = max s.clock t
          ∧ (s.earlierSum + s.du.own.amount ≤ s.cfg.capacity →
              u.du.own.state = .supplyCheck ∧ u.du.own.pollAsked = true ∧ u.du.own.supplyStart = some u.clock
              ∧ u.du.table = s.du.table ∧ u.lc = s.lc)
          ∧ (s.cfg.capacity < s.earlierSum + s.du.own.amount →
              u.du.own.state = .waiting ∧ u.du.own.waitDeadline = some (u.clock + s.cfg.drawLife)
              ∧ u.drawEntry s.k = none ∧ u.du.own.withdrawId = some s.lc.nextId
              ∧ ∃ f ∈ u.lc.queue ++ u.lc.held, f.id = s.lc.nextId ∧ f.owner = .du ∧ f.body = .draw .withdraw 0 s.du.own.hole))
    ∧ s.earlierSum = (([1, 2, 3, 4, 5, 6, 7, 8] : List Nat).map fun j => match s.drawEntry j with
        | some e => if j ≠ s.k ∧ 0 < (s.du.own.ownStamp - e.stamp).toNat ∧ (s.du.own.ownStamp - e.stamp).toNat < 2147483648
            then e.amount else 0
        | none => 0).sum
    ∧ (∀ t, s.du.own.state = .waiting → s.du.own.waitDeadline = some t →
        ∃ u : State, exec .waitDeadline s = .next u.settle ∧ u.clock = max s.clock t ∧ u.du.own.state = .queued
          ∧ State.freshlyIntended { s with clock := max s.clock t } u)
    ∧ (∀ t, s.du.own.state = .supplyCheck → s.du.own.pollAsked = false → s.readingPressure = false →
        s.du.own.nextPoll = some t →
        exec .nextPoll s
          = .next (State.settle { s with clock := max s.clock t, du.own.pollAsked := true,
                                         du.own.nextPoll := some (max s.clock t + 50) }))
    ∧ (∀ t, s.du.own.state = .supplyCheck → s.du.own.lastBelow = true → s.readingPressure = false →
        s.du.own.supplyStart = some t →
        ∃ u : State, exec .pressureWaitLimit s = .next u.settle ∧ u.du.supplyWaits = s.du.supplyWaits + 1
          ∧ (s.du.supplyWaits < 2 → u.du.own.state = .waiting ∧ u.ws = s.ws ∧ u.offered .du (.draw .withdraw 0 s.du.own.hole))
          ∧ (2 ≤ s.du.supplyWaits → s.ws.state = .working → u.ws.state = .faulted))
    ∧ (s.du.own.state = .supplyCheck ∨ s.du.own.state = .allowed →
        ∃ u : State, exec .ownIntentRenewal s = .next u.settle ∧ u.du.own.state = .queued
          ∧ u.clock = max s.clock (s.du.own.readBack + s.cfg.drawLife) ∧ u.du.own.amount = s.du.own.amount)
    ∧ (∀ t, s.cs.cycle ≠ none → s.cs.lastClamp = some t →
        exec .clampSettleExpiry s = .next (State.settle { s with clock := max s.clock (t + s.cfg.clampSettle) }))
    ∧ (∀ t, s.cs.cycle ≠ none → s.cs.lastSqueeze = some t →
        exec .ramRecoveryExpiry s = .next (State.settle { s with clock := max s.clock (t + s.cfg.ramRecovery) }))

/-! ### The effector port -/

/-- RESUME's rise lowers COMMAND FLAG; its fall sends the next word of the command in transfer, or the command is taken: one of its
own opens its stream with its deadline, STOP MOTION marks the motion stream it finds and brings its deadline forward, FEED STOP
marks the DRILL stream it finds, and each acts on no other. A HALT that waits is placed when RESUME falls or the response timeout
passes, and a late RESUME to HALT only lowers COMMAND FLAG. EFFECTOR READY's fall with a stream open, a late RESUME and a passed
completion deadline fail what is under way with their kinds; REPORT FLAG's fall lowers TAKEN. A command that is about to be placed
while EFFECTOR READY is inactive is not placed, and fails with NOT READY: a cycle's, a lone motion's or an interjection (R110). The
station is then FAULTED, with that kind in its cause, and the cycle's ending that follows stands in the stage the command would have
begun (log entry 36, DEDUCED), or for a SQUEEZE in BUDGETING (log entry 35, DEDUCED). EFFECTOR READY's fall with no stream open
changes only the level, a command in transfer included (log entry 54, DEDUCED). EFFECTOR READY's level is held as the time its fall
lasts (log entry 4), and a timer's command brings the clock to its due time (log entry 10): both the model's choice. -/
def Obligations.PortHandshake : Prop :=
  (∀ s : State,
    (s.ep.handshake = .awaitingResume →
      exec .resumeRise s
        = .next (State.settle { s with lines.resume := true, ep.commandFlag := false, ep.flagFell := s.clock,
                                       ep.handshake := .awaitingRelease,
                                       ep.lastResume := s.clock,
                                       ep.responseDeadline := some (s.clock + s.cfg.responseTimeout) }))
    ∧ (s.ep.handshake ≠ .awaitingResume → exec .resumeRise s = .next (State.settle { s with lines.resume := true }))
    ∧ (∀ t w ws, s.ep.haltWaiting = false → s.ep.handshake = .awaitingRelease → s.ep.transfer = some t → t.rest = w :: ws →
        exec .resumeFall s
          = .next (State.settle { s with lines.resume := false, ep.transfer := some { t with rest := ws },
                                         ep.commandLines := w, ep.commandFlag := true, ep.handshake := .awaitingResume,
                                         ep.responseDeadline := some (s.clock + s.cfg.responseTimeout) }))
    ∧ (∀ t, s.ep.haltWaiting = false → s.ep.handshake = .awaitingRelease → s.ep.transfer = some t → t.rest = [] →
        t.command.interjection = false → t.command ≠ .halt →
        ∃ u : State, exec .resumeFall s = .next u.settle ∧ u.lines.resume = false ∧ u.ep.transfer = none
          ∧ u.ep.handshake = .ready ∧ u.ep.stream = some { command := t.command, user := t.user }
          ∧ u.ep.deadline = some (s.ep.lastResume + s.cfg.completion t.command) ∧ u.ep.stopped = .no
          ∧ u.cs = s.cs ∧ u.ht = s.ht ∧ u.lc = s.lc)
    ∧ (s.ep.haltWaiting = false → s.ep.handshake ≠ .awaitingRelease →
        exec .resumeFall s = .next (State.settle { s with lines.resume := false }))
    ∧ (∀ t o, s.ep.haltWaiting = false → s.ep.handshake = .awaitingRelease → s.ep.transfer = some t → t.rest = [] →
        t.command = .stopMotion ∨ t.command = .feedStop → s.ep.stream = some o →
        exec .resumeFall s = .next (State.settle
          { s with lines.resume := false, ep.transfer := none, ep.handshake := .ready, ep.responseDeadline := none,
                   ep.stopped := (if t.command = .stopMotion ∧ o.command.motion = true then .stopMotion
                     else if t.command = .feedStop ∧ o.command.isDrill = true then .feedStop else s.ep.stopped),
                   ep.deadline := (if t.command = .stopMotion ∧ o.command.motion = true then
                     s.ep.deadline.map (fun d => min d (s.ep.lastResume + s.cfg.otherTimeout)) else s.ep.deadline) }))
    ∧ (∀ t, s.ep.haltWaiting = false → s.ep.handshake = .awaitingRelease → s.ep.transfer = some t → t.rest = [] →
        t.command = .stopMotion ∨ t.command = .feedStop ∨ t.command = .halt → s.ep.stream = none →
        exec .resumeFall s = .next (State.settle
          { s with lines.resume := false, ep.transfer := none, ep.handshake := .ready, ep.responseDeadline := none }))
    ∧ (s.ep.haltWaiting = true →
        ∃ u : State, exec .resumeFall s = .next u.settle
          ∧ u.ep.transfer = some { command := .halt, user := .port, rest := [] } ∧ u.ep.commandFlag = true
          ∧ u.ep.haltedMark = true ∧ u.ep.haltWaiting = false ∧ u.ws = s.ws ∧ u.eu = s.eu)
    ∧ (∀ d, s.ep.responseDeadline = some d → s.ep.haltWaiting = true →
        ∃ u : State, exec .responseTimeout s = .next u.settle
          ∧ u.ep.transfer = some { command := .halt, user := .port, rest := [] } ∧ u.ep.commandFlag = true
          ∧ u.ep.haltedMark = true ∧ u.ws = s.ws ∧ u.eu = s.eu)
    ∧ (∀ d, s.ep.responseDeadline = some d → s.ep.haltWaiting = false → s.ep.haltedMark = true →
        ∃ u : State, exec .responseTimeout s = .next u.settle ∧ u.ep.transfer = none ∧ u.ep.commandFlag = false
          ∧ u.ep.responseDeadline = none ∧ u.ep.haltedMark = true ∧ u.ws = s.ws ∧ u.eu = s.eu ∧ u.cs = s.cs))
  ∧ ∀ s : State,
    (∀ w, s.ep.stream = none →
      exec (.effectorReadyFall w) s = .next (State.settle { s with lines.readyLowUntil := s.clock + w }))
    ∧ (∀ w, s.ep.stream ≠ none →
        exec (.effectorReadyFall w) s
          = .next (State.portFails .notReady none { s with lines.readyLowUntil := s.clock + w }).settle)
    ∧ (∀ d, s.ep.responseDeadline = some d → s.ep.haltWaiting = false → s.ep.haltedMark = false →
        exec .responseTimeout s = .next (State.portFails .noResume none { s with clock := max s.clock d }).settle)
    ∧ (∀ d, s.ep.stream ≠ none → s.ep.deadline = some d →
        exec .completionDeadline s = .next (State.portFails .timeout none { s with clock := max s.clock d }).settle)
    ∧ exec .reportFlagFall s = .next { s with lines.reportFlag := false, lines.mark := false, ep.taken := false }
    ∧ (s.effectorReady = false ↔ s.clock < s.lines.readyLowUntil)
    ∧ (∀ c x, s.effectorReady = false → s.placeCommand c x = s.portFails .notReady (some c))
    ∧ (∀ u : State, s.effectorReady = false → s.throughEnding = false → s.faultStopping = false →
        s.ws.state = .idle ∨ s.ws.state = .waiting ∨ s.ws.state = .working ∨ s.ws.state = .finished →
        (∃ cy c, u = s.stepCycle ∧ s.cs.cycle = some cy ∧ cy.winding = false ∧ cy.task = .toPlace c false ∧ s.canPlace c = true
            ∧ (c = .sense ∨ c = .clamp ∨ c = .unclamp ∨ c = .retract ∨ c = .gauge
              ∨ (∃ q, c = .slide q ∧ q ≤ s.cfg.crossLimit)
              ∨ (∃ p, c = .travel p ∧ s.cfg.low ≤ p ∧ p ≤ s.cfg.high ∧ s.zoneStands (s.cycleZone p) = true ∧ s.permitted p = true)
              ∨ (∃ n w h, c = .drill n ∧ (∀ x, s.cs.lastClamp = some x → x + s.cfg.clampSettle ≤ s.clock) ∧ cy.work = .hole w
                  ∧ lookupKey w.hole s.ps.holes = some h)))
        ∨ (∃ cy w n g, u = s.stepCycle ∧ s.cs.cycle = some cy ∧ cy.winding = false ∧ cy.stage = .budgeting ∧ cy.task = .idle
            ∧ cy.work = .hole w ∧ cy.grip = some (n, g) ∧ s.du.own.pollAsked = false ∧ s.du.own.state = .allowed
            ∧ s.canPlace (.squeeze g.rivet g.pressure) = true ∧ s.setOrder w.hole = true
            ∧ (∀ x, s.cs.lastClamp = some x → x + s.cfg.clampSettle ≤ s.clock)
            ∧ ∀ x, s.cs.lastSqueeze = some x → x + s.cfg.ramRecovery ≤ s.clock)
        ∨ (u = s.stepPark ∧ s.ws.park = .waitingForClearance ∧ s.cs.cycle = none ∧ s.cs.lone = none ∧ s.claimQueued = false
            ∧ s.ws.state ≠ .idle ∧ s.canPlace (.travel s.cfg.park) = true ∧ s.cfg.low ≤ s.cfg.park ∧ s.cfg.park ≤ s.cfg.high
            ∧ s.zoneStands (s.zoneAt s.cfg.park) = true ∧ s.permitted s.cfg.park = true)
        ∨ (∃ l side, u = s.stepLone ∧ s.cs.lone = some l ∧ l.owner = .retreat side ∧ l.ending = none ∧ l.placed = false
            ∧ (s.zone side).progress = .retreating ∧ s.cs.cycle = none ∧ s.claimQueued = false
            ∧ s.canPlace (.travel l.target) = true ∧ s.cfg.low ≤ l.target ∧ l.target ≤ s.cfg.high
            ∧ s.zoneStands (s.zoneAt l.target) = true ∧ s.permitted l.target = true)
        ∨ (∃ c, u = s.placeInterject ∧ s.cs.interject = some c ∧ s.canPlace c = true ∧ s.ep.stopped = .no
            ∧ (c = .stopMotion ∧ s.motionStream = true ∨ c = .feedStop ∧ s.drillStream = true)) →
        u.ep.transfer = none ∧ u.ep.stream = none ∧ u.ep.commandFlag = false ∧ u.ep.commandLines = s.ep.commandLines
        ∧ u.ep.discard = true ∧ u.ws.state = .faulted ∧ u.cs.lone.all (fun l => l.ending.isSome) = true
        ∧ (s.cs.cycle = none → u.cs.cycle = none)
        ∧ (∀ cy, s.cs.cycle = some cy → ∃ cy' e, u.cs.cycle = some cy' ∧ cy'.ending = some e ∧ e.through = true
            ∧ (cy.ending = none → e.cause = .fault))
        ∧ u.eu.cause = some { source := .effectorFault .notReady, stateLeft := s.ws.state, time := s.clock, cleared := false }
        ∧ ∀ x, s.eu.sources[10]? = some x → u.eu.sources[10]?
          = some { pending := x.pending || decide (0 < s.levels.getD 10 0), count := min 255 (x.count + 1) })
    ∧ (∀ (cy cy' : Cycle) (c : Command) (e : Ending), s.effectorReady = false → s.cs.cycle = some cy → cy.ending = none →
        s.stepCycle.cs.cycle = some cy' → cy'.ending = some e →
        s.ws.state = .waiting ∨ s.ws.state = .working ∨ s.ws.state = .finished →
        (cy.task = .toPlace c false → s.canPlace c = true →
          (∀ p, c = .travel p → cy.stage ≠ .retracting → s.cfg.low ≤ p → p ≤ s.cfg.high → s.zoneStands (s.cycleZone p) = true → s.permitted p = true →
            e.stage = if cy.stage = .claiming then .moving else cy.stage)
          ∧ (∀ n, c = .drill n → e.stage = .cutting))
        ∧ (cy.stage = .budgeting → cy.task = .idle → e.stage = .budgeting))

/-- The rows that bring a report word, each with its tag and data. -/
def Sys2Proof.Machine.wordRows (w : Word) (d : Data) (m : Bool) : List (Instr × Nat × Data) :=
  [(.reportWord w m, wordTag w, wordData w), (.doneReport d m, 1, d), (.positionReport d m, 2, d),
   (.thrustReport d m, 3, d), (.senseReport d m, 4, d), (.gaugeReport d m, 5, d), (.squeezeReport d m, 6, d),
   (.pressureReport d m, 7, d), (.faultReport d m, 14, d), (.refusedReport d m, 15, d)]

/-- Every report word is answered with TAKEN; then it is ignored, fails what is open, or is taken into its stream, as R113 and R190
judge it. With no stream open words are ignored in UNCONFIGURED, in HALTED, and in IDLE with no ending under way. Which words a
stream accepts, by tag, place in the report and MARK, row by row, and no others: POSITION words and DONE in TRAVEL; DONE in SLIDE,
CLAMP, UNCLAMP and RETRACT; the three SENSE words; GAUGE; THRUST with and without MARK in DRILL; the two SQUEEZE words; PRESSURE;
and DONE in a stopped SENSE or GAUGE. A FAULT or REFUSED word with no stream open fails as UNSOLICITED like any other (log entry 39,
DEDUCED). -/
def Obligations.ReportWordsJudged : Prop :=
  (∀ (c : Command) (part : List Data) (stopped : Bool) (tag : Nat) (d : Data) (mark : Bool) (a : Accepted),
    acceptWord c part stopped tag d mark = some a ↔
      (∃ t, c = .travel t ∧ part = [] ∧ tag = 1 ∧ mark = true ∧ a = .done)
      ∨ (∃ t, c = .travel t ∧ part = [] ∧ tag = 2 ∧ mark = false ∧ d.toNat ≤ 127 ∧ a = .part)
      ∨ (∃ t p, c = .travel t ∧ part = [p] ∧ tag = 2 ∧ mark = false ∧ a = .position (4096 * p.toNat + d.toNat))
      ∨ (((∃ q, c = .slide q) ∨ c = .clamp ∨ c = .unclamp ∨ c = .retract) ∧ tag = 1 ∧ mark = true ∧ a = .done)
      ∨ (c = .sense ∧ part = [] ∧ tag = 4 ∧ mark = false ∧ d.toNat ≤ 3 ∧ a = .part)
      ∨ (∃ k, c = .sense ∧ part = [k] ∧ tag = 4 ∧ mark = false ∧ a = .part)
      ∨ (∃ k x kind, c = .sense ∧ part = [k, x] ∧ tag = 4 ∧ mark = true
          ∧ (k.toNat, kind) ∈ [(0, SenseKind.noHole), (1, .openHole), (2, .headPresent), (3, .obstructed)]
          ∧ a = .sense kind x.toInt d.toInt)
      ∨ (c = .sense ∧ part = [] ∧ tag = 1 ∧ mark = true ∧ stopped = true ∧ a = .done)
      ∨ (c = .gauge ∧ tag = 5 ∧ mark = true ∧ a = .gauge d.toNat)
      ∨ (c = .gauge ∧ tag = 1 ∧ mark = true ∧ stopped = true ∧ a = .done)
      ∨ (∃ n, c = .drill n ∧ tag = 3 ∧ mark = false ∧ a = .sample d.toNat)
      ∨ (∃ n, c = .drill n ∧ tag = 3 ∧ mark = true ∧ a = .trailing)
      ∨ (∃ r p, c = .squeeze r p ∧ part = [] ∧ tag = 6 ∧ mark = false ∧ a = .part)
      ∨ (∃ r p x, c = .squeeze r p ∧ part = [x] ∧ tag = 6 ∧ mark = true ∧ a = .squeeze x.toNat d.toNat)
      ∨ (c = .readPressure ∧ tag = 7 ∧ mark = true ∧ a = .pressure d.toNat))
  ∧ (∀ s : State, s.ignoresWords = true ↔ s.ws.state = .unconfigured ∨ s.ws.state = .halted
      ∨ (s.ws.state = .idle ∧ ∀ cy, s.cs.cycle = some cy → cy.ending = none))
  ∧ ∀ (w : Word) (d : Data) (m : Bool) (s : State), ∀ x ∈ wordRows w d m,
    (s.ep.discard = true ∨ (s.ep.stream = none ∧ s.ignoresWords = true) →
      exec x.1 s = .next (State.settle { s with lines.reportFlag := true, lines.mark := m, ep.taken := true }))
    ∧ (s.ep.discard = false → s.ep.stream = none → s.ignoresWords = false →
        exec x.1 s = .next
          (State.portFails .unsolicited none { s with lines.reportFlag := true, lines.mark := m, ep.taken := true }).settle)
    ∧ (∀ o, s.ep.discard = false → s.ep.stream = some o → x.2.1 = 14 →
        exec x.1 s = .next (State.portFails (.fault x.2.2.toNat) none
          { s with lines.reportFlag := true, lines.mark := m, ep.taken := true }).settle)
    ∧ (∀ o, s.ep.discard = false → s.ep.stream = some o → x.2.1 = 15 →
        exec x.1 s = .next (State.portFails .refused none
          { s with lines.reportFlag := true, lines.mark := m, ep.taken := true }).settle)
    ∧ (∀ o, s.ep.discard = false → s.ep.stream = some o → x.2.1 ≠ 14 → x.2.1 ≠ 15 →
        acceptWord o.command s.ep.partialReport s.motionStopped x.2.1 x.2.2 m = none →
        exec x.1 s = .next (State.portFails .unsolicited none
          { s with lines.reportFlag := true, lines.mark := m, ep.taken := true }).settle)
    ∧ (∀ o a, s.ep.discard = false → s.ep.stream = some o → x.2.1 ≠ 14 → x.2.1 ≠ 15 →
        acceptWord o.command s.ep.partialReport s.motionStopped x.2.1 x.2.2 m = some a →
        exec x.1 s = .next (State.acceptReport o x.2.2 a
          { s with lines.reportFlag := true, lines.mark := m, ep.taken := true }).settle)

/-- What accepted POSITION, DONE, GAUGE, SQUEEZE and PRESSURE reports do. A POSITION is the own position, and the stream's last. At
it the station halts when an existing adjacent neighbour is nearer than the hard gap or out of order, in WAITING, WORKING, FINISHED
and FAULTED (R67), and else when the position lies beyond the travel limits by more than the position tolerance, in every state with
a stream open (R114; this order, and one CLEARANCE HALT where both fail, are log entry 38, DEDUCED); a TRAVEL in progress whose
remaining path from there comes nearer than the minimum gap to an existing adjacent neighbour's interval is to be stopped, once, a
cycle's and a lone motion's alike (R66); and otherwise nothing else changes. DONE: a TRAVEL stands at its target, or where it was
stopped and waits to be issued afresh; a SLIDE leads to SENSE; a CLAMP to DRILL, or to BUDGETING and the draw; a RETRACT to UNCLAMP
or REPORTING; an UNCLAMP to REPORTING. A GAUGE is written to the entry and checked against the plan: REJECTED for STACK beyond the
tolerance, REJECTED for GRIP when no class serves it, else CLAMPING with its class. A SQUEEZE is judged against its class; its close
ends a SQUEEZING own intent with a DONE and the supply wait count at 0, and finds no other (log entry 69, DEDUCED); one that fails
is rejected without figures, ends the own intent with a DONE too, and leaves the count. A TRAVEL stopped for clearance waits for PT
before ZC is asked again (log entry 62). A PRESSURE allows the draw at the floor, below it waits for the next poll, and past the
pressure wait limit fails the wait, the third time with FAULTED; out of SUPPLY CHECK it is not judged. -/
def Obligations.AcceptedReportsAct : Prop :=
  ∀ (o : OpenStream) (d : Data) (s : State),
    (∀ p, (s.acceptReport o d (.position p)).ep.ownPos = some p)
    ∧ (∀ (p : Nat) (u : State) (H B : Prop), u = s.acceptReport o d (.position p) →
        (H ↔ s.ws.state.active = true ∧ ∃ j i, ((j + 1 = s.k ∧ 1 ≤ j) ∨ (j = s.k + 1 ∧ s.k < s.cfg.stations))
          ∧ (s.peer j).info = some i ∧ (max i.position p - min i.position p < s.cfg.hardGap
            ∨ (j < s.k ∧ p ≤ i.position) ∨ (s.k < j ∧ i.position ≤ p))) →
        (B ↔ p + s.cfg.tolerance < s.cfg.low ∨ s.cfg.high + s.cfg.tolerance < p) →
        (H ∨ s.ws.state.online = true ∧ B →
          u.ws.state = .halted ∧ u.ep.stream = none ∧ u.cs.cycle = none ∧ u.cs.lone = none
          ∧ (s.ws.state ≠ .faulted → ∃ c, u.eu.cause
              = some { source := .clearanceHalt c, stateLeft := s.ws.state, time := s.clock, cleared := false }
              ∧ (c = .travelLimit ↔ ¬ H))
          ∧ ∀ x, s.eu.sources[11]? = some x → u.eu.sources[11]?
            = some { pending := x.pending || decide (0 < s.levels.getD 11 0), count := min 255 (x.count + 1) })
        ∧ (¬ H → ¬ B → ∃ c : CycleSequencer,
            u = { s with ep.ownPos := some p, ep.partialReport := [], ep.stream := some { o with lastPosition := some p }, cs := c })
        ∧ (¬ H → ¬ B → ∀ N : Nat → Prop, (∀ t, N t ↔ ∃ j i, ((j + 1 = s.k ∧ 1 ≤ j) ∨ (j = s.k + 1 ∧ s.k < s.cfg.stations))
              ∧ (s.peer j).info = some i ∧ 0 < s.cfg.gap ∧ min i.position i.target < max p t + s.cfg.gap
              ∧ min p t < max i.position i.target + s.cfg.gap) →
            (∀ cy t, s.cs.cycle = some cy → cy.task = .placed (.travel t) → cy.ending = none → cy.stopAsked = false → N t →
              u.cs.cycle = some { cy with stopAsked := true } ∧ u.cs.interject = some .stopMotion)
            ∧ (∀ l, s.cs.lone = some l → l.placed = true → l.ending = none → l.stopAsked = false → N l.target →
              u.cs.lone = some { l with stopAsked := true } ∧ u.cs.interject = some .stopMotion)
            ∧ ((∀ j, (j + 1 = s.k ∧ 1 ≤ j) ∨ (j = s.k + 1 ∧ s.k < s.cfg.stations) → (s.peer j).info ≠ none) →
                (∀ cy t, s.cs.cycle = some cy → cy.task = .placed (.travel t) → cy.ending ≠ none ∨ cy.stopAsked = true ∨ ¬ N t) →
                (∀ l, s.cs.lone = some l → l.placed = true → l.ending ≠ none ∨ l.stopAsked = true ∨ ¬ N l.target) →
                u.cs = s.cs)))
    ∧ (∀ t, o.command = .travel t → s.motionStopped = false →
        (s.acceptReport o d .done).ep.ownPos = some t ∧ (s.acceptReport o d .done).ep.stream = none)
    ∧ (∀ t, o.command = .travel t → s.motionStopped = true →
        (s.acceptReport o d .done).ep.ownPos = some (o.lastPosition.getD s.ep.travelStart)
        ∧ (s.acceptReport o d .done).ep.stream = none ∧ (s.acceptReport o d .done).ep.stopped = .no)
    ∧ (∀ cy, o.user = .cycle → s.cs.cycle = some cy → cy.winding = false →
        (∀ t, o.command = .travel t → s.motionStopped = true →
          (s.acceptReport o d .done).cs.cycle = some { cy with task := .toPlace (.travel t) true, stopAsked := false })
        ∧ (∀ t, o.command = .travel t → s.motionStopped = false → cy.stage ≠ .sensing →
          (s.acceptReport o d .done).cs.cycle = some { cy with task := .toPlace (.slide cy.cross) false, stopAsked := false })
        ∧ (∀ t, o.command = .travel t → s.motionStopped = false → cy.stage = .sensing →
          (s.acceptReport o d .done).cs.cycle = match cy.reposition with
            | some q => some { cy with reposition := none, task := .toPlace (.slide q) false, stopAsked := false }
            | none => some { cy with task := .toPlace .sense false, stopAsked := false })
        ∧ (∀ q, o.command = .slide q →
          (s.acceptReport o d .done).cs.cycle = some { cy with stage := .sensing, task := .toPlace .sense false })
        ∧ (o.command = .clamp → (∀ h, cy.work ≠ .hole ⟨h, .set⟩) →
          (s.acceptReport o d .done).cs.cycle = some { cy with clamped := true, task := .toPlace (.drill 0) false }
          ∧ (s.acceptReport o d .done).cs.lastClamp = some s.clock)
        ∧ (∀ h n g, o.command = .clamp → cy.work = .hole ⟨h, .set⟩ → cy.grip = some (n, g) →
          (s.acceptReport o d .done).cs.cycle = some { cy with clamped := true, stage := .budgeting, task := .idle }
          ∧ (s.acceptReport o d .done).cs.lastClamp = some s.clock
          ∧ (s.acceptReport o d .done).du.own.state = .queued ∧ (s.acceptReport o d .done).du.own.amount = g.draw
          ∧ (s.acceptReport o d .done).du.own.hole = h
          ∧ (s.acceptReport o d .done).offered .du (.draw .intent g.draw h))
        ∧ (o.command = .retract → (s.acceptReport o d .done).cs.cycle = some (if cy.clamped then
            { cy with task := .toPlace .unclamp false } else { cy with stage := .reporting, task := .idle }))
        ∧ (o.command = .unclamp →
          (s.acceptReport o d .done).cs.cycle = some { cy with clamped := false, stage := .reporting, task := .idle }))
    ∧ (∀ v cy c e, s.cs.cycle = some cy → cy.work = .hole c → cy.ending = none → s.ht[c.hole]? = some e →
        (s.acceptReport o d (.gauge v)).ht[c.hole]? = some { e with stack := some ⟨v, .gauge⟩, plies := none })
    ∧ (∀ v cy c h, s.cs.cycle = some cy → cy.work = .hole c → cy.winding = false → lookupKey c.hole s.ps.holes = some h →
        (h.nominal + h.tolerance < v ∨ v + h.tolerance < h.nominal →
          (s.acceptReport o d (.gauge v)).cs.cycle = some { cy with
            outcome := some (.rejected .stack none none none), stage := .retracting, task := .toPlace .retract false })
        ∧ (v ≤ h.nominal + h.tolerance → h.nominal ≤ v + h.tolerance →
          (∀ n g, gripFor s.cfg.classes v = some (n, g) →
            (s.acceptReport o d (.gauge v)).cs.cycle = some { cy with
              grip := some (n, g), stage := .clamping, task := .toPlace .clamp false })
          ∧ (gripFor s.cfg.classes v = none →
            (s.acceptReport o d (.gauge v)).cs.cycle = some { cy with
              outcome := some (.rejected .grip none none none), stage := .retracting, task := .toPlace .retract false })))
    ∧ (∀ v, (gripFor s.cfg.classes v = none ↔ ∀ g ∈ s.cfg.classes, v < g.minStack ∨ g.maxStack < v)
        ∧ ∀ n g, gripFor s.cfg.classes v = some (n, g) → s.cfg.classes[n]? = some g ∧ g.minStack ≤ v ∧ v ≤ g.maxStack)
    ∧ (∀ p q cy n g, s.cs.cycle = some cy → cy.grip = some (n, g) →
        ∃ cy', (s.acceptReport o d (.squeeze p q)).cs.cycle = some cy' ∧ cy'.stage = .retracting
          ∧ (100 * p < 95 * g.pressure ∨ q < g.minStroke ∨ g.maxStroke < q →
              cy'.outcome = some (.rejected .squeeze none (some n) (some ⟨p, q⟩)))
          ∧ (95 * g.pressure ≤ 100 * p → g.minStroke ≤ q → q ≤ g.maxStroke → cy'.outcome = some (.set n p q))
          ∧ (s.acceptReport o d (.squeeze p q)).cs.lastSqueeze = some s.clock
          ∧ (s.du.own.state = .squeezing →
              (s.acceptReport o d (.squeeze p q)).du.own.state = .no ∧ (s.acceptReport o d (.squeeze p q)).drawEntry s.k = none
              ∧ (s.acceptReport o d (.squeeze p q)).du.supplyWaits = 0
              ∧ (s.acceptReport o d (.squeeze p q)).offered .du (.draw .done 0 s.du.own.hole))
          ∧ (s.du.own.state ≠ .squeezing → (s.acceptReport o d (.squeeze p q)).du = s.du))
    ∧ (∀ kind cy p q, s.ep.stream = some o → s.cs.cycle = some cy → cy.winding = false → cy.stage = .squeezing →
        cy.task = .placed (.squeeze p q) → s.throughEnding = false → s.faultStopping = false →
        (∃ cy', (s.portFails kind none).cs.cycle = some cy' ∧ cy'.stage = .retracting
          ∧ cy'.outcome = some (.rejected .squeeze none (cy.grip.map (·.1)) none))
        ∧ (s.portFails kind none).cs.lastSqueeze = some s.clock
        ∧ (s.du.own.state = .squeezing →
            (s.portFails kind none).du.own.state = .no ∧ (s.portFails kind none).drawEntry s.k = none
            ∧ (s.portFails kind none).du.supplyWaits = s.du.supplyWaits
            ∧ ((∀ side, (s.zone side).frameId < s.lc.nextId) → (∀ x, s.ws.selection = some x → x.frameId < s.lc.nextId) →
                (s.portFails kind none).offered .du (.draw .done 0 s.du.own.hole))))
    ∧ (∀ v, s.du.own.state = .supplyCheck → s.cfg.supplyFloor ≤ v →
        (s.acceptReport o d (.pressure v)).du.own.state = .allowed)
    ∧ (∀ v t, s.du.own.state = .supplyCheck → v < s.cfg.supplyFloor → s.du.own.supplyStart = some t →
        s.clock < t + s.cfg.pressureWait →
        (s.acceptReport o d (.pressure v)).du.own.state = .supplyCheck
        ∧ (s.acceptReport o d (.pressure v)).du.own.lastBelow = true
        ∧ (s.acceptReport o d (.pressure v)).du.supplyWaits = s.du.supplyWaits)
    ∧ (∀ v t, s.du.own.state = .supplyCheck → v < s.cfg.supplyFloor → s.du.own.supplyStart = some t →
        t + s.cfg.pressureWait ≤ s.clock →
        (s.acceptReport o d (.pressure v)).du.supplyWaits = s.du.supplyWaits + 1
        ∧ (∀ x, s.eu.sources[7]? = some x → (s.acceptReport o d (.pressure v)).eu.sources[7]?
            = some { pending := x.pending || decide (0 < s.levels.getD 7 0), count := min 255 (x.count + 1) })
        ∧ (s.du.supplyWaits < 2 → (s.acceptReport o d (.pressure v)).du.own.state = .waiting
            ∧ (s.acceptReport o d (.pressure v)).du.own.waitDeadline = some (s.clock + s.cfg.drawLife)
            ∧ (s.acceptReport o d (.pressure v)).offered .du (.draw .withdraw 0 s.du.own.hole)
            ∧ (s.acceptReport o d (.pressure v)).ws.state = s.ws.state)
        ∧ (2 ≤ s.du.supplyWaits → s.ws.state = .working → (s.acceptReport o d (.pressure v)).ws.state = .faulted))
    ∧ (∀ v, s.du.own.state ≠ .supplyCheck → (s.acceptReport o d (.pressure v)).du = s.du)

/-- The SENSE report that ends a stream. In a hole cycle it is judged by kind, phase and tolerance: OBSTRUCTED is rejected; an offset
above the tolerance re-positions once, each such axis to its corrected target, and is rejected for POSITION the second time or when a
corrected target is out of reach; otherwise the cycle goes on or takes its outcome. In a datum cycle PU judges it, and the cycle ends:
an OPEN HOLE within the window at a position in range is measured, and anything else fails.
That no retry deadline is held with a position measured is the model's choice (log entry 77). A winding ending judges nothing. -/
def Obligations.SenseJudged : Prop :=
  ∀ (o : OpenStream) (d : Data) (kind : SenseKind) (dx dy : Int) (cy : Cycle) (s : State), s.cs.cycle = some cy →
    (cy.winding = true → (s.acceptReport o d (.sense kind dx dy)).cs.cycle = some { cy with task := .idle })
    ∧ (∀ c, cy.winding = false → cy.work = .hole c →
        (kind = .obstructed → (s.acceptReport o d (.sense kind dx dy)).cs.cycle
          = some { cy with outcome := some (.rejected .obstructed none none none), stage := .retracting,
                           task := .toPlace .retract false })
        ∧ (kind ≠ .obstructed → s.cfg.tolerance < dx.natAbs ∨ s.cfg.tolerance < dy.natAbs →
            ∀ x y : Int, x = (if kind = .noHole then cy.rail - dx else cy.rail + dx) →
              y = (if kind = .noHole then cy.cross - dy else cy.cross + dy) →
            (2 ≤ cy.senses ∨ (s.cfg.tolerance < dx.natAbs ∧ (x < s.cfg.low ∨ (s.cfg.high : Int) < x))
                ∨ (s.cfg.tolerance < dy.natAbs ∧ (y < 0 ∨ (s.cfg.crossLimit : Int) < y)) →
              (s.acceptReport o d (.sense kind dx dy)).cs.cycle
                = some { cy with outcome := some (.rejected .position none none none), stage := .retracting,
                                 task := .toPlace .retract false })
            ∧ (cy.senses < 2 → s.cfg.tolerance < dx.natAbs → (s.cfg.low : Int) ≤ x → x ≤ s.cfg.high →
                (s.cfg.tolerance < dy.natAbs → 0 ≤ y ∧ y ≤ s.cfg.crossLimit) →
                (s.acceptReport o d (.sense kind dx dy)).cs.cycle
                  = some { cy with reposition := if s.cfg.tolerance < dy.natAbs then some y.toNat else none,
                                   task := .toPlace (.travel x.toNat) false, stopAsked := false })
            ∧ (cy.senses < 2 → dx.natAbs ≤ s.cfg.tolerance → s.cfg.tolerance < dy.natAbs → 0 ≤ y → y ≤ s.cfg.crossLimit →
                (s.acceptReport o d (.sense kind dx dy)).cs.cycle
                  = some { cy with task := .toPlace (.slide y.toNat) false }))
        ∧ (dx.natAbs ≤ s.cfg.tolerance → dy.natAbs ≤ s.cfg.tolerance →
            (kind = .noHole → c.phase = .drill → (s.acceptReport o d (.sense kind dx dy)).cs.cycle
              = some { cy with stage := .clamping, task := .toPlace .clamp false })
            ∧ (kind = .noHole → c.phase = .set → (s.acceptReport o d (.sense kind dx dy)).cs.cycle
              = some { cy with outcome := some (.rejected .noHole none none none), stage := .retracting,
                               task := .toPlace .retract false })
            ∧ (kind = .openHole → c.phase = .drill → (s.acceptReport o d (.sense kind dx dy)).cs.cycle
              = some { cy with outcome := some .foundDrilled, stage := .retracting, task := .toPlace .retract false })
            ∧ (kind = .headPresent → (s.acceptReport o d (.sense kind dx dy)).cs.cycle
              = some { cy with outcome := some .foundSet, stage := .retracting, task := .toPlace .retract false })
            ∧ (kind = .openHole → c.phase = .set → (∀ e, s.ht[c.hole]? = some e → e.stack = none) →
              (s.acceptReport o d (.sense kind dx dy)).cs.cycle
                = some { cy with stage := .gauging, task := .toPlace .gauge false })
            ∧ (∀ e v, kind = .openHole → c.phase = .set → s.ht[c.hole]? = some e → e.stack = some v →
              (s.acceptReport o d (.sense kind dx dy)).cs.cycle = match gripFor s.cfg.classes v.value with
                | some g => some { cy with grip := some g, stage := .clamping, task := .toPlace .clamp false }
                | none => some { cy with outcome := some (.rejected .grip none none none), stage := .retracting,
                                         task := .toPlace .retract false })))
    ∧ (∀ dd (r q : Int), cy.winding = false → cy.work = .datum → s.cfg.role.datum = some dd → s.pu.prober ≠ none → r = cy.rail + dx →
        q = cy.cross + dy →
        (s.acceptReport o d (.sense kind dx dy)).cs.cycle = none
        ∧ (kind = .openHole → dx.natAbs ≤ s.cfg.window → dy.natAbs ≤ s.cfg.window → 0 ≤ r → r ≤ 524287 → 0 ≤ q → q ≤ 40000 →
            (s.acceptReport o d (.sense kind dx dy)).pu.prober = some ⟨.awaitingReadBack, none, some (r.toNat, q.toNat)⟩
            ∧ (s.acceptReport o d (.sense kind dx dy)).offered .pu (.datum dd r.toNat q.toNat s.planCheck))
        ∧ (kind ≠ .openHole ∨ s.cfg.window < dx.natAbs ∨ s.cfg.window < dy.natAbs ∨ r < 0 ∨ 524287 < r ∨ q < 0 ∨ 40000 < q →
            (s.acceptReport o d (.sense kind dx dy)).pu.prober = some ⟨.retryWait, some (s.clock + 10000), none⟩
            ∧ ∀ x, s.eu.sources[4]? = some x → (s.acceptReport o d (.sense kind dx dy)).eu.sources[4]?
              = some { pending := x.pending || decide (0 < s.levels.getD 4 0), count := min 255 (x.count + 1) }))

/-- A DRILL's thrust stream at the machine: an unmarked sample goes to SA and changes nothing else but that the first confirmed exit,
or the first overrun, asks for FEED STOP, which is placed into the stream; the trailing sample closes the stream with SA's outcome by
the status held and takes the cycle to RETRACTING; in an ending the outcome is not used, and the ending's own FEED STOP stands for
SA's (log entry 56); a failure gives no outcome. -/
def Obligations.DrillStreamRuns : Prop :=
  (∀ (o : OpenStream) (d : Data) (v : Nat) (s : State),
    (∀ cy, s.cs.cycle = some cy → cy.winding = false → (s.sa.sample v).feedStopAsked = true → s.sa.feedStopAsked = false →
      s.acceptReport o d (.sample v) = { s with sa := s.sa.sample v, cs.interject := some .feedStop })
    ∧ ((s.sa.sample v).feedStopAsked = s.sa.feedStopAsked → s.acceptReport o d (.sample v) = { s with sa := s.sa.sample v })
    ∧ (∀ cy, s.cs.cycle = some cy → cy.winding = true → s.acceptReport o d (.sample v) = { s with sa := s.sa.sample v })
    ∧ (∀ cy, s.cs.cycle = some cy →
        (s.acceptReport o d .trailing).sa = s.sa.close ∧ (s.acceptReport o d .trailing).ep.stream = none
        ∧ (cy.winding = true → (s.acceptReport o d .trailing).cs.cycle = some { cy with task := .idle })
        ∧ (∀ x, cy.winding = false → s.sa.close.outcome = some x → (s.acceptReport o d .trailing).cs.cycle
            = some { cy with outcome := some x, stage := .retracting, task := .toPlace .retract false })))
  ∧ (∀ s : State, s.cs.interject = some .feedStop → s.drillStream = true → s.ep.stopped = .no → s.ep.transfer = none →
      s.lines.resume = false → s.ep.haltedMark = false → s.ep.haltWaiting = false → s.effectorReady = true →
      s.placeInterject.ep.commandFlag = true ∧ s.placeInterject.cs.interject = none
      ∧ s.placeInterject.ep.commandLines = Command.feedStop.word
      ∧ ∃ t, s.placeInterject.ep.transfer = some t ∧ t.command = .feedStop ∧ t.rest = [])
  ∧ (∀ (a : StackAnalyser) (v : Nat),
      (a.status = .inStack → v < a.tx → a.tx ≤ a.te → (if a.runLength = 0 then 1 else a.runLength + 1) = a.runK →
        (a.sample v).status = .exited ∧ (a.sample v).feedStopAsked = true)
      ∧ (a.status = .limitReached → (a.sample v).feedStopAsked = true ∧ (a.sample v).status = .limitReached
        ∧ (a.sample v).overrun = min 4095 (a.overrun + 1) ∧ (a.sample v).analysed = a.analysed)
      ∧ (a.status = .exited → a.sample v = { a with overrun := min 4095 (a.overrun + 1) })
      ∧ (a.status = .seekingEntry → a.analysed + 1 = a.limit → (a.sample v).status = .limitReached
        ∧ (a.te ≤ v → (a.sample v).entryDepth = some (a.limit * a.step))
        ∧ (v < a.te → (a.sample v).entryDepth = a.entryDepth))
      ∧ (a.status = .inStack → a.analysed + 1 = a.limit → a.tx ≤ v → (a.sample v).status = .limitReached))
  ∧ (∀ a : StackAnalyser,
      (a.status = .seekingEntry → a.close.outcome = some (.rejected .noEntry none none none))
      ∧ (a.status = .limitReached → a.entryDepth = none → a.close.outcome = some (.rejected .noEntry none none none))
      ∧ (a.status = .limitReached → a.entryDepth ≠ none → a.close.outcome = some (.rejected .noExit none none none))
      ∧ (a.status = .inStack → a.close.outcome = some (.rejected .feedEnded none none none))
      ∧ (∀ x y t, a.status = .exited → a.entryDepth = some x → a.exitDepth = some y → x ≤ y → t = y - x →
          a.close.outcome = some (
            if t + a.tolerance < a.nominal ∨ a.nominal + a.tolerance < t then
              .rejected .stack (some (t, a.interfaces + 1)) none none
            else if a.expected ≠ 0 ∧ a.expected ≠ a.interfaces + 1 then .rejected .plies (some (t, a.interfaces + 1)) none none
            else .drilled t (a.interfaces + 1))))
  ∧ ∀ (kind : FailKind) (o : OpenStream) (n : Nat) (s : State), s.ep.stream = some o → o.command = .drill n →
      s.sa.status = .seekingEntry ∨ s.sa.status = .inStack ∨ s.sa.status = .exited ∨ s.sa.status = .limitReached →
      (s.portFails kind none).sa = { s.sa with status := .failed }

/-- The analysis of a clean cut: entry at the first HIGH sample, exit at the first of K LOW samples in a row, the stack the
distance between them, and its judgement at the trailing sample. -/
def Obligations.CleanCutMeasured : Prop :=
  ∀ (a : StackAnalyser) (air cut out : List Nat), a.status = .seekingEntry → a.analysed = 0 → a.interfaces = 0 →
    a.runLength = 0 → 1 ≤ a.runK → a.tx < a.te → out.length = a.runK → air.length + 1 + cut.length + out.length ≤ a.limit →
    (∀ v ∈ air, v < a.te) → (∀ v ∈ cut, a.te ≤ v) → (∀ v ∈ out, v < a.tx) → ∀ v, a.te ≤ v →
    ∃ b : StackAnalyser, (air ++ [v] ++ cut ++ out).foldl (fun x y => StackAnalyser.sample y x) a = b
      ∧ b.status = .exited ∧ b.feedStopAsked = true ∧ b.interfaces = 0
      ∧ b.entryDepth = some ((air.length + 1) * a.step)
      ∧ b.exitDepth = some ((air.length + 1 + cut.length + 1) * a.step)
      ∧ (b.close.outcome = some (.drilled ((cut.length + 1) * a.step) 1)
          ↔ ((cut.length + 1) * a.step ≤ a.nominal + a.tolerance ∧ a.nominal ≤ (cut.length + 1) * a.step + a.tolerance
              ∧ (a.expected = 0 ∨ a.expected = 1)))


/-! ### Cycles, lone motions and selection -/

/-- Ending a cycle early. A cause taken sets the ending with the actions of the stage reached, gives up a command not yet placed,
and in BUDGETING the own intent; in SQUEEZING, RETRACTING and REPORTING the cycle goes on; under an ending already begun a fault
only adds its mark. The actions are placed one after another, STOP MOTION into any motion stream that is open, FEED STOP into a
DRILL stream that none has been taken into. Afterwards: from CUTTING the entry is REJECTED for ABORT-CUT with its REPORT, from an
earlier stage it reverts with a RELEASE, WS's for an abandonment; after a frame cycle start nothing is written; then the frames left
to HT, the one that made WS abandon the hole first, are applied to the entry in their order; a datum cycle makes an IN CYCLE prober
DUE. -/
def Obligations.EarlyEndings : Prop :=
  (∀ (cause : EndCause) (through : Bool) (cy : Cycle) (s : State), s.cs.cycle = some cy →
    (cy.ending = none → ∃ cy' e, (s.takeEnding cause through).cs.cycle = some cy' ∧ cy'.ending = some e ∧ e.cause = cause
      ∧ e.through = through ∧ e.stage = cy.stage ∧ e.void = false ∧ cy'.work = cy.work ∧ cy'.stage = cy.stage
      ∧ e.todo = (match cy.stage with
          | .moving | .sensing | .gauging => [.stopMotion, .retract]
          | .clamping | .budgeting => [.unclamp, .retract]
          | .cutting => [.feedStop, .retract, .unclamp]
          | .claiming | .squeezing | .retracting | .reporting => [])
      ∧ (cy.stage = .squeezing ∨ cy.stage = .retracting ∨ cy.stage = .reporting →
          cy' = { cy with ending := some e } ∧ (s.takeEnding cause through).du = s.du)
      ∧ (cy.stage ≠ .squeezing → cy.stage ≠ .retracting → cy.stage ≠ .reporting →
          cy'.winding = true ∧ (∀ c a, cy.task = .toPlace c a → cy'.task = .idle) ∧ (∀ c, cy.task = .placed c → cy'.task = cy.task)
          ∧ (s.takeEnding cause through).cs.interject = none)
      ∧ (cy.stage = .budgeting → s.du.own.state ≠ .squeezing → (s.takeEnding cause through).du.own.state = .no))
    ∧ (∀ e, cy.ending = some e → s.takeEnding cause through
        = { s with cs.cycle := some { cy with ending := some { e with through := e.through || through } } }))
  ∧ (∀ (cy : Cycle) (e : Ending) (a : EndAction) (c : Command) (l : List EndAction) (s : State), s.cs.cycle = some cy →
      cy.ending = some e → e.stage.goesOn = false → e.todo = a :: l → c = a.command → s.ep.transfer = none →
      s.lines.resume = false → s.ep.haltedMark = false → s.ep.haltWaiting = false → s.effectorReady = true →
      (c.interjection = false → s.ep.stream = none → cy.task = .idle →
        s.stepCycle.cs.cycle = some { cy with ending := some { e with todo := l }, task := .placed c }
        ∧ s.stepCycle.ep.transfer = some { command := c, user := .cycle, rest := c.extension s.cfg.tolerance })
      ∧ (c = .stopMotion → s.motionStream = true →
        s.stepCycle.cs.cycle = some { cy with ending := some { e with todo := l } }
        ∧ s.stepCycle.ep.transfer = some { command := c, user := .cycle, rest := [] })
      ∧ (c = .feedStop → s.drillStream = true → s.ep.stopped = .no →
        s.stepCycle.cs.cycle = some { cy with ending := some { e with todo := l } }
        ∧ s.stepCycle.ep.transfer = some { command := c, user := .cycle, rest := [] })
      ∧ (c = .stopMotion ∧ s.motionStream = false ∨ c = .feedStop ∧ (s.drillStream = false ∨ s.ep.stopped ≠ .no) →
        s.stepCycle = { s with cs.cycle := some { cy with ending := some { e with todo := l } } }))
  ∧ (∀ (cy : Cycle) (e : Ending) (c : Claim) (en : HoleEntry) (s : State), s.cs.cycle = some cy → cy.ending = some e →
      e.stage.goesOn = false → e.todo = [] → cy.task = .idle → s.ep.transfer = none → cy.work = .hole c →
      (∀ f ∈ cy.left, f.body.hole? = some c.hole) → s.ht[c.hole]? = some en →
      s.stepCycle.cs.cycle = none
      ∧ (e.void = true → s.stepCycle.lc = s.lc ∧ s.stepCycle.eu = s.eu ∧ (cy.left = [] → s.stepCycle.ht = s.ht)
          ∧ s.stepCycle.ht[c.hole]? = some (cy.left.foldl (fun x f => mergeEntry s.k f.sender f.body x) en))
      ∧ (e.void = false → en.claimedBy s.k = true → e.stage = .cutting →
          s.stepCycle.ht[c.hole]? = some (cy.left.foldl (fun x f => mergeEntry s.k f.sender f.body x)
            { en.revert with state := .rejected, reject := some ⟨.abortCut, .drill⟩, grip := none, squeeze := none, owed := false })
          ∧ s.stepCycle.offered .cs (.report { hole := c.hole, phase := .drill, outcome := .rejected .abortCut, stack := none,
                                               plies := 0, grip := 0, peak := 0, stroke := 0 })
          ∧ ∀ x, s.eu.sources[6]? = some x → s.stepCycle.eu.sources[6]?
            = some { pending := x.pending || decide (0 < s.levels.getD 6 0), count := min 255 (x.count + 1) })
      ∧ (e.void = false → en.claimedBy s.k = true → e.stage ≠ .cutting →
          s.stepCycle.ht[c.hole]? = some (cy.left.foldl (fun x f => mergeEntry s.k f.sender f.body x) en.revert)
          ∧ s.stepCycle.eu = s.eu
          ∧ s.stepCycle.offered (if e.cause = .abandon then .ws else .cs) (.release c)))
  ∧ ∀ (cy : Cycle) (e : Ending) (s : State), s.cs.cycle = some cy → cy.ending = some e → e.stage.goesOn = false → e.todo = [] →
      cy.task = .idle → s.ep.transfer = none → cy.work = .datum →
      s.stepCycle.cs.cycle = none ∧ s.stepCycle.lc = s.lc
      ∧ (s.proberStatus = some .inCycle → s.stepCycle.proberStatus = some .due)
      ∧ (s.proberStatus ≠ some .inCycle → s.stepCycle.pu = s.pu)

/-- How a cycle that is carried through writes its hole. In REPORTING, by its outcome: the entry, taken out of the claimed state,
and the closing REPORT or CORRECTION; a rejection raises HOLE REJECTED; nothing after a frame cycle start. In HALTED, in any stage:
the entry REJECTED for HALT in the cycle's phase with no frame, unless it is SET already (log entry 27). Frames left to HT are
applied afterwards, in both (log entry 26, DEDUCED). -/
def Obligations.CyclesWriteTheirHole : Prop :=
  (∀ (cy : Cycle) (o : CycleOutcome) (c : Claim) (en : HoleEntry) (s : State), s.cs.cycle = some cy → cy.work = .hole c →
    cy.outcome = some o → cy.left = [] → s.ht[c.hole]? = some en →
    (s.finishReporting cy).cs.cycle = none
    ∧ (cy.voided = true → (s.finishReporting cy).ht = s.ht ∧ (s.finishReporting cy).lc = s.lc)
    ∧ (cy.voided = false →
        (∀ t n, o = .drilled t n →
          (s.finishReporting cy).ht[c.hole]? = some { en with
            state := .drilled, claimant := none, drillWorker := some s.k, stack := some ⟨t, .drill⟩, plies := some n, owed := false }
          ∧ (s.finishReporting cy).offered .cs (.report { hole := c.hole, phase := c.phase, outcome := .drilled, stack := some t,
                                                          plies := n, grip := 0, peak := 0, stroke := 0 }))
        ∧ (∀ g p q, o = .set g p q →
          (s.finishReporting cy).ht[c.hole]? = some { en with
            state := .set, claimant := none, setWorker := some s.k, grip := some g, squeeze := some ⟨p, q⟩,
            drillWorker := some (en.drillWorker.getD 0), owed := false }
          ∧ (s.finishReporting cy).offered .cs (.report { hole := c.hole, phase := c.phase, outcome := .set,
                                                          stack := en.stack.map (·.value), plies := en.plies.getD 0,
                                                          grip := g, peak := p, stroke := q }))
        ∧ (∀ cause m g q, o = .rejected cause m g q →
          (s.finishReporting cy).ht[c.hole]? = some { en with
            state := .rejected, claimant := none, reject := some ⟨cause, c.phase⟩, grip := g, squeeze := q,
            stack := (match m with | some (v, _) => some ⟨v, .drill⟩ | none => en.stack),
            plies := (match m with | some (_, n) => some n | none => en.plies), owed := false }
          ∧ (s.finishReporting cy).offered .cs (.report { hole := c.hole, phase := c.phase, outcome := .rejected cause,
                                                          stack := none, plies := 0, grip := 0, peak := 0, stroke := 0 })
          ∧ ∀ x, s.eu.sources[6]? = some x → (s.finishReporting cy).eu.sources[6]?
            = some { pending := x.pending || decide (0 < s.levels.getD 6 0), count := min 255 (x.count + 1) })
        ∧ (o = .foundDrilled →
          (s.finishReporting cy).ht[c.hole]? = some { en with
            state := .drilled, claimant := none, drillWorker := some 0, stack := none, plies := none, owed := false }
          ∧ (s.finishReporting cy).offered .cs (.correction { hole := c.hole, rework := false, asserted := .drilled, worker := 0,
                                                              stack := none, grip := none, reject := en.reject }))
        ∧ (o = .foundSet →
          (s.finishReporting cy).ht[c.hole]? = some { en with
            state := .set, claimant := none, setWorker := some 0, drillWorker := some (en.drillWorker.getD 0), owed := false }
          ∧ (s.finishReporting cy).offered .cs (.correction { hole := c.hole, rework := false, asserted := .set, worker := 0,
                                                              stack := en.stack, grip := en.grip, reject := en.reject }))))
  ∧ (∀ (cy : Cycle) (c : Claim) (en : HoleEntry) (s u v : State), s.cs.cycle = some cy → cy.work = .hole c →
      (∀ f ∈ cy.left, f.body.hole? = some c.hole) → s.ht[c.hole]? = some en →
      u = { s with cs.cycle := some { cy with left := [] } } →
      v = State.finishReporting { cy with left := [] } u →
      (∀ o, cy.outcome = some o →
        (s.finishReporting cy).cs = v.cs ∧ (s.finishReporting cy).lc = v.lc ∧ (s.finishReporting cy).eu = v.eu
        ∧ (s.finishReporting cy).ht[c.hole]?
          = v.ht[c.hole]?.map (fun x => cy.left.foldl (fun y f => mergeEntry s.k f.sender f.body y) x))
      ∧ s.haltCycle.cs = u.haltCycle.cs ∧ s.haltCycle.lc = u.haltCycle.lc ∧ s.haltCycle.eu = u.haltCycle.eu
      ∧ s.haltCycle.ht[c.hole]?
        = u.haltCycle.ht[c.hole]?.map (fun x => cy.left.foldl (fun y f => mergeEntry s.k f.sender f.body y) x))
  ∧ ∀ (cy : Cycle) (c : Claim) (en : HoleEntry) (s : State), s.cs.cycle = some cy → cy.work = .hole c → cy.left = [] →
      s.ht[c.hole]? = some en →
      s.haltCycle.cs.cycle = none ∧ s.haltCycle.lc = s.lc
      ∧ (en.state = .set → s.haltCycle.ht = s.ht)
      ∧ (en.state ≠ .set → ∃ x, s.haltCycle.ht[c.hole]? = some x ∧ x.state = .rejected ∧ x.claimant = none
          ∧ x.reject = some ⟨.halt, c.phase⟩ ∧ x.drillWorker = en.drillWorker ∧ x.stack = en.stack ∧ x.plies = en.plies
          ∧ x.rework = en.rework ∧ x.owed = en.owed
          ∧ ∀ r, s.eu.sources[6]? = some r → s.haltCycle.eu.sources[6]?
            = some { pending := r.pending || decide (0 < s.levels.getD 6 0), count := min 255 (r.count + 1) })

/-- The passages among WAITING, WORKING and FINISHED. WAITING passes to WORKING when the work conditions hold, giving up a park that
only waits; WORKING and FINISHED return to WAITING at a quiet point when they do not; WORKING passes to FINISHED at a quiet point
with the concern done, no zone held and the conditions holding, raising FINISHED and driving its line, and parks unless the carriage
stands there or the park position lies in a zone, a park TRAVEL under way keeping its status (log entry 53); FINISHED passes to
WORKING when the concern has a hole to work. No station is left WAITING with the conditions holding. That a park status is kept on
the passage to WAITING and given up from there is log entry 25, and that the finish condition is evaluated after every command at a
quiet point is log entry 79 (both DEDUCED). -/
def Obligations.WorkPassages : Prop :=
  (∀ s : State, (s.workConditions = true ↔ s.pu.correction ≠ none ∧ s.pt.conflict = false
      ∧ ∀ j ∈ s.cfg.neighbours, (s.peer j).status ≠ .unknown))
  ∧ (∀ s : State, s.settle.ws.state = .waiting → s.settle.workConditions = false)
  ∧ (∀ s : State, s.ws.state = .waiting →
      (s.workConditions = true → s.stepConditions.ws.state = .working
        ∧ s.stepConditions.ws.park = (if s.ws.park = .waitingForClearance then .no else s.ws.park))
      ∧ (s.workConditions = false → s.stepConditions = s))
  ∧ (∀ s : State, s.ws.state = .working ∨ s.ws.state = .finished →
      (s.workConditions = false → s.cs.cycle = none → s.ws.selection = none →
        s.stepConditions.ws.state = .waiting ∧ s.stepConditions.lines.finishedLine = false
        ∧ s.stepConditions.ws.park = s.ws.park)
      ∧ (s.workConditions = true ∨ s.cs.cycle ≠ none ∨ s.ws.selection ≠ none → s.stepConditions = s))
  ∧ (∀ s : State, s.ws.state = .working →
      (s.cs.cycle = none → s.ws.selection = none → s.workConditions = true → s.zc.left.state ≠ .heldOwn →
        s.zc.right.state ≠ .heldOwn →
        (∀ h ∈ s.pu.concern.getD [], ∃ e, s.ht[h]? = some e ∧ (e.state = .set ∨ e.state = .rejected)) →
        s.stepFinish.ws.state = .finished ∧ s.stepFinish.lines.finishedLine = true
        ∧ (∀ x, s.eu.sources[12]? = some x → s.stepFinish.eu.sources[12]?
            = some { pending := x.pending || decide (0 < s.levels.getD 12 0), count := min 255 (x.count + 1) })
        ∧ (s.ws.park ≠ .travelling → s.own ≠ s.cfg.park → s.zoneAt s.cfg.park = none →
            s.stepFinish.ws.park = .waitingForClearance)
        ∧ (s.ws.park = .travelling ∨ s.own = s.cfg.park ∨ s.zoneAt s.cfg.park ≠ none → s.stepFinish.ws.park = s.ws.park))
      ∧ (s.cs.cycle ≠ none ∨ s.ws.selection ≠ none ∨ s.workConditions = false ∨ s.zc.left.state = .heldOwn
          ∨ s.zc.right.state = .heldOwn ∨ (∃ h ∈ s.pu.concern.getD [], ∃ e, s.ht[h]? = some e ∧ e.state ≠ .set ∧ e.state ≠ .rejected) →
        s.stepFinish = s))
  ∧ ∀ s : State, s.ws.state = .finished →
      (∀ l h e, s.pu.concern = some l → h ∈ l → s.ht[h]? = some e → e.state ≠ .set → e.state ≠ .rejected →
        s.stepFinish.ws.state = .working ∧ s.stepFinish.lines.finishedLine = false
        ∧ s.stepFinish.ws.park = (if s.ws.park = .waitingForClearance then .no else s.ws.park))
      ∧ ((∀ h ∈ s.pu.concern.getD [], ∃ e, s.ht[h]? = some e ∧ (e.state = .set ∨ e.state = .rejected)) → s.stepFinish = s)

/-- Lone motions. The park TRAVEL is placed while its status waits, in WAITING too (log entry 25), PU, ZC and PT permit it, and no
cycle, lone motion or queued CLAIM is there (log entries 55 and 60); a retreat likewise, one whose target lies in a zone not held
waiting (log entry 66); none is placed while a cycle is in flight. DONE of a park TRAVEL ends parking, one stopped for clearance
waits again; DONE of a retreat queues the zone's RELEASE, one stopped waits again. Ended early, a motion that waits is given up and
one in progress is stopped by STOP MOTION, and one being ended already goes on so; a failed TRAVEL ends its motion. A release that
is DUE is carried out with no cycle in flight: from outside the zone the RELEASE is queued, from inside a retreat begins to the
nearest permitted position on the zone's far side from its end of the rail, within the limits and outside both zones, and with no
such position nothing is done. -/
def Obligations.LoneMotions : Prop :=
  (∀ s : State, s.cs.cycle ≠ none → s.stepPark = s ∧ ∀ l, s.cs.lone = some l → l.ending = none → l.placed = false →
      s.stepLone.ep = s.ep)
  ∧ (∀ s : State, s.ws.park = .waitingForClearance → s.ws.state.active = true → s.cs.cycle = none → s.cs.lone = none →
      s.claimQueued = false → s.canPlace (.travel s.cfg.park) = true → s.effectorReady = true →
      (s.permitted s.cfg.park = true → s.cfg.low ≤ s.cfg.park → s.cfg.park ≤ s.cfg.high →
        (∀ side, s.zoneAt s.cfg.park = some side → (s.zone side).state = .heldOwn ∧ (s.zone side).progress = .no) →
        s.stepPark.ws.park = .travelling ∧ s.stepPark.cs.lone = some { owner := .park, target := s.cfg.park, placed := true }
        ∧ s.stepPark.ep.commandFlag = true
        ∧ ∃ t, s.stepPark.ep.transfer = some t ∧ t.command = .travel s.cfg.park ∧ t.user = .lone)
      ∧ (s.permitted s.cfg.park = false ∨ s.cfg.park < s.cfg.low ∨ s.cfg.high < s.cfg.park
          ∨ (∃ side, s.zoneAt s.cfg.park = some side ∧ ((s.zone side).state ≠ .heldOwn ∨ (s.zone side).progress ≠ .no)) →
        s.stepPark = s))
  ∧ (∀ (l : Lone) (side : Side) (s : State), s.cs.lone = some l → l.owner = .retreat side → l.ending = none → l.placed = false →
      s.cs.cycle = none → s.claimQueued = false → (s.zone side).progress = .retreating → s.canPlace (.travel l.target) = true →
      s.effectorReady = true → s.cfg.low ≤ l.target → l.target ≤ s.cfg.high →
      (s.permitted l.target = true →
        (∀ z, s.zoneAt l.target = some z → (s.zone z).state = .heldOwn ∧ (s.zone z).progress = .no) →
        s.stepLone.cs.lone = some { l with placed := true, stopAsked := false }
        ∧ ∃ t, s.stepLone.ep.transfer = some t ∧ t.command = .travel l.target ∧ t.user = .lone)
      ∧ (s.permitted l.target = false
          ∨ (∃ z, s.zoneAt l.target = some z ∧ ((s.zone z).state ≠ .heldOwn ∨ (s.zone z).progress ≠ .no)) →
        s.stepLone = s))
  ∧ (∀ (o : OpenStream) (d : Data) (l : Lone) (t : Nat) (s : State), s.cs.lone = some l → l.ending = none → o.user = .lone →
      o.command = .travel t →
      (l.owner = .park → s.motionStopped = false →
        (s.acceptReport o d .done).cs.lone = none ∧ (s.acceptReport o d .done).ws.park = .no
        ∧ (s.acceptReport o d .done).ep.ownPos = some t)
      ∧ (l.owner = .park → s.motionStopped = true →
        (s.acceptReport o d .done).cs.lone = none ∧ (s.acceptReport o d .done).ws.park = .waitingForClearance)
      ∧ (∀ side, l.owner = .retreat side → s.motionStopped = false → (s.zone side).state = .heldOwn →
          (s.zone side).progress = .retreating →
          (s.acceptReport o d .done).cs.lone = none ∧ ((s.acceptReport o d .done).zone side).progress = .sent
          ∧ (s.acceptReport o d .done).offered .zc (.zone side .release))
      ∧ (∀ side, l.owner = .retreat side → s.motionStopped = true →
          (s.acceptReport o d .done).cs.lone = some { l with placed := false, stopAsked := false }))
  ∧ (∀ (how : LoneEnd) (l : Lone) (s : State), s.cs.lone = some l →
      (l.ending = none → l.placed = false → s.endLone how = { s with cs.lone := none })
      ∧ (l.ending = none → l.placed = true → s.endLone how = { s with cs.lone := some { l with ending := some how } })
      ∧ (l.ending ≠ none → s.endLone how = s))
  ∧ (∀ (l : Lone) (s : State), s.cs.lone = some l → l.ending ≠ none → s.ep.transfer = none →
      (s.motionStream = true → s.ep.stopped = .no → s.canPlace .stopMotion = true → s.effectorReady = true →
        s.stepLone.ep.transfer = some { command := .stopMotion, user := .lone, rest := [] } ∧ s.stepLone.ep.commandFlag = true)
      ∧ (s.ep.stream = none → s.stepLone = { s with cs.lone := none }))
  ∧ (∀ (side : Side) (lo hi : Nat) (s : State), (s.zone side).state = .heldOwn → (s.zone side).progress = .due →
      (s.zone side).bounds = some (lo, hi) → s.cs.cycle = none →
      (s.own < lo ∨ hi < s.own → (∀ t, s.travelTarget = some t → t < lo ∨ hi < t) →
        (s.carryRelease side).offered .zc (.zone side .release) ∧ ((s.carryRelease side).zone side).progress = .sent)
      ∧ (lo ≤ s.own → s.own ≤ hi → s.cs.lone = none → s.claimQueued = false →
          (∀ b, s.zc.left.bounds = some b → b.1 = s.cfg.low) → (∀ b, s.zc.right.bounds = some b → b.2 = s.cfg.high) →
          ∀ P : Nat → Prop, (∀ t, P t ↔ s.cfg.low ≤ t ∧ t ≤ s.cfg.high ∧ s.zoneAt t = none
              ∧ (side = .left ∧ hi < t ∨ side = .right ∧ t < lo) ∧ s.permitted t = true) →
            (∀ t, P t → (∀ x, P x → max t s.own - min t s.own ≤ max x s.own - min x s.own) →
              (s.carryRelease side).cs.lone = some { owner := .retreat side, target := t }
              ∧ ((s.carryRelease side).zone side).progress = .retreating)
            ∧ ((∀ t, ¬ P t) → s.carryRelease side = s))
      ∧ ((lo ≤ s.own ∧ s.own ≤ hi) ∨ (∃ t, s.travelTarget = some t ∧ lo ≤ t ∧ t ≤ hi) → s.cs.lone ≠ none ∨ s.claimQueued = true →
          s.carryRelease side = s))
  ∧ ∀ (kind : FailKind) (o : OpenStream) (l : Lone) (s : State), s.ep.stream = some o → s.cs.lone = some l → l.placed = true →
      (s.portFails kind none).cs.lone = none ∧ (l.owner = .park → (s.portFails kind none).ws.park = .no)

/-- What WS may choose and what it chooses. A hole is eligible by its entry, the set order, clearance and its zone; the set order
holds when every hole of the group is drilled or beyond and the predecessor is terminal; the nearest eligible hole of the concern is
taken, the lower number at equal distance. A selection is made in WORKING, or for a DUE datum cycle in WAITING and FINISHED, with no
cycle, selection, lone motion (log entry 23) or park still owed (log entry 55) and no release DUE or RETREATING; it takes a DUE
datum cycle before a SET hole before a DRILL hole. A datum cycle may be chosen when it is DUE, every existing adjacent neighbour has
been heard, no conflict stands, and its rail target, the datum's plan x from the rail origin, lies outside the zones, in a held one
or in a FREE one; it counts as a cycle against pending requests. A datum cycle whose rail or cross target is out of reach raises
DATUM FAULT and waits 10 s for its retry, and no cycle opens. -/
def Obligations.SelectionRules : Prop :=
  (∀ (refused : List Side) (phase : Phase) (h : Nat) (rail cross : Int) (e : HoleEntry) (s : State),
      s.target? h = some (rail, cross) → s.ht[h]? = some e →
      ∀ P : Prop, (P ↔ (phase = .drill ∧ e.state = .planned ∨ phase = .set ∧ e.state = .drilled ∧ s.setOrder h = true)
            ∧ s.permitted rail.toNat = true
            ∧ ∀ side, s.zoneAt rail = some side →
                ((s.zone side).state = .heldOwn ∧ (s.zone side).progress = .no) ∨ ((s.zone side).state = .free ∧ side ∉ refused)) →
        (P → s.eligible refused phase h = some { claim := ⟨h, phase⟩, rail, cross, zone := s.zoneAt rail })
        ∧ (¬ P → s.eligible refused phase h = none))
  ∧ (∀ (h : Nat) (s : State), s.setOrder h = true ↔
      (∀ m ∈ s.ps.members h, ∃ e, s.ht[m]? = some e
        ∧ (e.state = .drilled ∨ e.state = .setClaimed ∨ e.state = .set ∨ e.state = .rejected))
      ∧ ∀ m, s.ps.predecessor h = some m → ∃ e, s.ht[m]? = some e ∧ (e.state = .set ∨ e.state = .rejected))
  ∧ (∀ (refused : List Side) (phase : Phase) (l : List Nat) (s : State), s.pu.concern = some l → l.Pairwise (· < ·) →
      (s.nearest refused phase = none → ∀ h ∈ l, s.eligible refused phase h = none)
      ∧ ∀ ch, s.nearest refused phase = some ch →
          ch.claim.phase = phase ∧ ch.claim.hole ∈ l ∧ s.eligible refused phase ch.claim.hole = some ch
          ∧ ∀ h ∈ l, ∀ x, s.eligible refused phase h = some x →
              (ch.rail - s.own).natAbs < (x.rail - s.own).natAbs
              ∨ (ch.rail - s.own).natAbs = (x.rail - s.own).natAbs ∧ ch.claim.hole ≤ h)
  ∧ (∀ s : State, s.maySelect = true ↔
      (s.ws.state = .working ∨ (s.ws.state = .waiting ∨ s.ws.state = .finished) ∧ s.proberStatus = some .due)
      ∧ s.cs.cycle = none ∧ s.ws.selection = none ∧ s.cs.lone = none
      ∧ ¬ (s.ws.state = .working ∧ s.ws.park = .waitingForClearance)
      ∧ s.zc.left.progress ≠ .due ∧ s.zc.left.progress ≠ .retreating
      ∧ s.zc.right.progress ≠ .due ∧ s.zc.right.progress ≠ .retreating)
  ∧ (∀ (refused : List Side) (t : Int × Int) (z : Option Side) (s : State),
      (s.datumTargets = some t ↔ ∃ h, s.ps.header = some h
        ∧ (s.cfg.role = .a ∧ t = ((s.cfg.railOrigin : Int) + h.xA, (s.cfg.crossOrigin : Int) + h.yA)
          ∨ s.cfg.role = .b ∧ t = ((s.cfg.railOrigin : Int) + h.xB, (s.cfg.crossOrigin : Int) + h.yB)))
      ∧ (s.datumChoice refused = some (t, z) ↔ s.proberStatus = some .due ∧ s.pt.conflict = false
        ∧ (∀ j, (j + 1 = s.k ∧ 1 ≤ j) ∨ (j = s.k + 1 ∧ s.k < s.cfg.stations) → (s.peer j).status ≠ .unknown)
        ∧ s.datumTargets = some t ∧ z = s.zoneAt t.1
        ∧ ∀ side, z = some side →
            ((s.zone side).state = .heldOwn ∧ (s.zone side).progress = .no) ∨ ((s.zone side).state = .free ∧ side ∉ refused)))
  ∧ ∀ s : State, (s.maySelect = false → s.stepSelect = s)
      ∧ (s.maySelect = true →
          (∀ t z, s.datumChoice [] = some (t, z) → s.zoneStands z = true → s.cfg.withinTravel t.1 = true →
            s.cfg.withinCross t.2 = true →
            s.stepSelect.cs.cycle = some (newCycle .datum t.1 t.2 z .moving) ∧ s.stepSelect.proberStatus = some .inCycle
            ∧ s.stepSelect.ws.selection = some { work := .datum, rail := t.1, cross := t.2, zone := z, stage := .inCycle }
            ∧ ∀ side, (s.stepSelect.zone side).cycles
              = if (s.zone side).pending = true then min 16 ((s.zone side).cycles + 1) else (s.zone side).cycles)
          ∧ (∀ t z, s.datumChoice [] = some (t, z) → s.zoneStands z = true →
              s.cfg.withinTravel t.1 = false ∨ s.cfg.withinCross t.2 = false →
              s.stepSelect.pu.prober = some ⟨.retryWait, some (s.clock + 10000), none⟩ ∧ s.stepSelect.cs = s.cs
              ∧ s.stepSelect.ws = s.ws ∧ s.stepSelect.lc = s.lc
              ∧ ∀ x, s.eu.sources[4]? = some x → s.stepSelect.eu.sources[4]?
                = some { pending := x.pending || decide (0 < s.levels.getD 4 0), count := min 255 (x.count + 1) })
          ∧ (∀ t side, s.datumChoice [] = some (t, some side) → (s.zone side).state = .free → (s.zone side).outstanding = .no →
              s.stepSelect.offered .zc (.zone side .seize) ∧ (s.stepSelect.zone side).outstanding = .seize
              ∧ s.stepSelect.ws.selection
                = some { work := .datum, rail := t.1, cross := t.2, zone := some side, stage := .seizeWait })
          ∧ (s.datumChoice [] = none → s.ws.state ≠ .working → s.stepSelect = s)
          ∧ (s.datumChoice [] = none → s.ws.state = .working →
              ∀ ch, s.nearest [] .set = some ch ∨ s.nearest [] .set = none ∧ s.nearest [] .drill = some ch →
                (s.zoneStands ch.zone = true → s.stepSelect = s.offerClaim ch)
                ∧ (∀ side, ch.zone = some side → (s.zone side).state = .free → (s.zone side).outstanding = .no →
                    s.stepSelect.offered .zc (.zone side .seize) ∧ (s.stepSelect.zone side).outstanding = .seize
                    ∧ s.stepSelect.ht = s.ht
                    ∧ s.stepSelect.ws.selection = some { work := .hole ch.claim, rail := ch.rail, cross := ch.cross,
                                                         zone := ch.zone, stage := .seizeWait }))
          ∧ (s.datumChoice [] = none → s.nearest [] .set = none → s.nearest [] .drill = none → s.stepSelect = s))

/-- From a choice to its CLAIM. WS offers the CLAIM unless one stands or LC has fewer than 4 free entries, and no entry changes;
the selection that waits for a seize is dropped when it is resolved; a queued CLAIM is looked at again only when its hole or zone
changed, and withdrawn when the hole's concern and state rows or its zone no longer stand: removed, or CLAIM WITHDRAWN while in
flight. WS wants a zone in WORKING for a concern hole in it whose state and set order allow a phase, and for the hole of its
queued CLAIM whose frozen target lies in it and whose state row holds, of the concern or not (log entry 61, DEDUCED), and in
WORKING, WAITING and FINISHED for a DUE datum cycle in it. ZC decides to release a held zone, no cycle being in flight, when WS no
longer wants it or a pending request has used up its quota. -/
def Obligations.ClaimsOfferedAndWithdrawn : Prop :=
  (∀ (ch : Choice) (s : State),
    (s.ws.claim ≠ none ∨ 16 < s.lc.queue.length + 4 → s.offerClaim ch = s)
    ∧ (s.ws.claim = none → s.lc.queue.length + 4 ≤ 16 →
        (s.offerClaim ch).offered .ws (.claim ch.claim) ∧ (s.offerClaim ch).ht = s.ht ∧ (s.offerClaim ch).ws.claim = none
        ∧ (s.offerClaim ch).ws.selection = some { work := .hole ch.claim, rail := ch.rail, cross := ch.cross, zone := ch.zone,
                                                  stage := .claimQueued, frameId := s.lc.nextId }))
  ∧ (∀ (x : Selection) (side : Side) (s : State), s.ws.selection = some x → x.stage = .seizeWait → x.zone = some side →
      s.stepSelection = if (s.zone side).outstanding = .seize then s else { s with ws.selection := none })
  ∧ (∀ (side : Side) (s : State), s.wants side = true ↔ ∃ lo hi : Nat, (s.zone side).bounds = some (lo, hi)
      ∧ ((s.ws.state = .working ∨ s.ws.state = .waiting ∨ s.ws.state = .finished) ∧ s.proberStatus = some .due
            ∧ (∃ t, s.datumTargets = some t ∧ (lo : Int) ≤ t.1 ∧ t.1 ≤ hi)
          ∨ s.ws.state = .working
            ∧ ((∃ l h t e, s.pu.concern = some l ∧ h ∈ l ∧ s.target? h = some t ∧ (lo : Int) ≤ t.1 ∧ t.1 ≤ hi
                ∧ s.ht[h]? = some e ∧ (e.state = .planned ∨ e.state = .drilled ∧ s.setOrder h = true))
              ∨ ∃ x c, s.ws.selection = some x ∧ x.stage = .claimQueued ∧ x.zone = some side ∧ x.work = .hole c
                ∧ (lo : Int) ≤ x.rail ∧ x.rail ≤ hi ∧ s.stateRow c = true)))
  ∧ (∀ (c : Claim) (z : Option Side) (s : State),
      (s.stateRow c = true ↔ ∃ e, s.ht[c.hole]? = some e
        ∧ (c.phase = .drill ∧ e.state = .planned ∨ c.phase = .set ∧ e.state = .drilled ∧ s.setOrder c.hole = true))
      ∧ (s.inConcern c.hole = true ↔ ∃ l, s.pu.concern = some l ∧ c.hole ∈ l)
      ∧ (s.zoneStands z = true ↔ ∀ side, z = some side → (s.zone side).state = .heldOwn ∧ (s.zone side).progress = .no))
  ∧ (∀ (side : Side) (s : State), (s.zone side).state = .heldOwn → (s.zone side).progress = .no →
      (s.cs.cycle = none → s.wants side = false →
        (s.considerRelease side).zone side = { (s.zone side) with progress := .due })
      ∧ (s.cs.cycle = none → (s.zone side).pending = true → s.cfg.quota ≤ (s.zone side).cycles →
        (s.considerRelease side).zone side = { (s.zone side) with progress := .due })
      ∧ (s.cs.cycle ≠ none ∨ s.wants side = true
          ∧ ((s.zone side).pending = false ∨ (s.zone side).cycles < s.cfg.quota) → s.considerRelease side = s))
  ∧ ∀ (x : Selection) (c : Claim) (s : State), s.ws.selection = some x → x.stage = .claimQueued → x.work = .hole c →
      (s.ws.retest = false → s.stepSelection = s)
      ∧ (s.inConcern c.hole = true → s.stateRow c = true → s.zoneStands x.zone = true → s.stepSelection = s)
      ∧ (s.ws.retest = true → s.inConcern c.hole = false ∨ s.stateRow c = false ∨ s.zoneStands x.zone = false →
          (s.inFlight x.frameId = true →
            s.stepSelection = { s with ws.selection := some { x with stage := .claimWithdrawn } })
          ∧ (s.inFlight x.frameId = false → x.frameId < s.lc.nextId → s.stepSelection.ws.selection = none
              ∧ ∀ f ∈ s.stepSelection.lc.queue ++ s.stepSelection.lc.held, f.id ≠ x.frameId))
end

