-- ==== Sys2Proof/Laws/Base.lean ====
section
/-! SUPPORT. The operations of frames, timers and the effector port leave the command queue, the setup, the plan and the service port alone. -/

namespace Sys2Proof.Machine

open Sys2Proof (Byte Word Data Stamp Datum Side Instr)

/-- The part of a state that only the service port, the tick and power-on change. -/
structure Base where
  pending : List Instr
  freeCount : Nat
  setup : Option Setup
  ps : PlanStore
  sp : ServicePort
  deriving DecidableEq, Repr

def State.base (s : State) : Base :=
  { pending := s.pending, freeCount := s.freeCount, setup := s.setup, ps := s.ps, sp := s.sp }

/-- A state written over another with these fields as they were. -/
@[simp] theorem State.base_mk (s : State) (n : Nat) (l : Lines) (ht : List HoleEntry) (pu : PositionUnit) (lc : LinkController)
    (pt : PeerTable) (zc : ZoneController) (ws : WorkSelector) (cs : CycleSequencer) (ep : EffectorPort)
    (sa : StackAnalyser) (du : DrawUnit) (eu : EventUnit) :
    State.base ⟨s.pending, n, s.freeCount, l, s.ps, s.setup, ht, pu, lc, pt, zc, ws, cs, ep, sa, du, eu, s.sp⟩ = s.base := rfl

/-- What each of a list of steps keeps, the steps together keep. -/
theorem foldl_base {α : Type} (f : State → α → State) (h : ∀ s x, (f s x).base = s.base) (l : List α) (s : State) :
    (l.foldl f s).base = s.base := by
  induction l generalizing s with
  | nil => rfl
  | cons a l ih => rw [List.foldl_cons, ih, h]

/-- What one step keeps, any number of them keeps. -/
theorem repeatState_base (f : State → State) (h : ∀ s, (f s).base = s.base) (n : Nat) (s : State) :
    (repeatState f n s).base = s.base := by
  induction n generalizing s with
  | zero => rfl
  | succ n ih => rw [repeatState, ih, h]


@[simp] theorem State.annunciate_base (s : State) : (State.annunciate s).base = s.base := by
  unfold State.annunciate
  simp

@[simp] theorem State.raise_base (e : EventSource) (s : State) : (State.raise e s).base = s.base := by
  unfold State.raise
  simp

@[simp] theorem State.acknowledge_base (s : State) : (State.acknowledge s).base = s.base := by
  unfold State.acknowledge
  dsimp only
  repeat' split
  all_goals simp

@[simp] theorem State.relevel_base (s : State) : (State.relevel s).base = s.base := by
  unfold State.relevel
  simp

@[simp] theorem State.clearEvents_base (s : State) : (State.clearEvents s).base = s.base := by
  unfold State.clearEvents
  simp

@[simp] theorem State.setWork_base (w : WorkState) (s : State) : (State.setWork w s).base = s.base := by
  unfold State.setWork
  simp

@[simp] theorem State.reach_base (t : Nat) (s : State) : (State.reach t s).base = s.base := by
  unfold State.reach
  simp

@[simp] theorem State.setPeer_base (j : Nat) (e : PeerEntry) (s : State) : (State.setPeer j e s).base = s.base := by
  unfold State.setPeer
  simp

@[simp] theorem State.putEntry_base (h : Nat) (e : HoleEntry) (s : State) :
    (State.putEntry h e s).base = s.base := by
  unfold State.putEntry
  repeat' split
  all_goals simp

@[simp] theorem State.mapEntries_base (f : HoleEntry → HoleEntry) (s : State) :
    (State.mapEntries f s).base = s.base := by
  unfold State.mapEntries
  apply foldl_base
  intro t n
  split
  all_goals simp

@[simp] theorem State.queueOwed_base (h : Nat) (s : State) : (State.queueOwed h s).base = s.base := by
  unfold State.queueOwed
  dsimp only
  repeat' split
  all_goals simp

@[simp] theorem State.admitOne_base (s : State) : (State.admitOne s).base = s.base := by
  unfold State.admitOne
  dsimp only
  repeat' split
  all_goals simp

@[simp] theorem State.admitHeld_base (s : State) : (State.admitHeld s).base = s.base := by
  exact repeatState_base _ State.admitOne_base _ s

@[simp] theorem State.offerOwed_base (s : State) : (State.offerOwed s).base = s.base := by
  unfold State.offerOwed
  dsimp only
  generalize hu : repeatState _ s.ht.length s = u
  have hk : u.base = s.base := by
    rw [← hu]
    apply repeatState_base
    intro t
    repeat' split
    all_goals simp
  repeat' split
  all_goals simp [hk]

@[simp] theorem State.offer_base (owner : Owner) (b : Body) (s : State) :
    (State.offer owner b s).base = s.base := by
  unfold State.offer
  dsimp only
  repeat' split
  all_goals simp

@[simp] theorem State.removeFrame_base (id : Nat) (s : State) : (State.removeFrame id s).base = s.base := by
  unfold State.removeFrame
  repeat' split
  all_goals simp

@[simp] theorem State.replaceFrame_base (id : Nat) (b : Body) (s : State) :
    (State.replaceFrame id b s).base = s.base := by
  unfold State.replaceFrame
  dsimp only
  repeat' split
  all_goals simp

@[simp] theorem State.voidInFlight_base (p : Body → Bool) (s : State) : (State.voidInFlight p s).base = s.base := by
  unfold State.voidInFlight
  repeat' split
  all_goals simp

@[simp] theorem State.reconcern_base (s : State) : (State.reconcern s).base = s.base := by
  unfold State.reconcern
  simp

@[simp] theorem State.setRecord_base (d : Datum) (r : DatumRecord) (s : State) :
    (State.setRecord d r s).base = s.base := by
  unfold State.setRecord
  repeat' split
  all_goals simp

@[simp] theorem State.computeCorrection_base (s : State) : (State.computeCorrection s).base = s.base := by
  unfold State.computeCorrection
  dsimp only
  repeat' split
  all_goals simp

@[simp] theorem State.applyDatum_base (d : Datum) (r q source : Nat) (stamp : Stamp) (s : State) :
    (State.applyDatum d r q source stamp s).base = s.base := by
  unfold State.applyDatum
  simp

@[simp] theorem State.dropDatums_base (s : State) : (State.dropDatums s).base = s.base := by
  unfold State.dropDatums
  simp

@[simp] theorem State.setProber_base (st : ProberStatus) (deadline : Option Nat) (measured : Option (Nat × Nat)) (s : State) :
    (State.setProber st deadline measured s).base = s.base := by
  unfold State.setProber
  repeat' split
  all_goals simp

@[simp] theorem State.proberDue_base (s : State) : (State.proberDue s).base = s.base := by
  unfold State.proberDue
  repeat' split
  all_goals simp

@[simp] theorem State.probeFailed_base (s : State) : (State.probeFailed s).base = s.base := by
  unfold State.probeFailed
  simp

@[simp] theorem State.expireDatum_base (d : Datum) (s : State) : (State.expireDatum d s).base = s.base := by
  unfold State.expireDatum
  dsimp only
  repeat' split
  all_goals simp

@[simp] theorem State.demand_base (p : Presence) (s : State) : (State.demand p s).base = s.base := by
  unfold State.demand
  dsimp only
  repeat' split
  all_goals simp

@[simp] theorem State.judgeDatum_base (rail cross : Nat) (kind : SenseKind) (dx dy : Int) (s : State) :
    (State.judgeDatum rail cross kind dx dy s).base = s.base := by
  unfold State.judgeDatum
  dsimp only
  repeat' split
  all_goals simp

@[simp] theorem State.datumBack_base (d : Datum) (r q : Nat) (stamp : Stamp) (s : State) :
    (State.datumBack d r q stamp s).base = s.base := by
  unfold State.datumBack
  dsimp only
  repeat' split
  all_goals simp

@[simp] theorem State.retry_base (s : State) : (State.retry s).base = s.base := by
  unfold State.retry
  repeat' split
  all_goals simp

@[simp] theorem State.removeDatums_base (s : State) : (State.removeDatums s).base = s.base := by
  unfold State.removeDatums
  exact foldl_base _ (fun t x => State.removeFrame_base x t) _ s

@[simp] theorem State.proberReset_base (s : State) : (State.proberReset s).base = s.base := by
  unfold State.proberReset
  repeat' split
  all_goals simp

@[simp] theorem State.presenceExpires_base (s : State) : (State.presenceExpires s).base = s.base := by
  unfold State.presenceExpires
  simp

@[simp] theorem State.beginAttempt_base (c : Candidate) (s : State) : (State.beginAttempt c s).base = s.base := by
  unfold State.beginAttempt
  dsimp only
  repeat' split
  all_goals simp

@[simp] theorem State.quietFor_base (quiet : Nat) (s : State) : (State.quietFor quiet s).base = s.base := by
  unfold State.quietFor
  repeat' split
  all_goals simp

@[simp] theorem State.transmit_base (quiet : Nat) (s : State) : (State.transmit quiet s).base = s.base := by
  unfold State.transmit
  dsimp only
  repeat' split
  all_goals simp

@[simp] theorem State.takeStamp_base (s : State) : (State.takeStamp s).base = s.base := by
  unfold State.takeStamp
  simp

@[simp] theorem State.readBackWhole_base (f : TxFrame) (s : State) : (State.readBackWhole f s).base = s.base := by
  unfold State.readBackWhole
  dsimp only
  simp

@[simp] theorem State.attemptEndsFailed_base (s : State) : (State.attemptEndsFailed s).base = s.base := by
  unfold State.attemptEndsFailed
  simp

@[simp] theorem State.linkFrameStart_base (s : State) : (State.linkFrameStart s).base = s.base := by
  unfold State.linkFrameStart
  simp

@[simp] theorem State.linkUnconfigured_base (s : State) : (State.linkUnconfigured s).base = s.base := by
  unfold State.linkUnconfigured
  simp

@[simp] theorem State.linkClear_base (s : State) : (State.linkClear s).base = s.base := by
  unfold State.linkClear
  simp

@[simp] theorem State.linkHalt_base (s : State) : (State.linkHalt s).base = s.base := by
  unfold State.linkHalt
  simp

@[simp] theorem State.linkStart_base (s : State) : (State.linkStart s).base = s.base := by
  unfold State.linkStart
  simp

@[simp] theorem State.putZone_base (side : Side) (z : ZoneRecord) (s : State) :
    (State.putZone side z s).base = s.base := by
  unfold State.putZone
  dsimp only
  repeat' split
  all_goals simp

@[simp] theorem State.onZone_base (side : Side) (f : ZoneRecord → ZoneRecord) (s : State) :
    (State.onZone side f s).base = s.base := by
  unfold State.onZone
  simp

@[simp] theorem State.evalConflict_base (s : State) : (State.evalConflict s).base = s.base := by
  unfold State.evalConflict
  dsimp only
  repeat' split
  all_goals simp

@[simp] theorem State.offerZone_base (side : Side) (a : ZoneAction) (s : State) :
    (State.offerZone side a s).base = s.base := by
  unfold State.offerZone
  simp

@[simp] theorem State.sendOutstanding_base (side : Side) (o : Outstanding) (a : ZoneAction) (s : State) :
    (State.sendOutstanding side o a s).base = s.base := by
  unfold State.sendOutstanding
  dsimp only
  simp

@[simp] theorem State.dropOutstanding_base (side : Side) (s : State) :
    (State.dropOutstanding side s).base = s.base := by
  unfold State.dropOutstanding
  dsimp only
  repeat' split
  all_goals simp

@[simp] theorem State.seizeToRequest_base (side : Side) (s : State) :
    (State.seizeToRequest side s).base = s.base := by
  unfold State.seizeToRequest
  dsimp only
  repeat' split
  all_goals simp

@[simp] theorem State.tidyOutstanding_base (side : Side) (st : ZoneState) (s : State) :
    (State.tidyOutstanding side st s).base = s.base := by
  unfold State.tidyOutstanding
  repeat' split
  all_goals simp

@[simp] theorem State.zoneTo_base (side : Side) (st : ZoneState) (s : State) :
    (State.zoneTo side st s).base = s.base := by
  unfold State.zoneTo
  dsimp only
  repeat' split
  all_goals simp

@[simp] theorem State.applyBlock_base (side : Side) (s : State) : (State.applyBlock side s).base = s.base := by
  unfold State.applyBlock
  repeat' split
  all_goals simp

@[simp] theorem State.zoneChange_base (side : Side) (st : ZoneState) (s : State) :
    (State.zoneChange side st s).base = s.base := by
  unfold State.zoneChange
  simp

@[simp] theorem State.rebound_base (side : Side) (s : State) : (State.rebound side s).base = s.base := by
  unfold State.rebound
  dsimp only
  repeat' split
  all_goals simp

@[simp] theorem State.holdZone_base (side : Side) (stamp : Stamp) (s : State) :
    (State.holdZone side stamp s).base = s.base := by
  unfold State.holdZone
  simp

@[simp] theorem State.hearSeize_base (side : Side) (s : State) : (State.hearSeize side s).base = s.base := by
  unfold State.hearSeize
  dsimp only
  repeat' split
  all_goals simp

@[simp] theorem State.hearRequest_base (side : Side) (s : State) : (State.hearRequest side s).base = s.base := by
  unfold State.hearRequest
  repeat' split
  all_goals simp

@[simp] theorem State.seizeRequested_base (side : Side) (s : State) :
    (State.seizeRequested side s).base = s.base := by
  unfold State.seizeRequested
  dsimp only
  repeat' split
  all_goals simp

@[simp] theorem State.hearRelease_base (side : Side) (s : State) : (State.hearRelease side s).base = s.base := by
  unfold State.hearRelease
  repeat' split
  all_goals simp

@[simp] theorem State.dualHold_base (side : Side) (s : State) : (State.dualHold side s).base = s.base := by
  unfold State.dualHold
  repeat' split
  all_goals simp

@[simp] theorem State.reconcileZone_base (side : Side) (s : State) :
    (State.reconcileZone side s).base = s.base := by
  unfold State.reconcileZone
  dsimp only
  repeat' split
  all_goals simp

@[simp] theorem State.neighbourSilent_base (side : Side) (s : State) :
    (State.neighbourSilent side s).base = s.base := by
  unfold State.neighbourSilent
  dsimp only
  repeat' split
  all_goals simp

@[simp] theorem State.outstandingBack_base (f : TxFrame) (side : Side) (s : State) :
    (State.outstandingBack f side s).base = s.base := by
  unfold State.outstandingBack
  repeat' split
  all_goals simp

@[simp] theorem State.seizeBack_base (f : TxFrame) (side : Side) (stamp : Stamp) (s : State) :
    (State.seizeBack f side stamp s).base = s.base := by
  unfold State.seizeBack
  dsimp only
  repeat' split
  all_goals simp

@[simp] theorem State.requestBack_base (f : TxFrame) (side : Side) (s : State) :
    (State.requestBack f side s).base = s.base := by
  unfold State.requestBack
  dsimp only
  repeat' split
  all_goals simp

@[simp] theorem State.releaseBack_base (side : Side) (s : State) : (State.releaseBack side s).base = s.base := by
  unfold State.releaseBack
  dsimp only
  repeat' split
  all_goals simp

@[simp] theorem State.yieldOver_base (side : Side) (s : State) : (State.yieldOver side s).base = s.base := by
  unfold State.yieldOver
  repeat' split
  all_goals simp

@[simp] theorem State.selfLapsed_base (side : Side) (s : State) : (State.selfLapsed side s).base = s.base := by
  unfold State.selfLapsed
  dsimp only
  repeat' split
  all_goals simp

@[simp] theorem State.countCycle_base (s : State) : (State.countCycle s).base = s.base := by
  unfold State.countCycle
  simp

@[simp] theorem State.considerRelease_base (side : Side) (s : State) :
    (State.considerRelease side s).base = s.base := by
  unfold State.considerRelease
  dsimp only
  repeat' split
  all_goals simp

@[simp] theorem State.carryRelease_base (side : Side) (s : State) : (State.carryRelease side s).base = s.base := by
  unfold State.carryRelease
  dsimp only
  repeat' split
  all_goals simp

@[simp] theorem State.retreatDone_base (side : Side) (s : State) : (State.retreatDone side s).base = s.base := by
  unfold State.retreatDone
  dsimp only
  repeat' split
  all_goals simp

@[simp] theorem State.withdrawRequest_base (side : Side) (s : State) :
    (State.withdrawRequest side s).base = s.base := by
  unfold State.withdrawRequest
  repeat' split
  all_goals simp

@[simp] theorem State.makeRequest_base (side : Side) (s : State) : (State.makeRequest side s).base = s.base := by
  unfold State.makeRequest
  dsimp only
  repeat' split
  all_goals simp

@[simp] theorem State.resetZone_base (side : Side) (s : State) : (State.resetZone side s).base = s.base := by
  unfold State.resetZone
  dsimp only
  repeat' split
  all_goals simp

@[simp] theorem State.giveUpZone_base (side : Side) (s : State) : (State.giveUpZone side s).base = s.base := by
  unfold State.giveUpZone
  dsimp only
  repeat' split
  all_goals simp

@[simp] theorem State.giveUpZones_base (s : State) : (State.giveUpZones s).base = s.base := by
  unfold State.giveUpZones
  simp

@[simp] theorem State.resetZones_base (s : State) : (State.resetZones s).base = s.base := by
  unfold State.resetZones
  simp

@[simp] theorem State.noZones_base (s : State) : (State.noZones s).base = s.base := by
  unfold State.noZones
  simp

@[simp] theorem State.clearZones_base (s : State) : (State.clearZones s).base = s.base := by
  unfold State.clearZones
  dsimp only
  repeat' split
  all_goals simp

@[simp] theorem State.setDraw_base (j : Nat) (e : Option DrawEntry) (s : State) :
    (State.setDraw j e s).base = s.base := by
  unfold State.setDraw
  simp

@[simp] theorem State.hearIntent_base (j amount hole : Nat) (stamp : Stamp) (s : State) :
    (State.hearIntent j amount hole stamp s).base = s.base := by
  unfold State.hearIntent
  repeat' split
  all_goals simp

@[simp] theorem State.offerDraw_base (a : DrawAction) (amount hole : Nat) (s : State) :
    (State.offerDraw a amount hole s).base = s.base := by
  unfold State.offerDraw
  simp

@[simp] theorem State.onIntent_base (f : OwnIntent → OwnIntent) (s : State) :
    (State.onIntent f s).base = s.base := by
  unfold State.onIntent
  simp

@[simp] theorem State.queueIntent_base (s : State) : (State.queueIntent s).base = s.base := by
  unfold State.queueIntent
  dsimp only
  simp

@[simp] theorem State.beginDraw_base (hole amount : Nat) (s : State) :
    (State.beginDraw hole amount s).base = s.base := by
  unfold State.beginDraw
  simp

@[simp] theorem State.withdraw_base (s : State) : (State.withdraw s).base = s.base := by
  unfold State.withdraw
  dsimp only
  simp

@[simp] theorem State.freshIntent_base (s : State) : (State.freshIntent s).base = s.base := by
  unfold State.freshIntent
  repeat' split
  all_goals simp

@[simp] theorem State.removal_base (s : State) : (State.removal s).base = s.base := by
  unfold State.removal
  repeat' split
  all_goals simp

@[simp] theorem State.emptyDraw_base (j : Nat) (s : State) : (State.emptyDraw j s).base = s.base := by
  unfold State.emptyDraw
  repeat' split
  all_goals simp

@[simp] theorem State.askPressure_base (s : State) : (State.askPressure s).base = s.base := by
  unfold State.askPressure
  simp

@[simp] theorem State.decideDraw_base (s : State) : (State.decideDraw s).base = s.base := by
  unfold State.decideDraw
  repeat' split
  all_goals simp

@[simp] theorem State.supplyFails_base (s : State) : (State.supplyFails s).base = s.base := by
  unfold State.supplyFails
  dsimp only
  simp

@[simp] theorem State.intentBack_base (f : TxFrame) (amount hole : Nat) (stamp : Stamp) (s : State) :
    (State.intentBack f amount hole stamp s).base = s.base := by
  unfold State.intentBack
  dsimp only
  repeat' split
  all_goals simp

@[simp] theorem State.announceBack_base (f : TxFrame) (s : State) : (State.announceBack f s).base = s.base := by
  unfold State.announceBack
  repeat' split
  all_goals simp

@[simp] theorem State.squeezeClosed_base (normally : Bool) (s : State) :
    (State.squeezeClosed normally s).base = s.base := by
  unfold State.squeezeClosed
  dsimp only
  repeat' split
  all_goals simp

@[simp] theorem State.giveUpIntent_base (s : State) : (State.giveUpIntent s).base = s.base := by
  unfold State.giveUpIntent
  dsimp only
  repeat' split
  all_goals simp

@[simp] theorem State.clearDraw_base (s : State) : (State.clearDraw s).base = s.base := by
  unfold State.clearDraw
  dsimp only
  repeat' split
  all_goals simp

@[simp] theorem State.resetDraw_base (s : State) : (State.resetDraw s).base = s.base := by
  unfold State.resetDraw
  simp

@[simp] theorem State.applyToEntry_base (h : Heard) (s : State) : (State.applyToEntry h s).base = s.base := by
  unfold State.applyToEntry
  repeat' split
  all_goals simp

@[simp] theorem State.applyHeld_base (h : Heard) (s : State) : (State.applyHeld h s).base = s.base := by
  unfold State.applyHeld
  repeat' split
  all_goals simp

@[simp] theorem State.reconcileClaims_base (j : Nat) (claim : Option Claim) (s : State) :
    (State.reconcileClaims j claim s).base = s.base := by
  unfold State.reconcileClaims
  split
  · rfl
  apply foldl_base
  intro t n
  repeat' split
  all_goals simp

@[simp] theorem State.oweCorrection_base (n : Nat) (s : State) : (State.oweCorrection n s).base = s.base := by
  unfold State.oweCorrection
  repeat' split
  all_goals simp

@[simp] theorem State.setCycle_base (cy : Cycle) (s : State) : (State.setCycle cy s).base = s.base := by
  unfold State.setCycle
  simp

@[simp] theorem State.onCycle_base (f : Cycle → Cycle) (s : State) : (State.onCycle f s).base = s.base := by
  unfold State.onCycle
  simp

@[simp] theorem State.takeEnding_base (cause : EndCause) (through : Bool) (s : State) :
    (State.takeEnding cause through s).base = s.base := by
  unfold State.takeEnding
  dsimp only
  repeat' split
  all_goals simp

@[simp] theorem State.writeOutcome_base (c : Claim) (o : CycleOutcome) (frame : Bool) (s : State) :
    (State.writeOutcome c o frame s).base = s.base := by
  unfold State.writeOutcome
  dsimp only
  repeat' split
  all_goals simp

@[simp] theorem State.revertOwn_base (h : Nat) (s : State) : (State.revertOwn h s).base = s.base := by
  unfold State.revertOwn
  repeat' split
  all_goals simp

@[simp] theorem State.endCycle_base (s : State) : (State.endCycle s).base = s.base := by
  unfold State.endCycle
  dsimp only
  have h := foldl_base (fun t x => State.applyToEntry x t) (fun t x => State.applyToEntry_base x t)
  repeat' split
  all_goals simp [h]

@[simp] theorem State.finishEnding_base (cy : Cycle) (e : Ending) (s : State) :
    (State.finishEnding cy e s).base = s.base := by
  unfold State.finishEnding
  dsimp only
  repeat' split
  all_goals simp

@[simp] theorem State.finishReporting_base (cy : Cycle) (s : State) :
    (State.finishReporting cy s).base = s.base := by
  unfold State.finishReporting
  repeat' split
  all_goals simp

@[simp] theorem State.haltCycle_base (s : State) : (State.haltCycle s).base = s.base := by
  unfold State.haltCycle
  dsimp only
  repeat' split
  all_goals simp

@[simp] theorem State.commandDone_base (c : Command) (stopped : Bool) (s : State) :
    (State.commandDone c stopped s).base = s.base := by
  unfold State.commandDone
  dsimp only
  repeat' split
  all_goals simp

@[simp] theorem State.chooseGrip_base (stack : Nat) (cy : Cycle) (s : State) :
    (State.chooseGrip stack cy s).base = s.base := by
  unfold State.chooseGrip
  repeat' split
  all_goals simp

@[simp] theorem State.proceedSet_base (h : Nat) (cy : Cycle) (s : State) :
    (State.proceedSet h cy s).base = s.base := by
  unfold State.proceedSet
  repeat' split
  all_goals simp

@[simp] theorem State.reposition_base (kind : SenseKind) (dx dy : Int) (cy : Cycle) (s : State) :
    (State.reposition kind dx dy cy s).base = s.base := by
  unfold State.reposition
  dsimp only
  repeat' split
  all_goals simp

@[simp] theorem State.judgeSense_base (c : Claim) (kind : SenseKind) (dx dy : Int) (cy : Cycle) (s : State) :
    (State.judgeSense c kind dx dy cy s).base = s.base := by
  unfold State.judgeSense
  dsimp only
  repeat' split
  all_goals simp

@[simp] theorem State.senseDone_base (kind : SenseKind) (dx dy : Int) (s : State) :
    (State.senseDone kind dx dy s).base = s.base := by
  unfold State.senseDone
  repeat' split
  all_goals simp

@[simp] theorem State.gaugeDone_base (v : Nat) (s : State) : (State.gaugeDone v s).base = s.base := by
  unfold State.gaugeDone
  dsimp only
  repeat' split
  all_goals simp

@[simp] theorem State.drillDone_base (s : State) : (State.drillDone s).base = s.base := by
  unfold State.drillDone
  dsimp only
  repeat' split
  all_goals simp

@[simp] theorem State.thrustSample_base (v : Nat) (s : State) : (State.thrustSample v s).base = s.base := by
  unfold State.thrustSample
  dsimp only
  repeat' split
  all_goals simp

@[simp] theorem State.squeezeEnds_base (o : CycleOutcome) (normally : Bool) (s : State) :
    (State.squeezeEnds o normally s).base = s.base := by
  unfold State.squeezeEnds
  dsimp only
  simp

@[simp] theorem State.squeezeDone_base (peak stroke : Nat) (s : State) :
    (State.squeezeDone peak stroke s).base = s.base := by
  unfold State.squeezeDone
  repeat' split
  all_goals simp

@[simp] theorem State.cycleFails_base (placed : List Command) (s : State) :
    (State.cycleFails placed s).base = s.base := by
  unfold State.cycleFails
  dsimp only
  repeat' split
  all_goals simp

@[simp] theorem State.placeHalt_base (s : State) : (State.placeHalt s).base = s.base := by
  unfold State.placeHalt
  simp

@[simp] theorem State.lowerFlag_base (s : State) : (State.lowerFlag s).base = s.base := by
  unfold State.lowerFlag
  repeat' split
  all_goals simp

@[simp] theorem State.haltPort_base (s : State) : (State.haltPort s).base = s.base := by
  unfold State.haltPort
  dsimp only
  repeat' split
  all_goals simp

@[simp] theorem State.dropSelection_base (s : State) : (State.dropSelection s).base = s.base := by
  unfold State.dropSelection
  repeat' split
  all_goals simp

@[simp] theorem State.endLone_base (how : LoneEnd) (s : State) : (State.endLone how s).base = s.base := by
  unfold State.endLone
  repeat' split
  all_goals simp

@[simp] theorem State.recordCause_base (src : FaultSource) (s : State) :
    (State.recordCause src s).base = s.base := by
  unfold State.recordCause
  simp

@[simp] theorem State.enterFaulted_base (src : FaultSource) (s : State) :
    (State.enterFaulted src s).base = s.base := by
  unfold State.enterFaulted
  dsimp only
  repeat' split
  all_goals simp

@[simp] theorem State.enterHalted_base (src : FaultSource) (s : State) :
    (State.enterHalted src s).base = s.base := by
  unfold State.enterHalted
  dsimp only
  repeat' split
  all_goals simp

@[simp] theorem State.clearanceHalt_base (c : HaltCheck) (s : State) : (State.clearanceHalt c s).base = s.base := by
  unfold State.clearanceHalt
  simp

@[simp] theorem State.raiseFault_base (e : EventSource) (src : FaultSource) (s : State) :
    (State.raiseFault e src s).base = s.base := by
  unfold State.raiseFault
  simp

@[simp] theorem State.frameCycleStart_base (s : State) : (State.frameCycleStart s).base = s.base := by
  unfold State.frameCycleStart
  dsimp only
  simp

@[simp] theorem State.jigCloses_base (s : State) : (State.jigCloses s).base = s.base := by
  unfold State.jigCloses
  dsimp only
  repeat' split
  all_goals simp

@[simp] theorem State.toIdle_base (s : State) : (State.toIdle s).base = s.base := by
  unfold State.toIdle
  simp

@[simp] theorem State.jigOpens_base (s : State) : (State.jigOpens s).base = s.base := by
  unfold State.jigOpens
  dsimp only
  repeat' split
  all_goals simp

@[simp] theorem State.land_base (s : State) : (State.land s).base = s.base := by
  unfold State.land
  repeat' split
  all_goals simp

@[simp] theorem State.clearThrough_base (s : State) : (State.clearThrough s).base = s.base := by
  unfold State.clearThrough
  simp

@[simp] theorem State.forgetPeers_base (s : State) : (State.forgetPeers s).base = s.base := by
  unfold State.forgetPeers
  simp

@[simp] theorem State.stationClear_base (s : State) : (State.stationClear s).base = s.base := by
  unfold State.stationClear
  dsimp only
  repeat' split
  all_goals simp

@[simp] theorem State.enterUnconfigured_base (s : State) : (State.enterUnconfigured s).base = s.base := by
  unfold State.enterUnconfigured
  dsimp only
  simp

@[simp] theorem State.passToIdle_base (s : State) : (State.passToIdle s).base = s.base := by
  unfold State.passToIdle
  dsimp only
  repeat' split
  all_goals simp

@[simp] theorem State.configured_base (s : State) : (State.configured s).base = s.base := by
  unfold State.configured
  repeat' split
  all_goals simp

@[simp] theorem State.closeFailed_base (s : State) : (State.closeFailed s).base = s.base := by
  unfold State.closeFailed
  simp

@[simp] theorem State.loneFails_base (s : State) : (State.loneFails s).base = s.base := by
  unfold State.loneFails
  dsimp only
  repeat' split
  all_goals simp

@[simp] theorem State.effectorFault_base (kind : FailKind) (deadly : Bool) (s : State) :
    (State.effectorFault kind deadly s).base = s.base := by
  unfold State.effectorFault
  dsimp only
  repeat' split
  all_goals simp

@[simp] theorem State.portFails_base (kind : FailKind) (extra : Option Command) (s : State) :
    (State.portFails kind extra s).base = s.base := by
  unfold State.portFails
  dsimp only
  repeat' split
  all_goals simp

@[simp] theorem State.raiseFlag_base (w : Word) (s : State) : (State.raiseFlag w s).base = s.base := by
  unfold State.raiseFlag
  simp

@[simp] theorem State.placeCommand_base (c : Command) (u : PortUser) (s : State) :
    (State.placeCommand c u s).base = s.base := by
  unfold State.placeCommand
  repeat' split
  all_goals simp

@[simp] theorem State.commandTaken_base (c : Command) (u : PortUser) (s : State) :
    (State.commandTaken c u s).base = s.base := by
  unfold State.commandTaken
  dsimp only
  repeat' split
  all_goals simp

@[simp] theorem State.resumeRises_base (s : State) : (State.resumeRises s).base = s.base := by
  unfold State.resumeRises
  dsimp only
  repeat' split
  all_goals simp

@[simp] theorem State.resumeFalls_base (s : State) : (State.resumeFalls s).base = s.base := by
  unfold State.resumeFalls
  dsimp only
  repeat' split
  all_goals simp

@[simp] theorem State.responseLate_base (s : State) : (State.responseLate s).base = s.base := by
  unfold State.responseLate
  dsimp only
  repeat' split
  all_goals simp

@[simp] theorem State.completionLate_base (s : State) : (State.completionLate s).base = s.base := by
  unfold State.completionLate
  repeat' split
  all_goals simp

@[simp] theorem State.readyFalls_base (width : Nat) (s : State) : (State.readyFalls width s).base = s.base := by
  unfold State.readyFalls
  dsimp only
  repeat' split
  all_goals simp

@[simp] theorem State.closeStream_base (s : State) : (State.closeStream s).base = s.base := by
  unfold State.closeStream
  simp

@[simp] theorem State.travelCloses_base (t : Nat) (stream : OpenStream) (stopped : Bool) (s : State) :
    (State.travelCloses t stream stopped s).base = s.base := by
  unfold State.travelCloses
  repeat' split
  all_goals simp

@[simp] theorem State.loneDone_base (stopped : Bool) (s : State) : (State.loneDone stopped s).base = s.base := by
  unfold State.loneDone
  repeat' split
  all_goals simp

@[simp] theorem State.doneCloses_base (st : OpenStream) (s : State) : (State.doneCloses st s).base = s.base := by
  unfold State.doneCloses
  dsimp only
  repeat' split
  all_goals simp

@[simp] theorem State.stopCycleTravel_base (s : State) : (State.stopCycleTravel s).base = s.base := by
  unfold State.stopCycleTravel
  repeat' split
  all_goals simp

@[simp] theorem State.stopLoneTravel_base (s : State) : (State.stopLoneTravel s).base = s.base := by
  unfold State.stopLoneTravel
  repeat' split
  all_goals simp

@[simp] theorem State.clearanceStop_base (s : State) : (State.clearanceStop s).base = s.base := by
  unfold State.clearanceStop
  simp

@[simp] theorem State.clearanceChecks_base (s : State) : (State.clearanceChecks s).base = s.base := by
  unfold State.clearanceChecks
  repeat' split
  all_goals simp

@[simp] theorem State.positionHeard_base (st : OpenStream) (p : Nat) (s : State) :
    (State.positionHeard st p s).base = s.base := by
  unfold State.positionHeard
  dsimp only
  repeat' split
  all_goals simp

@[simp] theorem State.supplyFaulted_base (s : State) : (State.supplyFaulted s).base = s.base := by
  unfold State.supplyFaulted
  repeat' split
  all_goals simp

@[simp] theorem State.judgePressure_base (v : Nat) (s : State) : (State.judgePressure v s).1.base = s.base := by
  unfold State.judgePressure
  dsimp only
  repeat' split
  all_goals simp

@[simp] theorem State.pressureDone_base (v : Nat) (s : State) : (State.pressureDone v s).1.base = s.base := by
  unfold State.pressureDone
  simp

@[simp] theorem State.acceptReport_base (st : OpenStream) (d : Data) (w : Accepted) (s : State) :
    (State.acceptReport st d w s).base = s.base := by
  unfold State.acceptReport
  dsimp only
  repeat' split
  all_goals simp

@[simp] theorem State.judgeWord_base (tag : Nat) (d : Data) (mark : Bool) (s : State) :
    (State.judgeWord tag d mark s).base = s.base := by
  unfold State.judgeWord
  repeat' split
  all_goals simp

@[simp] theorem State.takeWord_base (tag : Nat) (d : Data) (mark : Bool) (s : State) :
    (State.takeWord tag d mark s).base = s.base := by
  unfold State.takeWord
  simp

@[simp] theorem State.placeForCycle_base (c : Command) (f : Cycle → Cycle) (s : State) :
    (State.placeForCycle c f s).base = s.base := by
  unfold State.placeForCycle
  simp

@[simp] theorem State.tryTravel_base (t : Nat) (asked : Bool) (s : State) :
    (State.tryTravel t asked s).base = s.base := by
  unfold State.tryTravel
  dsimp only
  repeat' split
  all_goals simp

@[simp] theorem State.tryDrill_base (s : State) : (State.tryDrill s).base = s.base := by
  unfold State.tryDrill
  repeat' split
  all_goals simp

@[simp] theorem State.trySqueeze_base (cy : Cycle) (s : State) : (State.trySqueeze cy s).base = s.base := by
  unfold State.trySqueeze
  dsimp only
  repeat' split
  all_goals simp

@[simp] theorem State.tryPoll_base (s : State) : (State.tryPoll s).base = s.base := by
  unfold State.tryPoll
  repeat' split
  all_goals simp

@[simp] theorem State.tryTask_base (c : Command) (asked : Bool) (s : State) :
    (State.tryTask c asked s).base = s.base := by
  unfold State.tryTask
  repeat' split
  all_goals simp

@[simp] theorem State.carryCycle_base (cy : Cycle) (s : State) : (State.carryCycle cy s).base = s.base := by
  unfold State.carryCycle
  repeat' split
  all_goals simp

@[simp] theorem State.placeInterject_base (s : State) : (State.placeInterject s).base = s.base := by
  unfold State.placeInterject
  dsimp only
  repeat' split
  all_goals simp

@[simp] theorem State.windCycle_base (cy : Cycle) (e : Ending) (s : State) :
    (State.windCycle cy e s).base = s.base := by
  unfold State.windCycle
  dsimp only
  repeat' split
  all_goals simp

@[simp] theorem State.stepCycle_base (s : State) : (State.stepCycle s).base = s.base := by
  unfold State.stepCycle
  repeat' split
  all_goals simp

@[simp] theorem State.stepLone_base (s : State) : (State.stepLone s).base = s.base := by
  unfold State.stepLone
  repeat' split
  all_goals simp

@[simp] theorem State.stepPark_base (s : State) : (State.stepPark s).base = s.base := by
  unfold State.stepPark
  dsimp only
  repeat' split
  all_goals simp

@[simp] theorem State.stepSelection_base (s : State) : (State.stepSelection s).base = s.base := by
  unfold State.stepSelection
  repeat' split
  all_goals simp

@[simp] theorem State.toWorking_base (s : State) : (State.toWorking s).base = s.base := by
  unfold State.toWorking
  dsimp only
  repeat' split
  all_goals simp

@[simp] theorem State.stepConditions_base (s : State) : (State.stepConditions s).base = s.base := by
  unfold State.stepConditions
  repeat' split
  all_goals simp

@[simp] theorem State.toFinished_base (s : State) : (State.toFinished s).base = s.base := by
  unfold State.toFinished
  dsimp only
  repeat' split
  all_goals simp

@[simp] theorem State.stepFinish_base (s : State) : (State.stepFinish s).base = s.base := by
  unfold State.stepFinish
  repeat' split
  all_goals simp

@[simp] theorem State.stepZone_base (side : Side) (s : State) : (State.stepZone side s).base = s.base := by
  unfold State.stepZone
  simp

@[simp] theorem State.stepZones_base (s : State) : (State.stepZones s).base = s.base := by
  unfold State.stepZones
  simp

@[simp] theorem State.stepRequests_base (s : State) : (State.stepRequests s).base = s.base := by
  unfold State.stepRequests
  simp

@[simp] theorem State.offerClaim_base (ch : Choice) (s : State) : (State.offerClaim ch s).base = s.base := by
  unfold State.offerClaim
  dsimp only
  repeat' split
  all_goals simp

@[simp] theorem State.takeDatum_base (t : Int × Int) (z : Option Side) (s : State) :
    (State.takeDatum t z s).base = s.base := by
  unfold State.takeDatum
  repeat' split
  all_goals simp

theorem State.askSeize_base {side : Side} {sel : Selection} {s t : State} (h : s.askSeize side sel = some t) :
    t.base = s.base := by
  unfold State.askSeize at h
  split at h <;> cases h <;> simp

@[simp] theorem State.takeChoice_base (ch : Choice) (s : State) : (State.takeChoice ch s).1.base = s.base := by
  unfold State.takeChoice
  repeat' split
  all_goals simp
  exact State.askSeize_base ‹_›

@[simp] theorem State.choose_base (refused : List Side) (s : State) : (State.choose refused s).1.base = s.base := by
  unfold State.choose
  repeat' split
  all_goals simp
  exact State.askSeize_base ‹_›

@[simp] theorem State.select_base (n : Nat) (refused : List Side) (s : State) : (State.select n refused s).base = s.base := by
  induction n generalizing refused s with
  | zero => rfl
  | succ n ih =>
    have h := State.choose_base refused s
    unfold State.select
    split <;> simp_all

@[simp] theorem State.stepSelect_base (s : State) : (State.stepSelect s).base = s.base := by
  unfold State.stepSelect
  split <;> simp

@[simp] theorem State.settleOnce_base (s : State) : (State.settleOnce s).base = s.base := by
  unfold State.settleOnce
  dsimp only
  repeat' split
  all_goals simp

@[simp] theorem State.settleConflict_base (h : Heard) (n : Nat) (s : State) :
    (State.settleConflict h n s).base = s.base := by
  unfold State.settleConflict
  repeat' split
  all_goals simp

@[simp] theorem State.hearHole_base (h : Heard) (s : State) : (State.hearHole h s).base = s.base := by
  unfold State.hearHole
  repeat' split
  all_goals simp

@[simp] theorem State.planMismatch_base (j : Nat) (p : Presence) (s : State) :
    (State.planMismatch j p s).base = s.base := by
  unfold State.planMismatch
  dsimp only
  repeat' split
  all_goals simp

@[simp] theorem State.hearPresence_base (j : Nat) (p : Presence) (s : State) :
    (State.hearPresence j p s).base = s.base := by
  unfold State.hearPresence
  dsimp only
  repeat' split
  all_goals simp

@[simp] theorem State.dispatchKind_base (j : Nat) (b : Body) (stamp : Stamp) (s : State) :
    (State.dispatchKind j b stamp s).base = s.base := by
  unfold State.dispatchKind
  repeat' split
  all_goals simp

@[simp] theorem State.dispatch_base (j : Nat) (b : Body) (s : State) : (State.dispatch j b s).base = s.base := by
  unfold State.dispatch
  repeat' split
  all_goals simp

@[simp] theorem State.hearForeign_base (s : State) : (State.hearForeign s).base = s.base := by
  unfold State.hearForeign
  simp

@[simp] theorem State.receive_base (bytes : List Byte) (s : State) : (State.receive bytes s).base = s.base := by
  unfold State.receive
  repeat' split
  all_goals simp

@[simp] theorem State.hearFrame_base (bytes : List Byte) (s : State) : (State.hearFrame bytes s).base = s.base := by
  unfold State.hearFrame
  dsimp only
  repeat' split
  all_goals simp

@[simp] theorem State.closeClaim_base (f : TxFrame) (s : State) : (State.closeClaim f s).base = s.base := by
  unfold State.closeClaim
  repeat' split
  all_goals simp

@[simp] theorem State.confirmClaim_base (sel : Selection) (c : Claim) (e : HoleEntry) (stamp : Stamp) (s : State) :
    (State.confirmClaim sel c e stamp s).base = s.base := by
  unfold State.confirmClaim
  dsimp only
  repeat' split
  all_goals simp

@[simp] theorem State.claimBack_base (f : TxFrame) (c : Claim) (stamp : Stamp) (s : State) :
    (State.claimBack f c stamp s).base = s.base := by
  unfold State.claimBack
  dsimp only
  repeat' split
  all_goals simp

@[simp] theorem State.presenceBack_base (s : State) : (State.presenceBack s).base = s.base := by
  unfold State.presenceBack
  simp

@[simp] theorem State.ownerBack_base (f : TxFrame) (s : State) : (State.ownerBack f s).base = s.base := by
  unfold State.ownerBack
  repeat' split
  all_goals simp

@[simp] theorem State.readBack_base (named : Body → Bool) (s : State) : (State.readBack named s).base = s.base := by
  unfold State.readBack
  repeat' split
  all_goals simp

@[simp] theorem State.retryWithdrawal_base (s : State) : (State.retryWithdrawal s).base = s.base := by
  unfold State.retryWithdrawal
  repeat' split
  all_goals simp

@[simp] theorem State.failAttempt_base (s : State) : (State.failAttempt s).base = s.base := by
  unfold State.failAttempt
  dsimp only
  repeat' split
  all_goals simp

@[simp] theorem State.silence_base (j : Nat) (s : State) : (State.silence j s).base = s.base := by
  unfold State.silence
  dsimp only
  repeat' split
  all_goals simp

@[simp] theorem State.lose_base (j : Nat) (s : State) : (State.lose j s).base = s.base := by
  unfold State.lose
  dsimp only
  repeat' split
  all_goals simp

/-- A timer keeps what its effect keeps. -/
theorem State.expire_base (due : Option Nat) {effect : State → State} (h : ∀ s, (effect s).base = s.base) (s : State) :
    (State.expire due effect s).base = s.base := by
  unfold State.expire
  split <;> simp [h]

@[simp] theorem State.limitPasses_base (s : State) : (State.limitPasses s).base = s.base := by
  unfold State.limitPasses
  simp

@[simp] theorem State.renewIntent_base (s : State) : (State.renewIntent s).base = s.base := by
  unfold State.renewIntent
  simp

@[simp] theorem State.loseAfterSilence_base (j : Nat) (s : State) : (State.loseAfterSilence j s).base = s.base := by
  unfold State.loseAfterSilence
  repeat' split
  all_goals simp

end Sys2Proof.Machine
end

