-- ==== Sys2Proof/Laws/Kept.lean ====
section
/-! SUPPORT. What the operations that follow a command at once leave alone. -/

namespace Sys2Proof.Machine

open Sys2Proof (Byte Word Data Stamp Datum Side Instr)

/-- The part of a state that no operation of a settling pass changes. -/
structure Kept where
  pending : List Instr
  clock : Nat
  freeCount : Nat
  setup : Option Setup
  ps : PlanStore
  sp : ServicePort
  peers : List PeerEntry
  conflict : Bool
  datumA : DatumRecord
  datumB : DatumRecord
  correction : Option Correction
  concern : Option (List Nat)
  jigClosed : Bool
  resume : Bool
  reportFlag : Bool
  mark : Bool
  readyLowUntil : Nat
  stamp : Stamp
  failures : Nat
  recovery : Bool
  rxBuffer : List Byte
  foreignTime : Option Nat
  ownPos : Option Nat
  taken : Bool
  holes : Nat
  deriving DecidableEq, Repr

def State.kept (s : State) : Kept :=
  { pending := s.pending, clock := s.clock, freeCount := s.freeCount, setup := s.setup, ps := s.ps, sp := s.sp,
    peers := s.pt.peers, conflict := s.pt.conflict, datumA := s.pu.datumA, datumB := s.pu.datumB,
    correction := s.pu.correction, concern := s.pu.concern, jigClosed := s.lines.jigClosed, resume := s.lines.resume,
    reportFlag := s.lines.reportFlag, mark := s.lines.mark, readyLowUntil := s.lines.readyLowUntil,
    stamp := s.lc.stamp, failures := s.lc.failures, recovery := s.lc.recovery, rxBuffer := s.lc.rxBuffer,
    foreignTime := s.lc.foreignTime, ownPos := s.ep.ownPos, taken := s.ep.taken, holes := s.ht.length }

/-- A state written over another with the kept fields of its parts as they were. -/
@[simp] theorem State.kept_mk (s : State) (l : Lines) (ht : List HoleEntry) (pu : PositionUnit) (lc : LinkController) (pt : PeerTable)
    (zc : ZoneController) (ws : WorkSelector) (cs : CycleSequencer) (ep : EffectorPort) (sa : StackAnalyser)
    (du : DrawUnit) (eu : EventUnit)
    (h1 : l.jigClosed = s.lines.jigClosed) (h2 : l.resume = s.lines.resume) (h3 : l.reportFlag = s.lines.reportFlag)
    (h4 : l.mark = s.lines.mark) (h5 : l.readyLowUntil = s.lines.readyLowUntil) (h6 : ht.length = s.ht.length)
    (h7 : pu.datumA = s.pu.datumA) (h8 : pu.datumB = s.pu.datumB) (h9 : pu.correction = s.pu.correction)
    (h10 : pu.concern = s.pu.concern) (h11 : lc.stamp = s.lc.stamp) (h12 : lc.failures = s.lc.failures)
    (h13 : lc.recovery = s.lc.recovery) (h14 : lc.rxBuffer = s.lc.rxBuffer) (h15 : lc.foreignTime = s.lc.foreignTime)
    (h16 : pt.peers = s.pt.peers) (h17 : pt.conflict = s.pt.conflict) (h18 : ep.ownPos = s.ep.ownPos)
    (h19 : ep.taken = s.ep.taken) :
    State.kept ⟨s.pending, s.clock, s.freeCount, l, s.ps, s.setup, ht, pu, lc, pt, zc, ws, cs, ep, sa, du, eu, s.sp⟩ = s.kept := by
  simp [State.kept, *]

/-- What each of a list of steps keeps, the steps together keep. -/
theorem foldl_kept {α : Type} (f : State → α → State) (h : ∀ s x, (f s x).kept = s.kept) (l : List α) (s : State) :
    (l.foldl f s).kept = s.kept := by
  induction l generalizing s with
  | nil => rfl
  | cons a l ih => rw [List.foldl_cons, ih, h]

/-- What one step keeps, any number of them keeps. -/
theorem repeatState_kept (f : State → State) (h : ∀ s, (f s).kept = s.kept) (n : Nat) (s : State) :
    (repeatState f n s).kept = s.kept := by
  induction n generalizing s with
  | zero => rfl
  | succ n ih => rw [repeatState, ih, h]


@[simp] theorem State.annunciate_kept (s : State) : (State.annunciate s).kept = s.kept := by
  unfold State.annunciate
  simp

@[simp] theorem State.raise_kept (e : EventSource) (s : State) : (State.raise e s).kept = s.kept := by
  unfold State.raise
  simp

@[simp] theorem State.setWork_kept (w : WorkState) (s : State) : (State.setWork w s).kept = s.kept := by
  unfold State.setWork
  simp

@[simp] theorem State.putEntry_kept (h : Nat) (e : HoleEntry) (s : State) :
    (State.putEntry h e s).kept = s.kept := by
  unfold State.putEntry
  repeat' split
  all_goals simp

@[simp] theorem State.queueOwed_kept (h : Nat) (s : State) : (State.queueOwed h s).kept = s.kept := by
  unfold State.queueOwed
  dsimp only
  repeat' split
  all_goals simp

@[simp] theorem State.admitOne_kept (s : State) : (State.admitOne s).kept = s.kept := by
  unfold State.admitOne
  dsimp only
  repeat' split
  all_goals simp

@[simp] theorem State.admitHeld_kept (s : State) : (State.admitHeld s).kept = s.kept := by
  exact repeatState_kept _ State.admitOne_kept _ s

@[simp] theorem State.offerOwed_kept (s : State) : (State.offerOwed s).kept = s.kept := by
  unfold State.offerOwed
  dsimp only
  generalize hu : repeatState _ s.ht.length s = u
  have hk : u.kept = s.kept := by
    rw [← hu]
    apply repeatState_kept
    intro t
    repeat' split
    all_goals simp
  repeat' split
  all_goals simp [hk]

@[simp] theorem State.offer_kept (owner : Owner) (b : Body) (s : State) :
    (State.offer owner b s).kept = s.kept := by
  unfold State.offer
  dsimp only
  repeat' split
  all_goals simp

@[simp] theorem State.removeFrame_kept (id : Nat) (s : State) : (State.removeFrame id s).kept = s.kept := by
  unfold State.removeFrame
  repeat' split
  all_goals simp

@[simp] theorem State.voidInFlight_kept (p : Body → Bool) (s : State) : (State.voidInFlight p s).kept = s.kept := by
  unfold State.voidInFlight
  repeat' split
  all_goals simp

@[simp] theorem State.setProber_kept (st : ProberStatus) (deadline : Option Nat) (measured : Option (Nat × Nat)) (s : State) :
    (State.setProber st deadline measured s).kept = s.kept := by
  unfold State.setProber
  repeat' split
  all_goals simp

@[simp] theorem State.probeFailed_kept (s : State) : (State.probeFailed s).kept = s.kept := by
  unfold State.probeFailed
  simp

@[simp] theorem State.linkHalt_kept (s : State) : (State.linkHalt s).kept = s.kept := by
  unfold State.linkHalt
  simp

@[simp] theorem State.putZone_kept (side : Side) (z : ZoneRecord) (s : State) :
    (State.putZone side z s).kept = s.kept := by
  unfold State.putZone
  dsimp only
  repeat' split
  all_goals simp

@[simp] theorem State.onZone_kept (side : Side) (f : ZoneRecord → ZoneRecord) (s : State) :
    (State.onZone side f s).kept = s.kept := by
  unfold State.onZone
  simp

@[simp] theorem State.offerZone_kept (side : Side) (a : ZoneAction) (s : State) :
    (State.offerZone side a s).kept = s.kept := by
  unfold State.offerZone
  simp

@[simp] theorem State.sendOutstanding_kept (side : Side) (o : Outstanding) (a : ZoneAction) (s : State) :
    (State.sendOutstanding side o a s).kept = s.kept := by
  unfold State.sendOutstanding
  dsimp only
  simp

@[simp] theorem State.dropOutstanding_kept (side : Side) (s : State) :
    (State.dropOutstanding side s).kept = s.kept := by
  unfold State.dropOutstanding
  dsimp only
  repeat' split
  all_goals simp

@[simp] theorem State.tidyOutstanding_kept (side : Side) (st : ZoneState) (s : State) :
    (State.tidyOutstanding side st s).kept = s.kept := by
  unfold State.tidyOutstanding
  repeat' split
  all_goals simp

@[simp] theorem State.zoneTo_kept (side : Side) (st : ZoneState) (s : State) :
    (State.zoneTo side st s).kept = s.kept := by
  unfold State.zoneTo
  dsimp only
  repeat' split
  all_goals simp

@[simp] theorem State.applyBlock_kept (side : Side) (s : State) : (State.applyBlock side s).kept = s.kept := by
  unfold State.applyBlock
  repeat' split
  all_goals simp

@[simp] theorem State.zoneChange_kept (side : Side) (st : ZoneState) (s : State) :
    (State.zoneChange side st s).kept = s.kept := by
  unfold State.zoneChange
  simp

@[simp] theorem State.countCycle_kept (s : State) : (State.countCycle s).kept = s.kept := by
  unfold State.countCycle
  simp

@[simp] theorem State.considerRelease_kept (side : Side) (s : State) :
    (State.considerRelease side s).kept = s.kept := by
  unfold State.considerRelease
  dsimp only
  repeat' split
  all_goals simp

@[simp] theorem State.carryRelease_kept (side : Side) (s : State) : (State.carryRelease side s).kept = s.kept := by
  unfold State.carryRelease
  dsimp only
  repeat' split
  all_goals simp

@[simp] theorem State.withdrawRequest_kept (side : Side) (s : State) :
    (State.withdrawRequest side s).kept = s.kept := by
  unfold State.withdrawRequest
  repeat' split
  all_goals simp

@[simp] theorem State.makeRequest_kept (side : Side) (s : State) : (State.makeRequest side s).kept = s.kept := by
  unfold State.makeRequest
  dsimp only
  repeat' split
  all_goals simp

@[simp] theorem State.resetZone_kept (side : Side) (s : State) : (State.resetZone side s).kept = s.kept := by
  unfold State.resetZone
  dsimp only
  repeat' split
  all_goals simp

@[simp] theorem State.giveUpZone_kept (side : Side) (s : State) : (State.giveUpZone side s).kept = s.kept := by
  unfold State.giveUpZone
  dsimp only
  repeat' split
  all_goals simp

@[simp] theorem State.giveUpZones_kept (s : State) : (State.giveUpZones s).kept = s.kept := by
  unfold State.giveUpZones
  simp

@[simp] theorem State.noZones_kept (s : State) : (State.noZones s).kept = s.kept := by
  unfold State.noZones
  simp

@[simp] theorem State.setDraw_kept (j : Nat) (e : Option DrawEntry) (s : State) :
    (State.setDraw j e s).kept = s.kept := by
  unfold State.setDraw
  simp

@[simp] theorem State.offerDraw_kept (a : DrawAction) (amount hole : Nat) (s : State) :
    (State.offerDraw a amount hole s).kept = s.kept := by
  unfold State.offerDraw
  simp

@[simp] theorem State.onIntent_kept (f : OwnIntent → OwnIntent) (s : State) :
    (State.onIntent f s).kept = s.kept := by
  unfold State.onIntent
  simp

@[simp] theorem State.withdraw_kept (s : State) : (State.withdraw s).kept = s.kept := by
  unfold State.withdraw
  dsimp only
  simp

@[simp] theorem State.squeezeClosed_kept (normally : Bool) (s : State) :
    (State.squeezeClosed normally s).kept = s.kept := by
  unfold State.squeezeClosed
  dsimp only
  repeat' split
  all_goals simp

@[simp] theorem State.giveUpIntent_kept (s : State) : (State.giveUpIntent s).kept = s.kept := by
  unfold State.giveUpIntent
  dsimp only
  repeat' split
  all_goals simp

@[simp] theorem State.applyToEntry_kept (h : Heard) (s : State) : (State.applyToEntry h s).kept = s.kept := by
  unfold State.applyToEntry
  repeat' split
  all_goals simp

@[simp] theorem State.setCycle_kept (cy : Cycle) (s : State) : (State.setCycle cy s).kept = s.kept := by
  unfold State.setCycle
  simp

@[simp] theorem State.onCycle_kept (f : Cycle → Cycle) (s : State) : (State.onCycle f s).kept = s.kept := by
  unfold State.onCycle
  simp

@[simp] theorem State.takeEnding_kept (cause : EndCause) (through : Bool) (s : State) :
    (State.takeEnding cause through s).kept = s.kept := by
  unfold State.takeEnding
  dsimp only
  repeat' split
  all_goals simp

@[simp] theorem State.writeOutcome_kept (c : Claim) (o : CycleOutcome) (frame : Bool) (s : State) :
    (State.writeOutcome c o frame s).kept = s.kept := by
  unfold State.writeOutcome
  dsimp only
  repeat' split
  all_goals simp

@[simp] theorem State.revertOwn_kept (h : Nat) (s : State) : (State.revertOwn h s).kept = s.kept := by
  unfold State.revertOwn
  repeat' split
  all_goals simp

@[simp] theorem State.endCycle_kept (s : State) : (State.endCycle s).kept = s.kept := by
  unfold State.endCycle
  dsimp only
  have h := foldl_kept (fun t x => State.applyToEntry x t) (fun t x => State.applyToEntry_kept x t)
  repeat' split
  all_goals simp [h]

@[simp] theorem State.finishEnding_kept (cy : Cycle) (e : Ending) (s : State) :
    (State.finishEnding cy e s).kept = s.kept := by
  unfold State.finishEnding
  dsimp only
  repeat' split
  all_goals simp

@[simp] theorem State.finishReporting_kept (cy : Cycle) (s : State) :
    (State.finishReporting cy s).kept = s.kept := by
  unfold State.finishReporting
  repeat' split
  all_goals simp

@[simp] theorem State.haltCycle_kept (s : State) : (State.haltCycle s).kept = s.kept := by
  unfold State.haltCycle
  dsimp only
  repeat' split
  all_goals simp

@[simp] theorem State.squeezeEnds_kept (o : CycleOutcome) (normally : Bool) (s : State) :
    (State.squeezeEnds o normally s).kept = s.kept := by
  unfold State.squeezeEnds
  dsimp only
  simp

@[simp] theorem State.cycleFails_kept (placed : List Command) (s : State) :
    (State.cycleFails placed s).kept = s.kept := by
  unfold State.cycleFails
  dsimp only
  repeat' split
  all_goals simp

@[simp] theorem State.placeHalt_kept (s : State) : (State.placeHalt s).kept = s.kept := by
  unfold State.placeHalt
  simp

@[simp] theorem State.lowerFlag_kept (s : State) : (State.lowerFlag s).kept = s.kept := by
  unfold State.lowerFlag
  repeat' split
  all_goals simp

@[simp] theorem State.haltPort_kept (s : State) : (State.haltPort s).kept = s.kept := by
  unfold State.haltPort
  dsimp only
  repeat' split
  all_goals simp

@[simp] theorem State.dropSelection_kept (s : State) : (State.dropSelection s).kept = s.kept := by
  unfold State.dropSelection
  repeat' split
  all_goals simp

@[simp] theorem State.endLone_kept (how : LoneEnd) (s : State) : (State.endLone how s).kept = s.kept := by
  unfold State.endLone
  repeat' split
  all_goals simp

@[simp] theorem State.recordCause_kept (src : FaultSource) (s : State) :
    (State.recordCause src s).kept = s.kept := by
  unfold State.recordCause
  simp

@[simp] theorem State.enterFaulted_kept (src : FaultSource) (s : State) :
    (State.enterFaulted src s).kept = s.kept := by
  unfold State.enterFaulted
  dsimp only
  repeat' split
  all_goals simp

@[simp] theorem State.enterHalted_kept (src : FaultSource) (s : State) :
    (State.enterHalted src s).kept = s.kept := by
  unfold State.enterHalted
  dsimp only
  repeat' split
  all_goals simp

@[simp] theorem State.clearanceHalt_kept (c : HaltCheck) (s : State) : (State.clearanceHalt c s).kept = s.kept := by
  unfold State.clearanceHalt
  simp

@[simp] theorem State.closeFailed_kept (s : State) : (State.closeFailed s).kept = s.kept := by
  unfold State.closeFailed
  simp

@[simp] theorem State.loneFails_kept (s : State) : (State.loneFails s).kept = s.kept := by
  unfold State.loneFails
  dsimp only
  repeat' split
  all_goals simp

@[simp] theorem State.effectorFault_kept (kind : FailKind) (deadly : Bool) (s : State) :
    (State.effectorFault kind deadly s).kept = s.kept := by
  unfold State.effectorFault
  dsimp only
  repeat' split
  all_goals simp

@[simp] theorem State.portFails_kept (kind : FailKind) (extra : Option Command) (s : State) :
    (State.portFails kind extra s).kept = s.kept := by
  unfold State.portFails
  dsimp only
  repeat' split
  all_goals simp

@[simp] theorem State.raiseFlag_kept (w : Word) (s : State) : (State.raiseFlag w s).kept = s.kept := by
  unfold State.raiseFlag
  simp

@[simp] theorem State.placeCommand_kept (c : Command) (u : PortUser) (s : State) :
    (State.placeCommand c u s).kept = s.kept := by
  unfold State.placeCommand
  repeat' split
  all_goals simp

@[simp] theorem State.placeForCycle_kept (c : Command) (f : Cycle → Cycle) (s : State) :
    (State.placeForCycle c f s).kept = s.kept := by
  unfold State.placeForCycle
  simp

@[simp] theorem State.tryTravel_kept (t : Nat) (asked : Bool) (s : State) :
    (State.tryTravel t asked s).kept = s.kept := by
  unfold State.tryTravel
  dsimp only
  repeat' split
  all_goals simp

@[simp] theorem State.tryDrill_kept (s : State) : (State.tryDrill s).kept = s.kept := by
  unfold State.tryDrill
  repeat' split
  all_goals simp

@[simp] theorem State.trySqueeze_kept (cy : Cycle) (s : State) : (State.trySqueeze cy s).kept = s.kept := by
  unfold State.trySqueeze
  dsimp only
  repeat' split
  all_goals simp

@[simp] theorem State.tryPoll_kept (s : State) : (State.tryPoll s).kept = s.kept := by
  unfold State.tryPoll
  repeat' split
  all_goals simp

@[simp] theorem State.tryTask_kept (c : Command) (asked : Bool) (s : State) :
    (State.tryTask c asked s).kept = s.kept := by
  unfold State.tryTask
  repeat' split
  all_goals simp

@[simp] theorem State.carryCycle_kept (cy : Cycle) (s : State) : (State.carryCycle cy s).kept = s.kept := by
  unfold State.carryCycle
  repeat' split
  all_goals simp

@[simp] theorem State.placeInterject_kept (s : State) : (State.placeInterject s).kept = s.kept := by
  unfold State.placeInterject
  dsimp only
  repeat' split
  all_goals simp

@[simp] theorem State.windCycle_kept (cy : Cycle) (e : Ending) (s : State) :
    (State.windCycle cy e s).kept = s.kept := by
  unfold State.windCycle
  dsimp only
  repeat' split
  all_goals simp

@[simp] theorem State.stepCycle_kept (s : State) : (State.stepCycle s).kept = s.kept := by
  unfold State.stepCycle
  repeat' split
  all_goals simp

@[simp] theorem State.stepLone_kept (s : State) : (State.stepLone s).kept = s.kept := by
  unfold State.stepLone
  repeat' split
  all_goals simp

@[simp] theorem State.stepPark_kept (s : State) : (State.stepPark s).kept = s.kept := by
  unfold State.stepPark
  dsimp only
  repeat' split
  all_goals simp

@[simp] theorem State.stepSelection_kept (s : State) : (State.stepSelection s).kept = s.kept := by
  unfold State.stepSelection
  repeat' split
  all_goals simp

@[simp] theorem State.toWorking_kept (s : State) : (State.toWorking s).kept = s.kept := by
  unfold State.toWorking
  dsimp only
  repeat' split
  all_goals simp

@[simp] theorem State.stepConditions_kept (s : State) : (State.stepConditions s).kept = s.kept := by
  unfold State.stepConditions
  repeat' split
  all_goals simp

@[simp] theorem State.toFinished_kept (s : State) : (State.toFinished s).kept = s.kept := by
  unfold State.toFinished
  dsimp only
  repeat' split
  all_goals simp

@[simp] theorem State.stepFinish_kept (s : State) : (State.stepFinish s).kept = s.kept := by
  unfold State.stepFinish
  repeat' split
  all_goals simp

@[simp] theorem State.stepZone_kept (side : Side) (s : State) : (State.stepZone side s).kept = s.kept := by
  unfold State.stepZone
  simp

@[simp] theorem State.stepZones_kept (s : State) : (State.stepZones s).kept = s.kept := by
  unfold State.stepZones
  simp

@[simp] theorem State.stepRequests_kept (s : State) : (State.stepRequests s).kept = s.kept := by
  unfold State.stepRequests
  simp

@[simp] theorem State.offerClaim_kept (ch : Choice) (s : State) : (State.offerClaim ch s).kept = s.kept := by
  unfold State.offerClaim
  dsimp only
  repeat' split
  all_goals simp

@[simp] theorem State.takeDatum_kept (t : Int × Int) (z : Option Side) (s : State) :
    (State.takeDatum t z s).kept = s.kept := by
  unfold State.takeDatum
  repeat' split
  all_goals simp

theorem State.askSeize_kept {side : Side} {sel : Selection} {s t : State} (h : s.askSeize side sel = some t) :
    t.kept = s.kept := by
  unfold State.askSeize at h
  split at h <;> cases h <;> simp

@[simp] theorem State.takeChoice_kept (ch : Choice) (s : State) : (State.takeChoice ch s).1.kept = s.kept := by
  unfold State.takeChoice
  repeat' split
  all_goals simp
  exact State.askSeize_kept ‹_›

@[simp] theorem State.choose_kept (refused : List Side) (s : State) : (State.choose refused s).1.kept = s.kept := by
  unfold State.choose
  repeat' split
  all_goals simp
  exact State.askSeize_kept ‹_›

@[simp] theorem State.select_kept (n : Nat) (refused : List Side) (s : State) : (State.select n refused s).kept = s.kept := by
  induction n generalizing refused s with
  | zero => rfl
  | succ n ih =>
    have h := State.choose_kept refused s
    unfold State.select
    split <;> simp_all

@[simp] theorem State.stepSelect_kept (s : State) : (State.stepSelect s).kept = s.kept := by
  unfold State.stepSelect
  split <;> simp

end Sys2Proof.Machine
end

