-- ==== Sys2Proof/Laws/State.lean ====
section
/-! SUPPORT. One lemma per field for each small update of the state. -/

namespace Sys2Proof.Machine

open Sys2Proof (Byte Word Data Stamp Datum Side Instr)

/-! ### `State.setWork` -/

@[simp] theorem State.setWork_pending (w : WorkState) (s : State) : (State.setWork w s).pending = s.pending := rfl
@[simp] theorem State.setWork_clock (w : WorkState) (s : State) : (State.setWork w s).clock = s.clock := rfl
@[simp] theorem State.setWork_freeCount (w : WorkState) (s : State) : (State.setWork w s).freeCount = s.freeCount := rfl
@[simp] theorem State.setWork_lines (w : WorkState) (s : State) :
    (State.setWork w s).lines = { s.lines with finishedLine := decide (w = .finished), faultLine := decide (w = .faulted) || decide (w = .halted) } := rfl
@[simp] theorem State.setWork_ps (w : WorkState) (s : State) : (State.setWork w s).ps = s.ps := rfl
@[simp] theorem State.setWork_setup (w : WorkState) (s : State) : (State.setWork w s).setup = s.setup := rfl
@[simp] theorem State.setWork_ht (w : WorkState) (s : State) : (State.setWork w s).ht = s.ht := rfl
@[simp] theorem State.setWork_pu (w : WorkState) (s : State) : (State.setWork w s).pu = s.pu := rfl
@[simp] theorem State.setWork_lc (w : WorkState) (s : State) : (State.setWork w s).lc = s.lc := rfl
@[simp] theorem State.setWork_pt (w : WorkState) (s : State) : (State.setWork w s).pt = s.pt := rfl
@[simp] theorem State.setWork_zc (w : WorkState) (s : State) : (State.setWork w s).zc = s.zc := rfl
@[simp] theorem State.setWork_ws (w : WorkState) (s : State) : (State.setWork w s).ws = { s.ws with state := w } := rfl
@[simp] theorem State.setWork_cs (w : WorkState) (s : State) : (State.setWork w s).cs = s.cs := rfl
@[simp] theorem State.setWork_ep (w : WorkState) (s : State) : (State.setWork w s).ep = s.ep := rfl
@[simp] theorem State.setWork_sa (w : WorkState) (s : State) : (State.setWork w s).sa = s.sa := rfl
@[simp] theorem State.setWork_du (w : WorkState) (s : State) : (State.setWork w s).du = s.du := rfl
@[simp] theorem State.setWork_eu (w : WorkState) (s : State) : (State.setWork w s).eu = s.eu := rfl
@[simp] theorem State.setWork_sp (w : WorkState) (s : State) : (State.setWork w s).sp = s.sp := rfl

/-! ### `State.reach` -/

@[simp] theorem State.reach_pending (t : Nat) (s : State) : (State.reach t s).pending = s.pending := rfl
@[simp] theorem State.reach_clock (t : Nat) (s : State) : (State.reach t s).clock = max s.clock t := rfl
@[simp] theorem State.reach_freeCount (t : Nat) (s : State) : (State.reach t s).freeCount = s.freeCount := rfl
@[simp] theorem State.reach_lines (t : Nat) (s : State) : (State.reach t s).lines = s.lines := rfl
@[simp] theorem State.reach_ps (t : Nat) (s : State) : (State.reach t s).ps = s.ps := rfl
@[simp] theorem State.reach_setup (t : Nat) (s : State) : (State.reach t s).setup = s.setup := rfl
@[simp] theorem State.reach_ht (t : Nat) (s : State) : (State.reach t s).ht = s.ht := rfl
@[simp] theorem State.reach_pu (t : Nat) (s : State) : (State.reach t s).pu = s.pu := rfl
@[simp] theorem State.reach_lc (t : Nat) (s : State) : (State.reach t s).lc = s.lc := rfl
@[simp] theorem State.reach_pt (t : Nat) (s : State) : (State.reach t s).pt = s.pt := rfl
@[simp] theorem State.reach_zc (t : Nat) (s : State) : (State.reach t s).zc = s.zc := rfl
@[simp] theorem State.reach_ws (t : Nat) (s : State) : (State.reach t s).ws = s.ws := rfl
@[simp] theorem State.reach_cs (t : Nat) (s : State) : (State.reach t s).cs = s.cs := rfl
@[simp] theorem State.reach_ep (t : Nat) (s : State) : (State.reach t s).ep = s.ep := rfl
@[simp] theorem State.reach_sa (t : Nat) (s : State) : (State.reach t s).sa = s.sa := rfl
@[simp] theorem State.reach_du (t : Nat) (s : State) : (State.reach t s).du = s.du := rfl
@[simp] theorem State.reach_eu (t : Nat) (s : State) : (State.reach t s).eu = s.eu := rfl
@[simp] theorem State.reach_sp (t : Nat) (s : State) : (State.reach t s).sp = s.sp := rfl

/-! ### `State.setPeer` -/

@[simp] theorem State.setPeer_pending (j : Nat) (e : PeerEntry) (s : State) :
    (State.setPeer j e s).pending = s.pending := rfl
@[simp] theorem State.setPeer_clock (j : Nat) (e : PeerEntry) (s : State) : (State.setPeer j e s).clock = s.clock := rfl
@[simp] theorem State.setPeer_freeCount (j : Nat) (e : PeerEntry) (s : State) :
    (State.setPeer j e s).freeCount = s.freeCount := rfl
@[simp] theorem State.setPeer_lines (j : Nat) (e : PeerEntry) (s : State) : (State.setPeer j e s).lines = s.lines := rfl
@[simp] theorem State.setPeer_ps (j : Nat) (e : PeerEntry) (s : State) : (State.setPeer j e s).ps = s.ps := rfl
@[simp] theorem State.setPeer_setup (j : Nat) (e : PeerEntry) (s : State) : (State.setPeer j e s).setup = s.setup := rfl
@[simp] theorem State.setPeer_ht (j : Nat) (e : PeerEntry) (s : State) : (State.setPeer j e s).ht = s.ht := rfl
@[simp] theorem State.setPeer_pu (j : Nat) (e : PeerEntry) (s : State) : (State.setPeer j e s).pu = s.pu := rfl
@[simp] theorem State.setPeer_lc (j : Nat) (e : PeerEntry) (s : State) : (State.setPeer j e s).lc = s.lc := rfl
@[simp] theorem State.setPeer_pt (j : Nat) (e : PeerEntry) (s : State) :
    (State.setPeer j e s).pt = { s.pt with peers := s.pt.peers.set (j - 1) e } := rfl
@[simp] theorem State.setPeer_zc (j : Nat) (e : PeerEntry) (s : State) : (State.setPeer j e s).zc = s.zc := rfl
@[simp] theorem State.setPeer_ws (j : Nat) (e : PeerEntry) (s : State) : (State.setPeer j e s).ws = s.ws := rfl
@[simp] theorem State.setPeer_cs (j : Nat) (e : PeerEntry) (s : State) : (State.setPeer j e s).cs = s.cs := rfl
@[simp] theorem State.setPeer_ep (j : Nat) (e : PeerEntry) (s : State) : (State.setPeer j e s).ep = s.ep := rfl
@[simp] theorem State.setPeer_sa (j : Nat) (e : PeerEntry) (s : State) : (State.setPeer j e s).sa = s.sa := rfl
@[simp] theorem State.setPeer_du (j : Nat) (e : PeerEntry) (s : State) : (State.setPeer j e s).du = s.du := rfl
@[simp] theorem State.setPeer_eu (j : Nat) (e : PeerEntry) (s : State) : (State.setPeer j e s).eu = s.eu := rfl
@[simp] theorem State.setPeer_sp (j : Nat) (e : PeerEntry) (s : State) : (State.setPeer j e s).sp = s.sp := rfl

/-! ### `State.setRecord` -/

@[simp] theorem State.setRecord_pending (d : Datum) (r : DatumRecord) (s : State) :
    (State.setRecord d r s).pending = s.pending := by cases d <;> rfl
@[simp] theorem State.setRecord_clock (d : Datum) (r : DatumRecord) (s : State) :
    (State.setRecord d r s).clock = s.clock := by cases d <;> rfl
@[simp] theorem State.setRecord_freeCount (d : Datum) (r : DatumRecord) (s : State) :
    (State.setRecord d r s).freeCount = s.freeCount := by cases d <;> rfl
@[simp] theorem State.setRecord_lines (d : Datum) (r : DatumRecord) (s : State) :
    (State.setRecord d r s).lines = s.lines := by cases d <;> rfl
@[simp] theorem State.setRecord_ps (d : Datum) (r : DatumRecord) (s : State) :
    (State.setRecord d r s).ps = s.ps := by cases d <;> rfl
@[simp] theorem State.setRecord_setup (d : Datum) (r : DatumRecord) (s : State) :
    (State.setRecord d r s).setup = s.setup := by cases d <;> rfl
@[simp] theorem State.setRecord_ht (d : Datum) (r : DatumRecord) (s : State) :
    (State.setRecord d r s).ht = s.ht := by cases d <;> rfl
@[simp] theorem State.setRecord_lc (d : Datum) (r : DatumRecord) (s : State) :
    (State.setRecord d r s).lc = s.lc := by cases d <;> rfl
@[simp] theorem State.setRecord_pt (d : Datum) (r : DatumRecord) (s : State) :
    (State.setRecord d r s).pt = s.pt := by cases d <;> rfl
@[simp] theorem State.setRecord_zc (d : Datum) (r : DatumRecord) (s : State) :
    (State.setRecord d r s).zc = s.zc := by cases d <;> rfl
@[simp] theorem State.setRecord_ws (d : Datum) (r : DatumRecord) (s : State) :
    (State.setRecord d r s).ws = s.ws := by cases d <;> rfl
@[simp] theorem State.setRecord_cs (d : Datum) (r : DatumRecord) (s : State) :
    (State.setRecord d r s).cs = s.cs := by cases d <;> rfl
@[simp] theorem State.setRecord_ep (d : Datum) (r : DatumRecord) (s : State) :
    (State.setRecord d r s).ep = s.ep := by cases d <;> rfl
@[simp] theorem State.setRecord_sa (d : Datum) (r : DatumRecord) (s : State) :
    (State.setRecord d r s).sa = s.sa := by cases d <;> rfl
@[simp] theorem State.setRecord_du (d : Datum) (r : DatumRecord) (s : State) :
    (State.setRecord d r s).du = s.du := by cases d <;> rfl
@[simp] theorem State.setRecord_eu (d : Datum) (r : DatumRecord) (s : State) :
    (State.setRecord d r s).eu = s.eu := by cases d <;> rfl
@[simp] theorem State.setRecord_sp (d : Datum) (r : DatumRecord) (s : State) :
    (State.setRecord d r s).sp = s.sp := by cases d <;> rfl

/-! ### `State.setProber` -/

@[simp] theorem State.setProber_pending (st : ProberStatus) (t : Option Nat) (m : Option (Nat × Nat)) (s : State) :
    (State.setProber st t m s).pending = s.pending := by unfold State.setProber; split <;> rfl
@[simp] theorem State.setProber_clock (st : ProberStatus) (t : Option Nat) (m : Option (Nat × Nat)) (s : State) :
    (State.setProber st t m s).clock = s.clock := by unfold State.setProber; split <;> rfl
@[simp] theorem State.setProber_freeCount (st : ProberStatus) (t : Option Nat) (m : Option (Nat × Nat)) (s : State) :
    (State.setProber st t m s).freeCount = s.freeCount := by unfold State.setProber; split <;> rfl
@[simp] theorem State.setProber_lines (st : ProberStatus) (t : Option Nat) (m : Option (Nat × Nat)) (s : State) :
    (State.setProber st t m s).lines = s.lines := by unfold State.setProber; split <;> rfl
@[simp] theorem State.setProber_ps (st : ProberStatus) (t : Option Nat) (m : Option (Nat × Nat)) (s : State) :
    (State.setProber st t m s).ps = s.ps := by unfold State.setProber; split <;> rfl
@[simp] theorem State.setProber_setup (st : ProberStatus) (t : Option Nat) (m : Option (Nat × Nat)) (s : State) :
    (State.setProber st t m s).setup = s.setup := by unfold State.setProber; split <;> rfl
@[simp] theorem State.setProber_ht (st : ProberStatus) (t : Option Nat) (m : Option (Nat × Nat)) (s : State) :
    (State.setProber st t m s).ht = s.ht := by unfold State.setProber; split <;> rfl
@[simp] theorem State.setProber_lc (st : ProberStatus) (t : Option Nat) (m : Option (Nat × Nat)) (s : State) :
    (State.setProber st t m s).lc = s.lc := by unfold State.setProber; split <;> rfl
@[simp] theorem State.setProber_pt (st : ProberStatus) (t : Option Nat) (m : Option (Nat × Nat)) (s : State) :
    (State.setProber st t m s).pt = s.pt := by unfold State.setProber; split <;> rfl
@[simp] theorem State.setProber_zc (st : ProberStatus) (t : Option Nat) (m : Option (Nat × Nat)) (s : State) :
    (State.setProber st t m s).zc = s.zc := by unfold State.setProber; split <;> rfl
@[simp] theorem State.setProber_ws (st : ProberStatus) (t : Option Nat) (m : Option (Nat × Nat)) (s : State) :
    (State.setProber st t m s).ws = s.ws := by unfold State.setProber; split <;> rfl
@[simp] theorem State.setProber_cs (st : ProberStatus) (t : Option Nat) (m : Option (Nat × Nat)) (s : State) :
    (State.setProber st t m s).cs = s.cs := by unfold State.setProber; split <;> rfl
@[simp] theorem State.setProber_ep (st : ProberStatus) (t : Option Nat) (m : Option (Nat × Nat)) (s : State) :
    (State.setProber st t m s).ep = s.ep := by unfold State.setProber; split <;> rfl
@[simp] theorem State.setProber_sa (st : ProberStatus) (t : Option Nat) (m : Option (Nat × Nat)) (s : State) :
    (State.setProber st t m s).sa = s.sa := by unfold State.setProber; split <;> rfl
@[simp] theorem State.setProber_du (st : ProberStatus) (t : Option Nat) (m : Option (Nat × Nat)) (s : State) :
    (State.setProber st t m s).du = s.du := by unfold State.setProber; split <;> rfl
@[simp] theorem State.setProber_eu (st : ProberStatus) (t : Option Nat) (m : Option (Nat × Nat)) (s : State) :
    (State.setProber st t m s).eu = s.eu := by unfold State.setProber; split <;> rfl
@[simp] theorem State.setProber_sp (st : ProberStatus) (t : Option Nat) (m : Option (Nat × Nat)) (s : State) :
    (State.setProber st t m s).sp = s.sp := by unfold State.setProber; split <;> rfl

/-! ### `State.setCycle` -/

@[simp] theorem State.setCycle_pending (cy : Cycle) (s : State) : (State.setCycle cy s).pending = s.pending := rfl
@[simp] theorem State.setCycle_clock (cy : Cycle) (s : State) : (State.setCycle cy s).clock = s.clock := rfl
@[simp] theorem State.setCycle_freeCount (cy : Cycle) (s : State) : (State.setCycle cy s).freeCount = s.freeCount := rfl
@[simp] theorem State.setCycle_lines (cy : Cycle) (s : State) : (State.setCycle cy s).lines = s.lines := rfl
@[simp] theorem State.setCycle_ps (cy : Cycle) (s : State) : (State.setCycle cy s).ps = s.ps := rfl
@[simp] theorem State.setCycle_setup (cy : Cycle) (s : State) : (State.setCycle cy s).setup = s.setup := rfl
@[simp] theorem State.setCycle_ht (cy : Cycle) (s : State) : (State.setCycle cy s).ht = s.ht := rfl
@[simp] theorem State.setCycle_pu (cy : Cycle) (s : State) : (State.setCycle cy s).pu = s.pu := rfl
@[simp] theorem State.setCycle_lc (cy : Cycle) (s : State) : (State.setCycle cy s).lc = s.lc := rfl
@[simp] theorem State.setCycle_pt (cy : Cycle) (s : State) : (State.setCycle cy s).pt = s.pt := rfl
@[simp] theorem State.setCycle_zc (cy : Cycle) (s : State) : (State.setCycle cy s).zc = s.zc := rfl
@[simp] theorem State.setCycle_ws (cy : Cycle) (s : State) : (State.setCycle cy s).ws = s.ws := rfl
@[simp] theorem State.setCycle_cs (cy : Cycle) (s : State) :
    (State.setCycle cy s).cs = { s.cs with cycle := some cy } := rfl
@[simp] theorem State.setCycle_ep (cy : Cycle) (s : State) : (State.setCycle cy s).ep = s.ep := rfl
@[simp] theorem State.setCycle_sa (cy : Cycle) (s : State) : (State.setCycle cy s).sa = s.sa := rfl
@[simp] theorem State.setCycle_du (cy : Cycle) (s : State) : (State.setCycle cy s).du = s.du := rfl
@[simp] theorem State.setCycle_eu (cy : Cycle) (s : State) : (State.setCycle cy s).eu = s.eu := rfl
@[simp] theorem State.setCycle_sp (cy : Cycle) (s : State) : (State.setCycle cy s).sp = s.sp := rfl

/-! ### `State.onCycle` -/

@[simp] theorem State.onCycle_pending (f : Cycle → Cycle) (s : State) : (State.onCycle f s).pending = s.pending := rfl
@[simp] theorem State.onCycle_clock (f : Cycle → Cycle) (s : State) : (State.onCycle f s).clock = s.clock := rfl
@[simp] theorem State.onCycle_freeCount (f : Cycle → Cycle) (s : State) :
    (State.onCycle f s).freeCount = s.freeCount := rfl
@[simp] theorem State.onCycle_lines (f : Cycle → Cycle) (s : State) : (State.onCycle f s).lines = s.lines := rfl
@[simp] theorem State.onCycle_ps (f : Cycle → Cycle) (s : State) : (State.onCycle f s).ps = s.ps := rfl
@[simp] theorem State.onCycle_setup (f : Cycle → Cycle) (s : State) : (State.onCycle f s).setup = s.setup := rfl
@[simp] theorem State.onCycle_ht (f : Cycle → Cycle) (s : State) : (State.onCycle f s).ht = s.ht := rfl
@[simp] theorem State.onCycle_pu (f : Cycle → Cycle) (s : State) : (State.onCycle f s).pu = s.pu := rfl
@[simp] theorem State.onCycle_lc (f : Cycle → Cycle) (s : State) : (State.onCycle f s).lc = s.lc := rfl
@[simp] theorem State.onCycle_pt (f : Cycle → Cycle) (s : State) : (State.onCycle f s).pt = s.pt := rfl
@[simp] theorem State.onCycle_zc (f : Cycle → Cycle) (s : State) : (State.onCycle f s).zc = s.zc := rfl
@[simp] theorem State.onCycle_ws (f : Cycle → Cycle) (s : State) : (State.onCycle f s).ws = s.ws := rfl
@[simp] theorem State.onCycle_cs (f : Cycle → Cycle) (s : State) :
    (State.onCycle f s).cs = { s.cs with cycle := s.cs.cycle.map f } := rfl
@[simp] theorem State.onCycle_ep (f : Cycle → Cycle) (s : State) : (State.onCycle f s).ep = s.ep := rfl
@[simp] theorem State.onCycle_sa (f : Cycle → Cycle) (s : State) : (State.onCycle f s).sa = s.sa := rfl
@[simp] theorem State.onCycle_du (f : Cycle → Cycle) (s : State) : (State.onCycle f s).du = s.du := rfl
@[simp] theorem State.onCycle_eu (f : Cycle → Cycle) (s : State) : (State.onCycle f s).eu = s.eu := rfl
@[simp] theorem State.onCycle_sp (f : Cycle → Cycle) (s : State) : (State.onCycle f s).sp = s.sp := rfl

/-! ### `State.onIntent` -/

@[simp] theorem State.onIntent_pending (f : OwnIntent → OwnIntent) (s : State) :
    (State.onIntent f s).pending = s.pending := rfl
@[simp] theorem State.onIntent_clock (f : OwnIntent → OwnIntent) (s : State) :
    (State.onIntent f s).clock = s.clock := rfl
@[simp] theorem State.onIntent_freeCount (f : OwnIntent → OwnIntent) (s : State) :
    (State.onIntent f s).freeCount = s.freeCount := rfl
@[simp] theorem State.onIntent_lines (f : OwnIntent → OwnIntent) (s : State) :
    (State.onIntent f s).lines = s.lines := rfl
@[simp] theorem State.onIntent_ps (f : OwnIntent → OwnIntent) (s : State) : (State.onIntent f s).ps = s.ps := rfl
@[simp] theorem State.onIntent_setup (f : OwnIntent → OwnIntent) (s : State) :
    (State.onIntent f s).setup = s.setup := rfl
@[simp] theorem State.onIntent_ht (f : OwnIntent → OwnIntent) (s : State) : (State.onIntent f s).ht = s.ht := rfl
@[simp] theorem State.onIntent_pu (f : OwnIntent → OwnIntent) (s : State) : (State.onIntent f s).pu = s.pu := rfl
@[simp] theorem State.onIntent_lc (f : OwnIntent → OwnIntent) (s : State) : (State.onIntent f s).lc = s.lc := rfl
@[simp] theorem State.onIntent_pt (f : OwnIntent → OwnIntent) (s : State) : (State.onIntent f s).pt = s.pt := rfl
@[simp] theorem State.onIntent_zc (f : OwnIntent → OwnIntent) (s : State) : (State.onIntent f s).zc = s.zc := rfl
@[simp] theorem State.onIntent_ws (f : OwnIntent → OwnIntent) (s : State) : (State.onIntent f s).ws = s.ws := rfl
@[simp] theorem State.onIntent_cs (f : OwnIntent → OwnIntent) (s : State) : (State.onIntent f s).cs = s.cs := rfl
@[simp] theorem State.onIntent_ep (f : OwnIntent → OwnIntent) (s : State) : (State.onIntent f s).ep = s.ep := rfl
@[simp] theorem State.onIntent_sa (f : OwnIntent → OwnIntent) (s : State) : (State.onIntent f s).sa = s.sa := rfl
@[simp] theorem State.onIntent_du (f : OwnIntent → OwnIntent) (s : State) :
    (State.onIntent f s).du = { s.du with own := f s.du.own } := rfl
@[simp] theorem State.onIntent_eu (f : OwnIntent → OwnIntent) (s : State) : (State.onIntent f s).eu = s.eu := rfl
@[simp] theorem State.onIntent_sp (f : OwnIntent → OwnIntent) (s : State) : (State.onIntent f s).sp = s.sp := rfl

/-! ### `State.setDraw` -/

@[simp] theorem State.setDraw_pending (j : Nat) (e : Option DrawEntry) (s : State) :
    (State.setDraw j e s).pending = s.pending := rfl
@[simp] theorem State.setDraw_clock (j : Nat) (e : Option DrawEntry) (s : State) :
    (State.setDraw j e s).clock = s.clock := rfl
@[simp] theorem State.setDraw_freeCount (j : Nat) (e : Option DrawEntry) (s : State) :
    (State.setDraw j e s).freeCount = s.freeCount := rfl
@[simp] theorem State.setDraw_lines (j : Nat) (e : Option DrawEntry) (s : State) :
    (State.setDraw j e s).lines = s.lines := rfl
@[simp] theorem State.setDraw_ps (j : Nat) (e : Option DrawEntry) (s : State) : (State.setDraw j e s).ps = s.ps := rfl
@[simp] theorem State.setDraw_setup (j : Nat) (e : Option DrawEntry) (s : State) :
    (State.setDraw j e s).setup = s.setup := rfl
@[simp] theorem State.setDraw_ht (j : Nat) (e : Option DrawEntry) (s : State) : (State.setDraw j e s).ht = s.ht := rfl
@[simp] theorem State.setDraw_pu (j : Nat) (e : Option DrawEntry) (s : State) : (State.setDraw j e s).pu = s.pu := rfl
@[simp] theorem State.setDraw_lc (j : Nat) (e : Option DrawEntry) (s : State) : (State.setDraw j e s).lc = s.lc := rfl
@[simp] theorem State.setDraw_pt (j : Nat) (e : Option DrawEntry) (s : State) : (State.setDraw j e s).pt = s.pt := rfl
@[simp] theorem State.setDraw_zc (j : Nat) (e : Option DrawEntry) (s : State) : (State.setDraw j e s).zc = s.zc := rfl
@[simp] theorem State.setDraw_ws (j : Nat) (e : Option DrawEntry) (s : State) : (State.setDraw j e s).ws = s.ws := rfl
@[simp] theorem State.setDraw_cs (j : Nat) (e : Option DrawEntry) (s : State) : (State.setDraw j e s).cs = s.cs := rfl
@[simp] theorem State.setDraw_ep (j : Nat) (e : Option DrawEntry) (s : State) : (State.setDraw j e s).ep = s.ep := rfl
@[simp] theorem State.setDraw_sa (j : Nat) (e : Option DrawEntry) (s : State) : (State.setDraw j e s).sa = s.sa := rfl
@[simp] theorem State.setDraw_du (j : Nat) (e : Option DrawEntry) (s : State) :
    (State.setDraw j e s).du = { s.du with table := s.du.table.set (j - 1) e } := rfl
@[simp] theorem State.setDraw_eu (j : Nat) (e : Option DrawEntry) (s : State) : (State.setDraw j e s).eu = s.eu := rfl
@[simp] theorem State.setDraw_sp (j : Nat) (e : Option DrawEntry) (s : State) : (State.setDraw j e s).sp = s.sp := rfl

/-! ### `State.takeStamp` -/

@[simp] theorem State.takeStamp_pending (s : State) : (State.takeStamp s).pending = s.pending := rfl
@[simp] theorem State.takeStamp_clock (s : State) : (State.takeStamp s).clock = s.clock := rfl
@[simp] theorem State.takeStamp_freeCount (s : State) : (State.takeStamp s).freeCount = s.freeCount := rfl
@[simp] theorem State.takeStamp_lines (s : State) : (State.takeStamp s).lines = s.lines := rfl
@[simp] theorem State.takeStamp_ps (s : State) : (State.takeStamp s).ps = s.ps := rfl
@[simp] theorem State.takeStamp_setup (s : State) : (State.takeStamp s).setup = s.setup := rfl
@[simp] theorem State.takeStamp_ht (s : State) : (State.takeStamp s).ht = s.ht := rfl
@[simp] theorem State.takeStamp_pu (s : State) : (State.takeStamp s).pu = s.pu := rfl
@[simp] theorem State.takeStamp_lc (s : State) : (State.takeStamp s).lc = { s.lc with stamp := s.lc.stamp + 1 } := rfl
@[simp] theorem State.takeStamp_pt (s : State) : (State.takeStamp s).pt = s.pt := rfl
@[simp] theorem State.takeStamp_zc (s : State) : (State.takeStamp s).zc = s.zc := rfl
@[simp] theorem State.takeStamp_ws (s : State) : (State.takeStamp s).ws = s.ws := rfl
@[simp] theorem State.takeStamp_cs (s : State) : (State.takeStamp s).cs = s.cs := rfl
@[simp] theorem State.takeStamp_ep (s : State) : (State.takeStamp s).ep = s.ep := rfl
@[simp] theorem State.takeStamp_sa (s : State) : (State.takeStamp s).sa = s.sa := rfl
@[simp] theorem State.takeStamp_du (s : State) : (State.takeStamp s).du = s.du := rfl
@[simp] theorem State.takeStamp_eu (s : State) : (State.takeStamp s).eu = s.eu := rfl
@[simp] theorem State.takeStamp_sp (s : State) : (State.takeStamp s).sp = s.sp := rfl

/-! ### `State.putZone` -/

@[simp] theorem State.putZone_pending (side : Side) (z : ZoneRecord) (s : State) :
    (State.putZone side z s).pending = s.pending := by cases side <;> rfl
@[simp] theorem State.putZone_clock (side : Side) (z : ZoneRecord) (s : State) :
    (State.putZone side z s).clock = s.clock := by cases side <;> rfl
@[simp] theorem State.putZone_freeCount (side : Side) (z : ZoneRecord) (s : State) :
    (State.putZone side z s).freeCount = s.freeCount := by cases side <;> rfl
@[simp] theorem State.putZone_lines (side : Side) (z : ZoneRecord) (s : State) :
    (State.putZone side z s).lines = s.lines := by cases side <;> rfl
@[simp] theorem State.putZone_ps (side : Side) (z : ZoneRecord) (s : State) :
    (State.putZone side z s).ps = s.ps := by cases side <;> rfl
@[simp] theorem State.putZone_setup (side : Side) (z : ZoneRecord) (s : State) :
    (State.putZone side z s).setup = s.setup := by cases side <;> rfl
@[simp] theorem State.putZone_ht (side : Side) (z : ZoneRecord) (s : State) :
    (State.putZone side z s).ht = s.ht := by cases side <;> rfl
@[simp] theorem State.putZone_pu (side : Side) (z : ZoneRecord) (s : State) :
    (State.putZone side z s).pu = s.pu := by cases side <;> rfl
@[simp] theorem State.putZone_lc (side : Side) (z : ZoneRecord) (s : State) :
    (State.putZone side z s).lc = s.lc := by cases side <;> rfl
@[simp] theorem State.putZone_pt (side : Side) (z : ZoneRecord) (s : State) :
    (State.putZone side z s).pt = s.pt := by cases side <;> rfl
@[simp] theorem State.putZone_cs (side : Side) (z : ZoneRecord) (s : State) :
    (State.putZone side z s).cs = s.cs := by cases side <;> rfl
@[simp] theorem State.putZone_ep (side : Side) (z : ZoneRecord) (s : State) :
    (State.putZone side z s).ep = s.ep := by cases side <;> rfl
@[simp] theorem State.putZone_sa (side : Side) (z : ZoneRecord) (s : State) :
    (State.putZone side z s).sa = s.sa := by cases side <;> rfl
@[simp] theorem State.putZone_du (side : Side) (z : ZoneRecord) (s : State) :
    (State.putZone side z s).du = s.du := by cases side <;> rfl
@[simp] theorem State.putZone_eu (side : Side) (z : ZoneRecord) (s : State) :
    (State.putZone side z s).eu = s.eu := by cases side <;> rfl
@[simp] theorem State.putZone_sp (side : Side) (z : ZoneRecord) (s : State) :
    (State.putZone side z s).sp = s.sp := by cases side <;> rfl

/-! ### `State.raise` -/

@[simp] theorem State.raise_pending (e : EventSource) (s : State) : (State.raise e s).pending = s.pending := rfl
@[simp] theorem State.raise_clock (e : EventSource) (s : State) : (State.raise e s).clock = s.clock := rfl
@[simp] theorem State.raise_freeCount (e : EventSource) (s : State) : (State.raise e s).freeCount = s.freeCount := rfl
@[simp] theorem State.raise_lines (e : EventSource) (s : State) : (State.raise e s).lines = s.lines := rfl
@[simp] theorem State.raise_ps (e : EventSource) (s : State) : (State.raise e s).ps = s.ps := rfl
@[simp] theorem State.raise_setup (e : EventSource) (s : State) : (State.raise e s).setup = s.setup := rfl
@[simp] theorem State.raise_ht (e : EventSource) (s : State) : (State.raise e s).ht = s.ht := rfl
@[simp] theorem State.raise_pu (e : EventSource) (s : State) : (State.raise e s).pu = s.pu := rfl
@[simp] theorem State.raise_lc (e : EventSource) (s : State) : (State.raise e s).lc = s.lc := rfl
@[simp] theorem State.raise_pt (e : EventSource) (s : State) : (State.raise e s).pt = s.pt := rfl
@[simp] theorem State.raise_zc (e : EventSource) (s : State) : (State.raise e s).zc = s.zc := rfl
@[simp] theorem State.raise_ws (e : EventSource) (s : State) : (State.raise e s).ws = s.ws := rfl
@[simp] theorem State.raise_cs (e : EventSource) (s : State) : (State.raise e s).cs = s.cs := rfl
@[simp] theorem State.raise_ep (e : EventSource) (s : State) : (State.raise e s).ep = s.ep := rfl
@[simp] theorem State.raise_sa (e : EventSource) (s : State) : (State.raise e s).sa = s.sa := rfl
@[simp] theorem State.raise_du (e : EventSource) (s : State) : (State.raise e s).du = s.du := rfl
@[simp] theorem State.raise_sp (e : EventSource) (s : State) : (State.raise e s).sp = s.sp := rfl

/-! ### `State.recordCause` -/

@[simp] theorem State.recordCause_pending (src : FaultSource) (s : State) :
    (State.recordCause src s).pending = s.pending := rfl
@[simp] theorem State.recordCause_clock (src : FaultSource) (s : State) :
    (State.recordCause src s).clock = s.clock := rfl
@[simp] theorem State.recordCause_freeCount (src : FaultSource) (s : State) :
    (State.recordCause src s).freeCount = s.freeCount := rfl
@[simp] theorem State.recordCause_lines (src : FaultSource) (s : State) :
    (State.recordCause src s).lines = s.lines := rfl
@[simp] theorem State.recordCause_ps (src : FaultSource) (s : State) : (State.recordCause src s).ps = s.ps := rfl
@[simp] theorem State.recordCause_setup (src : FaultSource) (s : State) :
    (State.recordCause src s).setup = s.setup := rfl
@[simp] theorem State.recordCause_ht (src : FaultSource) (s : State) : (State.recordCause src s).ht = s.ht := rfl
@[simp] theorem State.recordCause_pu (src : FaultSource) (s : State) : (State.recordCause src s).pu = s.pu := rfl
@[simp] theorem State.recordCause_lc (src : FaultSource) (s : State) : (State.recordCause src s).lc = s.lc := rfl
@[simp] theorem State.recordCause_pt (src : FaultSource) (s : State) : (State.recordCause src s).pt = s.pt := rfl
@[simp] theorem State.recordCause_zc (src : FaultSource) (s : State) : (State.recordCause src s).zc = s.zc := rfl
@[simp] theorem State.recordCause_ws (src : FaultSource) (s : State) : (State.recordCause src s).ws = s.ws := rfl
@[simp] theorem State.recordCause_cs (src : FaultSource) (s : State) : (State.recordCause src s).cs = s.cs := rfl
@[simp] theorem State.recordCause_ep (src : FaultSource) (s : State) : (State.recordCause src s).ep = s.ep := rfl
@[simp] theorem State.recordCause_sa (src : FaultSource) (s : State) : (State.recordCause src s).sa = s.sa := rfl
@[simp] theorem State.recordCause_du (src : FaultSource) (s : State) : (State.recordCause src s).du = s.du := rfl
@[simp] theorem State.recordCause_eu (src : FaultSource) (s : State) :
    (State.recordCause src s).eu = { s.eu with cause := some { source := src, stateLeft := s.ws.state, time := s.clock, cleared := false } } := rfl
@[simp] theorem State.recordCause_sp (src : FaultSource) (s : State) : (State.recordCause src s).sp = s.sp := rfl

/-! ### `State.closeStream` -/

@[simp] theorem State.closeStream_pending (s : State) : (State.closeStream s).pending = s.pending := rfl
@[simp] theorem State.closeStream_clock (s : State) : (State.closeStream s).clock = s.clock := rfl
@[simp] theorem State.closeStream_freeCount (s : State) : (State.closeStream s).freeCount = s.freeCount := rfl
@[simp] theorem State.closeStream_lines (s : State) : (State.closeStream s).lines = s.lines := rfl
@[simp] theorem State.closeStream_ps (s : State) : (State.closeStream s).ps = s.ps := rfl
@[simp] theorem State.closeStream_setup (s : State) : (State.closeStream s).setup = s.setup := rfl
@[simp] theorem State.closeStream_ht (s : State) : (State.closeStream s).ht = s.ht := rfl
@[simp] theorem State.closeStream_pu (s : State) : (State.closeStream s).pu = s.pu := rfl
@[simp] theorem State.closeStream_lc (s : State) : (State.closeStream s).lc = s.lc := rfl
@[simp] theorem State.closeStream_pt (s : State) : (State.closeStream s).pt = s.pt := rfl
@[simp] theorem State.closeStream_zc (s : State) : (State.closeStream s).zc = s.zc := rfl
@[simp] theorem State.closeStream_ws (s : State) : (State.closeStream s).ws = s.ws := rfl
@[simp] theorem State.closeStream_cs (s : State) : (State.closeStream s).cs = s.cs := rfl
@[simp] theorem State.closeStream_ep (s : State) :
    (State.closeStream s).ep = { s.ep with stream := none, partialReport := [], deadline := none, stopped := .no } := rfl
@[simp] theorem State.closeStream_sa (s : State) : (State.closeStream s).sa = s.sa := rfl
@[simp] theorem State.closeStream_du (s : State) : (State.closeStream s).du = s.du := rfl
@[simp] theorem State.closeStream_eu (s : State) : (State.closeStream s).eu = s.eu := rfl
@[simp] theorem State.closeStream_sp (s : State) : (State.closeStream s).sp = s.sp := rfl

/-! ### `State.raiseFlag` -/

@[simp] theorem State.raiseFlag_pending (w : Word) (s : State) : (State.raiseFlag w s).pending = s.pending := rfl
@[simp] theorem State.raiseFlag_clock (w : Word) (s : State) : (State.raiseFlag w s).clock = s.clock := rfl
@[simp] theorem State.raiseFlag_freeCount (w : Word) (s : State) : (State.raiseFlag w s).freeCount = s.freeCount := rfl
@[simp] theorem State.raiseFlag_lines (w : Word) (s : State) : (State.raiseFlag w s).lines = s.lines := rfl
@[simp] theorem State.raiseFlag_ps (w : Word) (s : State) : (State.raiseFlag w s).ps = s.ps := rfl
@[simp] theorem State.raiseFlag_setup (w : Word) (s : State) : (State.raiseFlag w s).setup = s.setup := rfl
@[simp] theorem State.raiseFlag_ht (w : Word) (s : State) : (State.raiseFlag w s).ht = s.ht := rfl
@[simp] theorem State.raiseFlag_pu (w : Word) (s : State) : (State.raiseFlag w s).pu = s.pu := rfl
@[simp] theorem State.raiseFlag_lc (w : Word) (s : State) : (State.raiseFlag w s).lc = s.lc := rfl
@[simp] theorem State.raiseFlag_pt (w : Word) (s : State) : (State.raiseFlag w s).pt = s.pt := rfl
@[simp] theorem State.raiseFlag_zc (w : Word) (s : State) : (State.raiseFlag w s).zc = s.zc := rfl
@[simp] theorem State.raiseFlag_ws (w : Word) (s : State) : (State.raiseFlag w s).ws = s.ws := rfl
@[simp] theorem State.raiseFlag_cs (w : Word) (s : State) : (State.raiseFlag w s).cs = s.cs := rfl
@[simp] theorem State.raiseFlag_ep (w : Word) (s : State) :
    (State.raiseFlag w s).ep = { s.ep with commandLines := w, commandFlag := true, handshake := .awaitingResume, responseDeadline := some (s.clock + s.cfg.responseTimeout) } := rfl
@[simp] theorem State.raiseFlag_sa (w : Word) (s : State) : (State.raiseFlag w s).sa = s.sa := rfl
@[simp] theorem State.raiseFlag_du (w : Word) (s : State) : (State.raiseFlag w s).du = s.du := rfl
@[simp] theorem State.raiseFlag_eu (w : Word) (s : State) : (State.raiseFlag w s).eu = s.eu := rfl
@[simp] theorem State.raiseFlag_sp (w : Word) (s : State) : (State.raiseFlag w s).sp = s.sp := rfl

/-! ### `State.heard` -/

@[simp] theorem State.heard_pending (f : List Byte) (s : State) : (State.heard f s).pending = s.pending := rfl
@[simp] theorem State.heard_clock (f : List Byte) (s : State) : (State.heard f s).clock = s.clock := rfl
@[simp] theorem State.heard_freeCount (f : List Byte) (s : State) : (State.heard f s).freeCount = s.freeCount := rfl
@[simp] theorem State.heard_lines (f : List Byte) (s : State) : (State.heard f s).lines = s.lines := rfl
@[simp] theorem State.heard_ps (f : List Byte) (s : State) : (State.heard f s).ps = s.ps := rfl
@[simp] theorem State.heard_setup (f : List Byte) (s : State) : (State.heard f s).setup = s.setup := rfl
@[simp] theorem State.heard_ht (f : List Byte) (s : State) : (State.heard f s).ht = s.ht := rfl
@[simp] theorem State.heard_pu (f : List Byte) (s : State) : (State.heard f s).pu = s.pu := rfl
@[simp] theorem State.heard_lc (f : List Byte) (s : State) :
    (State.heard f s).lc = { s.lc with rxBuffer := f, quiet := Config.frameEndRest, stamp := s.lc.stamp + 1 } := rfl
@[simp] theorem State.heard_pt (f : List Byte) (s : State) : (State.heard f s).pt = s.pt := rfl
@[simp] theorem State.heard_zc (f : List Byte) (s : State) : (State.heard f s).zc = s.zc := rfl
@[simp] theorem State.heard_ws (f : List Byte) (s : State) : (State.heard f s).ws = s.ws := rfl
@[simp] theorem State.heard_cs (f : List Byte) (s : State) : (State.heard f s).cs = s.cs := rfl
@[simp] theorem State.heard_ep (f : List Byte) (s : State) : (State.heard f s).ep = s.ep := rfl
@[simp] theorem State.heard_sa (f : List Byte) (s : State) : (State.heard f s).sa = s.sa := rfl
@[simp] theorem State.heard_du (f : List Byte) (s : State) : (State.heard f s).du = s.du := rfl
@[simp] theorem State.heard_eu (f : List Byte) (s : State) : (State.heard f s).eu = s.eu := rfl
@[simp] theorem State.heard_sp (f : List Byte) (s : State) : (State.heard f s).sp = s.sp := rfl

/-! ### Reading back what an update wrote -/

@[simp] theorem State.setRecord_record (d : Datum) (r : DatumRecord) (s : State) : (s.setRecord d r).pu.record d = r := by
  cases d <;> rfl

theorem State.setRecord_record_other {d e : Datum} (h : e ≠ d) (r : DatumRecord) (s : State) :
    (s.setRecord d r).pu.record e = s.pu.record e := by
  cases d <;> cases e <;> first | rfl | exact absurd rfl h

@[simp] theorem State.setRecord_prober (d : Datum) (r : DatumRecord) (s : State) : (s.setRecord d r).pu.prober = s.pu.prober := by
  cases d <;> rfl

@[simp] theorem State.putZone_zone (side : Side) (z : ZoneRecord) (s : State) : (s.putZone side z).zone side = z := by
  cases side <;> rfl

theorem State.putZone_zone_other {side other : Side} (h : other ≠ side) (z : ZoneRecord) (s : State) :
    (s.putZone side z).zone other = s.zone other := by
  cases side <;> cases other <;> first | rfl | exact absurd rfl h

@[simp] theorem State.putZone_state (side : Side) (z : ZoneRecord) (s : State) : (s.putZone side z).ws.state = s.ws.state := by
  cases side <;> rfl

@[simp] theorem State.onZone_zone (side : Side) (f : ZoneRecord → ZoneRecord) (s : State) :
    (s.onZone side f).zone side = f (s.zone side) := State.putZone_zone side _ s

theorem State.setPeer_peer (j : Nat) (e : PeerEntry) (s : State) (h : j - 1 < s.pt.peers.length) :
    (s.setPeer j e).peer j = e := by
  simp [State.peer, h]

theorem State.setPeer_peer_other {j n : Nat} (h : n - 1 ≠ j - 1) (e : PeerEntry) (s : State) :
    (s.setPeer j e).peer n = s.peer n := by
  simp [State.peer, List.getElem?_set_ne (Ne.symm h)]

theorem State.setDraw_drawEntry (j : Nat) (e : Option DrawEntry) (s : State) (h : j - 1 < s.du.table.length) :
    (s.setDraw j e).drawEntry j = e := by
  simp [State.drawEntry, h]

theorem State.setDraw_drawEntry_other {j n : Nat} (h : n - 1 ≠ j - 1) (e : Option DrawEntry) (s : State) :
    (s.setDraw j e).drawEntry n = s.drawEntry n := by
  simp [State.drawEntry, List.getElem?_set_ne (Ne.symm h)]

/-- A source raised: its record counted, the others as they were (R162). -/
theorem State.raise_sources (e : EventSource) (s : State) :
    (s.raise e).eu.sources = s.eu.sources.modify e.index (SourceRecord.raised (s.levels.getD e.index 0)) := rfl

@[simp] theorem State.raise_cause (e : EventSource) (s : State) : (s.raise e).eu.cause = s.eu.cause := rfl

@[simp] theorem State.raise_linkSuccess (e : EventSource) (s : State) : (s.raise e).eu.linkSuccess = s.eu.linkSuccess := rfl

@[simp] theorem State.raise_levels (e : EventSource) (s : State) : (s.raise e).levels = s.levels := rfl

end Sys2Proof.Machine
end

