-- ==== Sys2Proof/Laws/Ops.lean ====
section
/-! SUPPORT. What each shared operation can do: HT's entries, LC's queue, the events, the port's flag, and repeated passes. -/

namespace Sys2Proof.Machine

open Sys2Proof (Byte Word Data Stamp Datum Side Instr)

/-! ### Entries (R10) -/

/-- Writing an entry changes the hole table at that place and may set WS's retest, and nothing else. -/
theorem State.putEntry_eq (h : Nat) (e : HoleEntry) (s : State) :
    s.putEntry h e = { s with ht := s.ht.set h e, ws.retest := (s.putEntry h e).ws.retest } := by
  unfold State.putEntry
  split
  · rename_i h1
    have : s.ht.set h e = s.ht := by
      apply List.ext_getElem?
      intro i
      by_cases hi : h = i
      · subst hi
        obtain ⟨hl, -⟩ := List.getElem?_eq_some_iff.mp h1
        simp [hl, ← h1]
      · simp [hi]
    rw [this]
  · rfl

@[simp] theorem State.putEntry_ht (h : Nat) (e : HoleEntry) (s : State) : (s.putEntry h e).ht = s.ht.set h e := by
  rw [State.putEntry_eq]

@[simp] theorem State.putEntry_work (h : Nat) (e : HoleEntry) (s : State) : (s.putEntry h e).ws.state = s.ws.state := by
  rw [State.putEntry_eq]

@[simp] theorem State.putEntry_lc (h : Nat) (e : HoleEntry) (s : State) : (s.putEntry h e).lc = s.lc := by
  rw [State.putEntry_eq]

@[simp] theorem State.putEntry_setup (h : Nat) (e : HoleEntry) (s : State) : (s.putEntry h e).setup = s.setup := by
  rw [State.putEntry_eq]

/-! ### LC's queue (R49 to R51) -/

@[simp] theorem insertByClass_length (f : TxFrame) (q : List TxFrame) : (insertByClass f q).length = q.length + 1 := by
  induction q with
  | nil => rfl
  | cons g q ih => unfold insertByClass; split <;> simp [ih]

/-- The queue after an admission holds the frame admitted and what it held before. -/
theorem mem_insertByClass (f g : TxFrame) (q : List TxFrame) : g ∈ insertByClass f q ↔ g = f ∨ g ∈ q := by
  induction q with
  | nil => simp [insertByClass]
  | cons a q ih =>
    unfold insertByClass
    split
    · simp only [List.mem_cons, ih]
      tauto
    · simp

/-- A frame of class 0 enters the queue behind the frames of class 0 that lead it. -/
theorem insertByClass_class0 (g : TxFrame) (hg : g.body.accessClass = 0) (q : List TxFrame) :
    ∃ a b : List TxFrame, q = a ++ b ∧ insertByClass g q = a ++ g :: b ∧ (∀ f ∈ a, f.body.accessClass = 0)
      ∧ ∀ f, b.head? = some f → f.body.accessClass ≠ 0 := by
  induction q with
  | nil => exact ⟨[], [], rfl, rfl, by simp, by simp⟩
  | cons h q ih =>
    unfold insertByClass
    split
    · obtain ⟨a, b, h1, h2, h3, h4⟩ := ih
      refine ⟨h :: a, b, by simp [h1], by simp [h2], fun f hf => ?_, h4⟩
      rcases List.mem_cons.mp hf with rfl | hf
      · omega
      · exact h3 f hf
    · refine ⟨[], h :: q, rfl, rfl, by simp, fun f hf => ?_⟩
      simp only [List.head?_cons, Option.some.injEq] at hf
      subst hf
      omega

/-- LC keeps a frame, queued or held, by its name. -/
theorem State.frameKept_iff (id : Nat) (s : State) : s.frameKept id = true ↔ ∃ f ∈ s.lc.queue ++ s.lc.held, f.id = id := by
  simp [State.frameKept, or_and_right, exists_or]

/-- An offer changes LC's queue or held frames and the next name, and nothing else. -/
theorem State.offer_eq (o : Owner) (b : Body) (s : State) :
    s.offer o b = { s with lc.queue := (s.offer o b).lc.queue, lc.held := (s.offer o b).lc.held,
                           lc.nextId := s.lc.nextId + 1 } := by
  unfold State.offer; dsimp only; split <;> rfl

/-- An offer never overfills the queue. -/
theorem State.offer_fits (o : Owner) (b : Body) (s : State) (h : s.queueFits) : (s.offer o b).queueFits := by
  unfold State.offer
  dsimp only
  split
  · simp only [State.queueFits, insertByClass_length]
    omega
  · exact h

/-- With room in the queue, an offered frame is in it. -/
theorem State.offer_queued (o : Owner) (b : Body) (s : State) (h : s.lc.queue.length < Config.queueSize) :
    ∃ f ∈ (s.offer o b).lc.queue, f.id = s.lc.nextId ∧ f.owner = o ∧ f.body = b := by
  unfold State.offer
  simp only [h, if_true]
  exact ⟨_, (mem_insertByClass _ _ _).mpr (Or.inl rfl), rfl, rfl, rfl⟩

/-- An offered frame waits with LC, queued or held. -/
theorem State.offer_offered (o : Owner) (b : Body) (s : State) : (s.offer o b).offered o b := by
  unfold State.offer State.offered
  dsimp only
  split
  · exact ⟨_, List.mem_append_left _ ((mem_insertByClass _ _ _).mpr (Or.inl rfl)), rfl, rfl⟩
  · exact ⟨_, List.mem_append_right _ (List.mem_append_right _ (List.mem_singleton.mpr rfl)), rfl, rfl⟩

/-- An offer leaves what waited with LC waiting. -/
theorem State.offer_keeps (o : Owner) (b : Body) (s : State) (f : TxFrame) (h : f ∈ s.lc.queue ++ s.lc.held) :
    f ∈ (s.offer o b).lc.queue ++ (s.offer o b).lc.held := by
  unfold State.offer
  dsimp only
  rcases List.mem_append.mp h with h | h <;> split
  · exact List.mem_append_left _ ((mem_insertByClass _ _ _).mpr (Or.inr h))
  · exact List.mem_append_left _ h
  · exact List.mem_append_right _ h
  · exact List.mem_append_right _ (List.mem_append_left _ h)

/-- An admission keeps the queue in the order of access class (R49). -/
theorem insertByClass_ordered (f : TxFrame) (q : List TxFrame) (h : (q.map (·.body.accessClass)).Pairwise (· ≤ ·)) :
    ((insertByClass f q).map (·.body.accessClass)).Pairwise (· ≤ ·) := by
  induction q with
  | nil => simp [insertByClass]
  | cons g q ih =>
    simp only [List.map_cons, List.pairwise_cons, List.mem_map, forall_exists_index, and_imp,
      forall_apply_eq_imp_iff₂] at h
    unfold insertByClass
    split
    · rename_i hg
      simp only [List.map_cons, List.pairwise_cons, List.mem_map, forall_exists_index, and_imp, forall_apply_eq_imp_iff₂]
      refine ⟨fun x hx => ?_, ih h.2⟩
      rcases (mem_insertByClass _ _ _).mp hx with rfl | hx
      · exact hg
      · exact h.1 x hx
    · rename_i hg
      simp only [List.map_cons, List.pairwise_cons, List.mem_cons, List.mem_map, forall_eq_or_imp, forall_exists_index,
        and_imp, forall_apply_eq_imp_iff₂]
      exact ⟨⟨by omega, fun x hx => by have := h.1 x hx; omega⟩, h.1, h.2⟩

@[simp] theorem State.offer_ht (o : Owner) (b : Body) (s : State) : (s.offer o b).ht = s.ht := by rw [State.offer_eq]
@[simp] theorem State.offer_ws (o : Owner) (b : Body) (s : State) : (s.offer o b).ws = s.ws := by rw [State.offer_eq]
@[simp] theorem State.offer_zc (o : Owner) (b : Body) (s : State) : (s.offer o b).zc = s.zc := by rw [State.offer_eq]
@[simp] theorem State.offer_du (o : Owner) (b : Body) (s : State) : (s.offer o b).du = s.du := by rw [State.offer_eq]
@[simp] theorem State.offer_cs (o : Owner) (b : Body) (s : State) : (s.offer o b).cs = s.cs := by rw [State.offer_eq]
@[simp] theorem State.offer_ep (o : Owner) (b : Body) (s : State) : (s.offer o b).ep = s.ep := by rw [State.offer_eq]
@[simp] theorem State.offer_eu (o : Owner) (b : Body) (s : State) : (s.offer o b).eu = s.eu := by rw [State.offer_eq]
@[simp] theorem State.offer_lines (o : Owner) (b : Body) (s : State) : (s.offer o b).lines = s.lines := by rw [State.offer_eq]

/-- Queuing an owed correction adds one frame at most. -/
theorem State.queueOwed_length (h : Nat) (s : State) : (s.queueOwed h).lc.queue.length ≤ s.lc.queue.length + 1 := by
  unfold State.queueOwed; split <;> simp

/-- Admitting a held frame never overfills the queue. -/
theorem State.admitOne_fits (s : State) (h : s.queueFits) : s.admitOne.queueFits := by
  unfold State.admitOne
  split
  · rename_i hr
    split
    · exact h
    · dsimp only
      split
      · split
        · exact Nat.le_trans (State.queueOwed_length _ _) hr
        · exact h
      · simp only [State.queueFits, insertByClass_length]
        omega
  · exact h

/-- A frame in flight is not removed (R51). -/
theorem State.removeFrame_inFlight (id : Nat) (s : State) (h : s.inFlight id = true) : s.removeFrame id = s := by
  simp [State.removeFrame, h]

/-- A frame in flight is not replaced (R51). -/
theorem State.replaceFrame_inFlight (id : Nat) (b : Body) (s : State) (h : s.inFlight id = true) :
    s.replaceFrame id b = s := by
  simp [State.replaceFrame, h]

/-! ### Repeated passes -/

/-- What one step keeps, any number of them keeps. -/
theorem repeatState_keeps {P : State → Prop} {f : State → State} (h : ∀ s, P s → P (f s)) (n : Nat) (s : State) (hs : P s) :
    P (repeatState f n s) := by
  induction n generalizing s with
  | zero => exact hs
  | succ n ih => exact ih _ (h _ hs)

theorem State.admitHeld_fits (s : State) (h : s.queueFits) : s.admitHeld.queueFits :=
  repeatState_keeps (P := State.queueFits) State.admitOne_fits _ _ h

/-- Removing a frame never overfills the queue. -/
theorem State.removeFrame_fits (id : Nat) (s : State) (h : s.queueFits) : (s.removeFrame id).queueFits := by
  unfold State.removeFrame
  split
  · exact h
  · exact State.admitHeld_fits _ (Nat.le_trans (List.length_filter_le _ _) h)

/-- What one pass keeps, what follows a command keeps. -/
theorem State.settle_keeps {P : State → Prop} (h : ∀ s, P s → P s.settleOnce) (s : State) (hs : P s) : P s.settle :=
  repeatState_keeps h 8 s hs

/-! ### Events (R162 to R165) -/

theorem State.annunciate_agrees (s : State) : s.annunciate.annunciatorAgrees := rfl

theorem State.raise_agrees (e : EventSource) (s : State) : (s.raise e).annunciatorAgrees := rfl

/-- Raising keeps the number of sources. -/
@[simp] theorem State.raise_sources_length (e : EventSource) (s : State) :
    (s.raise e).eu.sources.length = s.eu.sources.length := by
  simp [State.raise_sources]

/-- No pending source shows as level 0. -/
theorem highestPending_none (levels : List Nat) (sources : List SourceRecord) (h : ∀ r ∈ sources, r.pending = false) :
    highestPending levels sources = 0 := by
  unfold highestPending
  have : ∀ l : List Nat, (∀ v ∈ l, v = 0) → l.foldl max 0 = 0 := by
    intro l
    induction l with
    | nil => intro _; rfl
    | cons a l ih => intro hl; simp_all
  apply this
  intro v hv
  simp only [List.mem_map] at hv
  obtain ⟨p, hp, rfl⟩ := hv
  simp [h _ (List.of_mem_zip hp).2]

/-! ### The effector port's flag (R107, R116) -/

/-- Lowering COMMAND FLAG changes the flag and, where it was raised, the time of its fall. -/
theorem State.lowerFlag_eq (s : State) :
    s.lowerFlag = { s with ep.commandFlag := false, ep.flagFell := if s.ep.commandFlag then s.clock else s.ep.flagFell } := by
  unfold State.lowerFlag
  by_cases h : s.ep.commandFlag = true
  · simp [h]
  · rw [if_neg h, if_neg h, ← Bool.eq_false_of_not_eq_true h]

@[simp] theorem State.lowerFlag_down (s : State) : s.lowerFlag.ep.commandFlag = false := by rw [State.lowerFlag_eq]

/-! ### Work states -/

theorem State.setWork_linesAgree (w : WorkState) (s : State) : (s.setWork w).linesAgree := by
  simp [State.linesAgree, State.setWork]

/-- In UNCONFIGURED and HALTED a pass does nothing. -/
theorem State.settleOnce_rest (s : State) (h : s.ws.state.online = false) : s.settleOnce = s := by
  simp [State.settleOnce, h]

end Sys2Proof.Machine
end

