-- ==== Sys2Proof/Laws/PerInstr.lean ====
section
/-! SUPPORT. The lengths of what well-formed commands carry, one lemma per command. -/

namespace Sys2Proof.Laws.CarriedLength

open Sys2Proof Sys2Proof.Machine

/-- The frame a row of a frame heard carries, but for a discarded one. -/
def frameOf : Instr → Option (List Byte)
  | .presenceReceived f => some f
  | .datumReceived f => some f
  | .claimReceived f => some f
  | .releaseReceived f => some f
  | .reportDrilledReceived f => some f
  | .reportSetReceived f => some f
  | .reportRejectedReceived f => some f
  | .correctionReceived f => some f
  | .reworkCorrectionReceived f => some f
  | .zoneSeizeReceived f => some f
  | .zoneReleaseReceived f => some f
  | .zoneRequestReceived f => some f
  | .drawIntentReceived f => some f
  | .drawDoneReceived f => some f
  | .drawWithdrawReceived f => some f
  | _ => none

/-- The bytes a request row carries. -/
def requestOf : Instr → Option (List Byte)
  | .writeSetup b => some b
  | .readSetup b => some b
  | .loadPlanHeader b => some b
  | .loadPlanGroup b => some b
  | .loadPlanHole b => some b
  | .commitPlan b => some b
  | .readStatus b => some b
  | .readHole b => some b
  | .readPeer b => some b
  | .readEvents b => some b
  | .errorClear b => some b
  | .stationClear b => some b
  | .reworkHole b => some b
  | _ => none

/-- A well-formed command's frame has 4 to 22 bytes (R42); the bytes that complete a request are 1 to 517 (R176). -/
def Statement (i : Instr) : Prop :=
  i.wf = true →
    (∀ f, frameOf i = some f → 4 ≤ f.length ∧ f.length ≤ 22)
    ∧ (∀ b, requestOf i = some b → 1 ≤ b.length ∧ b.length ≤ 517)

/-- Every kind of frame is 4 to 22 bytes long (R42). -/
theorem kind_bounds {k n : Nat} (h : kindLength k = some n) : 4 ≤ n ∧ n ≤ 22 := by
  unfold kindLength at h
  split at h <;> first | (cases h; decide) | cases h

/-- A frame that says anything has a length that its kind gives. -/
theorem frame_bounds {p : Body → Bool} {f : List Byte} (h : frameIs p f = true) : 4 ≤ f.length ∧ f.length ≤ 22 := by
  unfold frameIs frameBody at h
  split at h
  · cases hs : splitFrame f with
    | none => simp [hs] at h
    | some r =>
      unfold splitFrame at hs
      split at hs
      · cases hs
      · dsimp only at hs
        split at hs
        · exact kind_bounds ‹_›
        · cases hs
  · cases h

theorem request_bounds {code : Nat} {b : List Byte} (h : requestIs code b = true) : 1 ≤ b.length ∧ b.length ≤ 517 := by
  unfold requestIs at h
  simp only [Bool.and_eq_true, decide_eq_true_eq, ne_eq] at h
  exact ⟨List.length_pos_iff.mpr h.1.1, h.1.2⟩

/-- A row that carries neither. -/
theorem neither {i : Instr} (hf : frameOf i = none) (hb : requestOf i = none) : Statement i := by
  intro _
  simp [hf, hb]

theorem byFrame {i : Instr} {p : Body → Bool} {f : List Byte} (hf : frameOf i = some f) (hb : requestOf i = none)
    (hw : i.wf = frameIs p f) : Statement i := by
  intro h
  rw [hw] at h
  refine ⟨fun g hg => ?_, fun b h' => absurd (hb.symm.trans h') (by simp)⟩
  rw [hf] at hg
  cases hg
  exact frame_bounds h

theorem byRequest {i : Instr} {code : Nat} {b : List Byte} (hb : requestOf i = some b) (hf : frameOf i = none)
    (hw : i.wf = requestIs code b) : Statement i := by
  intro h
  rw [hw] at h
  refine ⟨fun g h' => absurd (hf.symm.trans h') (by simp), fun c hc => ?_⟩
  rw [hb] at hc
  cases hc
  exact request_bounds h

theorem powerOn : Statement .powerOn := neither rfl rfl
theorem jigClosed : Statement .jigClosed := neither rfl rfl
theorem jigOpen : Statement .jigOpen := neither rfl rfl
theorem stationReset (width : Nat) : Statement (.stationReset width) := neither rfl rfl
theorem ack (width : Nat) : Statement (.ack width) := neither rfl rfl
theorem effectorReadyFall (width : Nat) : Statement (.effectorReadyFall width) := neither rfl rfl
theorem serviceByte (b : Byte) : Statement (.serviceByte b) := neither rfl rfl
theorem serviceByteGap : Statement .serviceByteGap := neither rfl rfl
theorem answerSent : Statement .answerSent := neither rfl rfl
theorem writeSetup (bytes : List Byte) : Statement (.writeSetup bytes) := byRequest rfl rfl rfl
theorem readSetup (bytes : List Byte) : Statement (.readSetup bytes) := byRequest rfl rfl rfl
theorem loadPlanHeader (bytes : List Byte) : Statement (.loadPlanHeader bytes) := byRequest rfl rfl rfl
theorem loadPlanGroup (bytes : List Byte) : Statement (.loadPlanGroup bytes) := byRequest rfl rfl rfl
theorem loadPlanHole (bytes : List Byte) : Statement (.loadPlanHole bytes) := byRequest rfl rfl rfl
theorem commitPlan (bytes : List Byte) : Statement (.commitPlan bytes) := byRequest rfl rfl rfl
theorem readStatus (bytes : List Byte) : Statement (.readStatus bytes) := byRequest rfl rfl rfl
theorem readHole (bytes : List Byte) : Statement (.readHole bytes) := byRequest rfl rfl rfl
theorem readPeer (bytes : List Byte) : Statement (.readPeer bytes) := byRequest rfl rfl rfl
theorem readEvents (bytes : List Byte) : Statement (.readEvents bytes) := byRequest rfl rfl rfl
theorem errorClear (bytes : List Byte) : Statement (.errorClear bytes) := byRequest rfl rfl rfl
theorem stationClear (bytes : List Byte) : Statement (.stationClear bytes) := byRequest rfl rfl rfl
theorem reworkHole (bytes : List Byte) : Statement (.reworkHole bytes) := byRequest rfl rfl rfl
theorem frameDiscarded (frame : List Byte) : Statement (.frameDiscarded frame) := neither rfl rfl
theorem presenceReceived (frame : List Byte) : Statement (.presenceReceived frame) := byFrame rfl rfl rfl
theorem datumReceived (frame : List Byte) : Statement (.datumReceived frame) := byFrame rfl rfl rfl
theorem claimReceived (frame : List Byte) : Statement (.claimReceived frame) := byFrame rfl rfl rfl
theorem releaseReceived (frame : List Byte) : Statement (.releaseReceived frame) := byFrame rfl rfl rfl
theorem reportDrilledReceived (frame : List Byte) : Statement (.reportDrilledReceived frame) := byFrame rfl rfl rfl
theorem reportSetReceived (frame : List Byte) : Statement (.reportSetReceived frame) := byFrame rfl rfl rfl
theorem reportRejectedReceived (frame : List Byte) : Statement (.reportRejectedReceived frame) := byFrame rfl rfl rfl
theorem correctionReceived (frame : List Byte) : Statement (.correctionReceived frame) := byFrame rfl rfl rfl
theorem reworkCorrectionReceived (frame : List Byte) : Statement (.reworkCorrectionReceived frame) := byFrame rfl rfl rfl
theorem zoneSeizeReceived (frame : List Byte) : Statement (.zoneSeizeReceived frame) := byFrame rfl rfl rfl
theorem zoneReleaseReceived (frame : List Byte) : Statement (.zoneReleaseReceived frame) := byFrame rfl rfl rfl
theorem zoneRequestReceived (frame : List Byte) : Statement (.zoneRequestReceived frame) := byFrame rfl rfl rfl
theorem drawIntentReceived (frame : List Byte) : Statement (.drawIntentReceived frame) := byFrame rfl rfl rfl
theorem drawDoneReceived (frame : List Byte) : Statement (.drawDoneReceived frame) := byFrame rfl rfl rfl
theorem drawWithdrawReceived (frame : List Byte) : Statement (.drawWithdrawReceived frame) := byFrame rfl rfl rfl
theorem transmitStart (quiet : Nat) : Statement (.transmitStart quiet) := neither rfl rfl
theorem attemptFailed : Statement .attemptFailed := neither rfl rfl
theorem presenceReadBack : Statement .presenceReadBack := neither rfl rfl
theorem datumReadBack : Statement .datumReadBack := neither rfl rfl
theorem claimReadBack : Statement .claimReadBack := neither rfl rfl
theorem releaseReadBack : Statement .releaseReadBack := neither rfl rfl
theorem reportReadBack : Statement .reportReadBack := neither rfl rfl
theorem correctionReadBack : Statement .correctionReadBack := neither rfl rfl
theorem zoneSeizeReadBack : Statement .zoneSeizeReadBack := neither rfl rfl
theorem zoneRequestReadBack : Statement .zoneRequestReadBack := neither rfl rfl
theorem zoneReleaseReadBack : Statement .zoneReleaseReadBack := neither rfl rfl
theorem drawIntentReadBack : Statement .drawIntentReadBack := neither rfl rfl
theorem drawWithdrawReadBack : Statement .drawWithdrawReadBack := neither rfl rfl
theorem drawDoneReadBack : Statement .drawDoneReadBack := neither rfl rfl
theorem presenceIntervalExpiry : Statement .presenceIntervalExpiry := neither rfl rfl
theorem datumExpiry (d : Datum) : Statement (.datumExpiry d) := neither rfl rfl
theorem proberAgeDue : Statement .proberAgeDue := neither rfl rfl
theorem retryDeadline : Statement .retryDeadline := neither rfl rfl
theorem peerSilent (j : Nat) : Statement (.peerSilent j) := neither rfl rfl
theorem peerLost (j : Nat) : Statement (.peerLost j) := neither rfl rfl
theorem selfLapse (side : Side) : Statement (.selfLapse side) := neither rfl rfl
theorem yieldDeadline (side : Side) : Statement (.yieldDeadline side) := neither rfl rfl
theorem drawEntryExpiry (j : Nat) : Statement (.drawEntryExpiry j) := neither rfl rfl
theorem settleDeadline : Statement .settleDeadline := neither rfl rfl
theorem waitDeadline : Statement .waitDeadline := neither rfl rfl
theorem nextPoll : Statement .nextPoll := neither rfl rfl
theorem pressureWaitLimit : Statement .pressureWaitLimit := neither rfl rfl
theorem ownIntentRenewal : Statement .ownIntentRenewal := neither rfl rfl
theorem clampSettleExpiry : Statement .clampSettleExpiry := neither rfl rfl
theorem ramRecoveryExpiry : Statement .ramRecoveryExpiry := neither rfl rfl
theorem resumeRise : Statement .resumeRise := neither rfl rfl
theorem resumeFall : Statement .resumeFall := neither rfl rfl
theorem responseTimeout : Statement .responseTimeout := neither rfl rfl
theorem completionDeadline : Statement .completionDeadline := neither rfl rfl
theorem reportFlagFall : Statement .reportFlagFall := neither rfl rfl
theorem reportWord (word : Word) (mark : Bool) : Statement (.reportWord word mark) := neither rfl rfl
theorem doneReport (data : Data) (mark : Bool) : Statement (.doneReport data mark) := neither rfl rfl
theorem positionReport (data : Data) (mark : Bool) : Statement (.positionReport data mark) := neither rfl rfl
theorem thrustReport (data : Data) (mark : Bool) : Statement (.thrustReport data mark) := neither rfl rfl
theorem senseReport (data : Data) (mark : Bool) : Statement (.senseReport data mark) := neither rfl rfl
theorem gaugeReport (data : Data) (mark : Bool) : Statement (.gaugeReport data mark) := neither rfl rfl
theorem squeezeReport (data : Data) (mark : Bool) : Statement (.squeezeReport data mark) := neither rfl rfl
theorem pressureReport (data : Data) (mark : Bool) : Statement (.pressureReport data mark) := neither rfl rfl
theorem faultReport (data : Data) (mark : Bool) : Statement (.faultReport data mark) := neither rfl rfl
theorem refusedReport (data : Data) (mark : Bool) : Statement (.refusedReport data mark) := neither rfl rfl
theorem serviceLineQuiet : Statement .serviceLineQuiet := neither rfl rfl

end Sys2Proof.Laws.CarriedLength
end

