-- ==== Sys2Proof/Laws/Tables.lean ====
section
/-! SUPPORT. Every operation keeps the tables whole: eight peer entries, eight draw entries, and zones' bounds in order. -/

namespace Sys2Proof.Machine

open Sys2Proof (Byte Word Data Stamp Datum Side Instr)

/-- The whole tables, side by side. -/
theorem State.tablesWhole_iff (s : State) : s.tablesWhole ↔ s.pt.peers.length = 8 ∧ s.du.table.length = 8
    ∧ (∀ b, s.zc.left.bounds = some b → b.1 ≤ b.2) ∧ ∀ b, s.zc.right.bounds = some b → b.1 ≤ b.2 := by
  unfold State.tablesWhole
  exact ⟨fun ⟨h1, h2, h3⟩ => ⟨h1, h2, h3 .left, h3 .right⟩,
    fun ⟨h1, h2, h3, h4⟩ => ⟨h1, h2, fun side => by cases side; exacts [h3, h4]⟩⟩

/-- A state written over another, with tables of the same lengths and zones whose bounds are as they were. -/
@[simp] theorem State.tables_mk (s : State) (n fc : Nat) (l : Lines) (ps : PlanStore) (c : Option Setup) (ht : List HoleEntry)
    (pu : PositionUnit) (lc : LinkController) (pt : PeerTable) (zc : ZoneController) (ws : WorkSelector) (cs : CycleSequencer)
    (ep : EffectorPort) (sa : StackAnalyser) (du : DrawUnit) (eu : EventUnit) (sp : ServicePort) (hs : s.tablesWhole)
    (h1 : pt.peers.length = s.pt.peers.length) (h2 : du.table.length = s.du.table.length)
    (h3 : zc.left.bounds = s.zc.left.bounds) (h4 : zc.right.bounds = s.zc.right.bounds) :
    State.tablesWhole ⟨s.pending, n, fc, l, ps, c, ht, pu, lc, pt, zc, ws, cs, ep, sa, du, eu, sp⟩ := by
  rw [State.tablesWhole_iff] at hs ⊢
  dsimp only
  rw [h1, h2, h3, h4]
  exact hs

theorem foldl_tables {α : Type} (f : State → α → State) (h : ∀ s x, s.tablesWhole → (f s x).tablesWhole) (l : List α) (s : State)
    (hs : s.tablesWhole) : (l.foldl f s).tablesWhole := by
  induction l generalizing s with
  | nil => exact hs
  | cons a l ih => exact ih _ (h _ _ hs)

theorem repeatState_tables (f : State → State) (h : ∀ s, s.tablesWhole → (f s).tablesWhole) (n : Nat) (s : State)
    (hs : s.tablesWhole) : (repeatState f n s).tablesWhole :=
  repeatState_keeps h n s hs

@[simp] theorem State.annunciate_tables (s : State) (hs : s.tablesWhole) : (State.annunciate s).tablesWhole := by
  unfold State.annunciate
  simp [hs]

@[simp] theorem State.raise_tables (e : EventSource) (s : State) (hs : s.tablesWhole) : (State.raise e s).tablesWhole := by
  unfold State.raise
  simp [hs]

@[simp] theorem State.acknowledge_tables (s : State) (hs : s.tablesWhole) : (State.acknowledge s).tablesWhole := by
  unfold State.acknowledge
  dsimp only
  repeat' split
  all_goals simp [hs]

@[simp] theorem State.relevel_tables (s : State) (hs : s.tablesWhole) : (State.relevel s).tablesWhole := by
  unfold State.relevel
  simp [hs]

@[simp] theorem State.clearEvents_tables (s : State) (hs : s.tablesWhole) : (State.clearEvents s).tablesWhole := by
  unfold State.clearEvents
  simp [hs]

@[simp] theorem State.setWork_tables (w : WorkState) (s : State) (hs : s.tablesWhole) : (State.setWork w s).tablesWhole := by
  unfold State.setWork
  simp [hs]

@[simp] theorem State.reach_tables (t : Nat) (s : State) (hs : s.tablesWhole) : (State.reach t s).tablesWhole := by
  unfold State.reach
  simp [hs]

@[simp] theorem State.setPeer_tables (j : Nat) (e : PeerEntry) (s : State) (hs : s.tablesWhole) : (State.setPeer j e s).tablesWhole := by
  unfold State.setPeer
  simp [hs]

@[simp] theorem State.putEntry_tables (h : Nat) (e : HoleEntry) (s : State) (hs : s.tablesWhole) :
    (State.putEntry h e s).tablesWhole := by
  unfold State.putEntry
  repeat' split
  all_goals simp [hs]

@[simp] theorem State.mapEntries_tables (f : HoleEntry → HoleEntry) (s : State) (hs : s.tablesWhole) :
    (State.mapEntries f s).tablesWhole := by
  unfold State.mapEntries
  refine foldl_tables _ (fun t n ht => ?_) _ s hs
  split
  all_goals simp [ht]

@[simp] theorem State.queueOwed_tables (h : Nat) (s : State) (hs : s.tablesWhole) : (State.queueOwed h s).tablesWhole := by
  unfold State.queueOwed
  dsimp only
  repeat' split
  all_goals simp [hs]

@[simp] theorem State.admitOne_tables (s : State) (hs : s.tablesWhole) : (State.admitOne s).tablesWhole := by
  unfold State.admitOne
  dsimp only
  repeat' split
  all_goals simp [hs]

@[simp] theorem State.admitHeld_tables (s : State) (hs : s.tablesWhole) : (State.admitHeld s).tablesWhole := by
  exact repeatState_tables _ State.admitOne_tables _ s hs

@[simp] theorem State.offerOwed_tables (s : State) (hs : s.tablesWhole) : (State.offerOwed s).tablesWhole := by
  unfold State.offerOwed
  dsimp only
  generalize hu : repeatState _ s.ht.length s = u
  have hk : u.tablesWhole := by
    rw [← hu]
    refine repeatState_tables _ (fun t ht => ?_) _ s hs
    repeat' split
    all_goals simp [ht]
  repeat' split
  all_goals simp [hk]

@[simp] theorem State.offer_tables (owner : Owner) (b : Body) (s : State) (hs : s.tablesWhole) : (State.offer owner b s).tablesWhole := by
  unfold State.offer
  dsimp only
  repeat' split
  all_goals simp [hs]

@[simp] theorem State.removeFrame_tables (id : Nat) (s : State) (hs : s.tablesWhole) : (State.removeFrame id s).tablesWhole := by
  unfold State.removeFrame
  repeat' split
  all_goals simp [hs]

@[simp] theorem State.replaceFrame_tables (id : Nat) (b : Body) (s : State) (hs : s.tablesWhole) :
    (State.replaceFrame id b s).tablesWhole := by
  unfold State.replaceFrame
  dsimp only
  repeat' split
  all_goals simp [hs]

@[simp] theorem State.voidInFlight_tables (p : Body → Bool) (s : State) (hs : s.tablesWhole) : (State.voidInFlight p s).tablesWhole := by
  unfold State.voidInFlight
  repeat' split
  all_goals simp [hs]

@[simp] theorem State.reconcern_tables (s : State) (hs : s.tablesWhole) : (State.reconcern s).tablesWhole := by
  unfold State.reconcern
  simp [hs]

@[simp] theorem State.setRecord_tables (d : Datum) (r : DatumRecord) (s : State) (hs : s.tablesWhole) :
    (State.setRecord d r s).tablesWhole := by
  unfold State.setRecord
  repeat' split
  all_goals simp [hs]

@[simp] theorem State.computeCorrection_tables (s : State) (hs : s.tablesWhole) : (State.computeCorrection s).tablesWhole := by
  unfold State.computeCorrection
  dsimp only
  repeat' split
  all_goals simp (maxDischargeDepth := 40) [hs]

@[simp] theorem State.applyDatum_tables (d : Datum) (r q source : Nat) (stamp : Stamp) (s : State) (hs : s.tablesWhole) :
    (State.applyDatum d r q source stamp s).tablesWhole := by
  unfold State.applyDatum
  simp [hs]

@[simp] theorem State.dropDatums_tables (s : State) (hs : s.tablesWhole) : (State.dropDatums s).tablesWhole := by
  unfold State.dropDatums
  simp [hs]

@[simp] theorem State.setProber_tables (st : ProberStatus) (deadline : Option Nat) (measured : Option (Nat × Nat)) (s : State)
    (hs : s.tablesWhole) :
    (State.setProber st deadline measured s).tablesWhole := by
  unfold State.setProber
  repeat' split
  all_goals simp [hs]

@[simp] theorem State.proberDue_tables (s : State) (hs : s.tablesWhole) : (State.proberDue s).tablesWhole := by
  unfold State.proberDue
  repeat' split
  all_goals simp [hs]

@[simp] theorem State.probeFailed_tables (s : State) (hs : s.tablesWhole) : (State.probeFailed s).tablesWhole := by
  unfold State.probeFailed
  simp [hs]

@[simp] theorem State.expireDatum_tables (d : Datum) (s : State) (hs : s.tablesWhole) : (State.expireDatum d s).tablesWhole := by
  unfold State.expireDatum
  dsimp only
  repeat' split
  all_goals simp (maxDischargeDepth := 40) [hs]

@[simp] theorem State.demand_tables (p : Presence) (s : State) (hs : s.tablesWhole) : (State.demand p s).tablesWhole := by
  unfold State.demand
  dsimp only
  repeat' split
  all_goals simp [hs]

@[simp] theorem State.judgeDatum_tables (rail cross : Nat) (kind : SenseKind) (dx dy : Int) (s : State) (hs : s.tablesWhole) :
    (State.judgeDatum rail cross kind dx dy s).tablesWhole := by
  unfold State.judgeDatum
  dsimp only
  repeat' split
  all_goals simp [hs]

@[simp] theorem State.datumBack_tables (d : Datum) (r q : Nat) (stamp : Stamp) (s : State) (hs : s.tablesWhole) :
    (State.datumBack d r q stamp s).tablesWhole := by
  unfold State.datumBack
  dsimp only
  repeat' split
  all_goals simp [hs]

@[simp] theorem State.retry_tables (s : State) (hs : s.tablesWhole) : (State.retry s).tablesWhole := by
  unfold State.retry
  repeat' split
  all_goals simp [hs]

@[simp] theorem State.removeDatums_tables (s : State) (hs : s.tablesWhole) : (State.removeDatums s).tablesWhole := by
  unfold State.removeDatums
  exact foldl_tables _ (fun t x => State.removeFrame_tables x t) _ s hs

@[simp] theorem State.proberReset_tables (s : State) (hs : s.tablesWhole) : (State.proberReset s).tablesWhole := by
  unfold State.proberReset
  repeat' split
  all_goals simp [hs]

@[simp] theorem State.presenceExpires_tables (s : State) (hs : s.tablesWhole) : (State.presenceExpires s).tablesWhole := by
  unfold State.presenceExpires
  simp [hs]

@[simp] theorem State.beginAttempt_tables (c : Candidate) (s : State) (hs : s.tablesWhole) : (State.beginAttempt c s).tablesWhole := by
  unfold State.beginAttempt
  dsimp only
  repeat' split
  all_goals simp [hs]

@[simp] theorem State.quietFor_tables (quiet : Nat) (s : State) (hs : s.tablesWhole) : (State.quietFor quiet s).tablesWhole := by
  unfold State.quietFor
  repeat' split
  all_goals simp [hs]

@[simp] theorem State.transmit_tables (quiet : Nat) (s : State) (hs : s.tablesWhole) : (State.transmit quiet s).tablesWhole := by
  unfold State.transmit
  dsimp only
  repeat' split
  all_goals simp [hs]

@[simp] theorem State.takeStamp_tables (s : State) (hs : s.tablesWhole) : (State.takeStamp s).tablesWhole := by
  unfold State.takeStamp
  simp [hs]

@[simp] theorem State.readBackWhole_tables (f : TxFrame) (s : State) (hs : s.tablesWhole) : (State.readBackWhole f s).tablesWhole := by
  unfold State.readBackWhole
  dsimp only
  simp [hs]

@[simp] theorem State.attemptEndsFailed_tables (s : State) (hs : s.tablesWhole) : (State.attemptEndsFailed s).tablesWhole := by
  unfold State.attemptEndsFailed
  simp [hs]

@[simp] theorem State.linkFrameStart_tables (s : State) (hs : s.tablesWhole) : (State.linkFrameStart s).tablesWhole := by
  unfold State.linkFrameStart
  simp (maxDischargeDepth := 40) [hs]

@[simp] theorem State.linkUnconfigured_tables (s : State) (hs : s.tablesWhole) : (State.linkUnconfigured s).tablesWhole := by
  unfold State.linkUnconfigured
  simp [hs]

@[simp] theorem State.linkClear_tables (s : State) (hs : s.tablesWhole) : (State.linkClear s).tablesWhole := by
  unfold State.linkClear
  simp [hs]

@[simp] theorem State.linkHalt_tables (s : State) (hs : s.tablesWhole) : (State.linkHalt s).tablesWhole := by
  unfold State.linkHalt
  simp [hs]

@[simp] theorem State.linkStart_tables (s : State) (hs : s.tablesWhole) : (State.linkStart s).tablesWhole := by
  unfold State.linkStart
  simp [hs]

@[simp] theorem State.putZone_tables (side : Side) (z : ZoneRecord) (s : State) (hs : s.tablesWhole)
    (hz : ∀ b, z.bounds = some b → b.1 ≤ b.2) :
    (State.putZone side z s).tablesWhole := by
  rw [State.tablesWhole_iff] at hs ⊢
  unfold State.putZone
  cases side <;> exact ⟨hs.1, hs.2.1, by first | exact hz | exact hs.2.2.1, by first | exact hz | exact hs.2.2.2⟩

@[simp] theorem ZoneRecord.entering_bounds (st : ZoneState) (z : ZoneRecord) : (z.entering st).bounds = z.bounds := by
  unfold ZoneRecord.entering
  dsimp only
  split <;> rfl

@[simp] theorem ZoneRecord.recordRequest_bounds (z : ZoneRecord) : z.recordRequest.bounds = z.bounds := rfl

@[simp] theorem ZoneRecord.countCycle_bounds (z : ZoneRecord) : z.countCycle.bounds = z.bounds := by
  unfold ZoneRecord.countCycle
  split <;> rfl

/-- The bounds as computed afresh are in order (R68). -/
theorem State.boundsNow_ordered (side : Side) (s : State) (b : Nat × Nat) (h : s.boundsNow side = some b) : b.1 ≤ b.2 := by
  unfold State.boundsNow at h
  split at h
  · cases h
  · split at h
    · cases h; assumption
    · cases h
  · split at h
    · cases h; assumption
    · cases h

@[simp] theorem State.onZone_tables (side : Side) (f : ZoneRecord → ZoneRecord) (s : State) (hs : s.tablesWhole)
    (hf : (f (s.zone side)).bounds = (s.zone side).bounds) :
    (State.onZone side f s).tablesWhole := by
  refine State.putZone_tables side _ s hs fun b h => hs.2.2 side b ?_
  rw [← h, hf]

@[simp] theorem State.evalConflict_tables (s : State) (hs : s.tablesWhole) : (State.evalConflict s).tablesWhole := by
  unfold State.evalConflict
  dsimp only
  repeat' split
  all_goals simp [hs]

@[simp] theorem State.offerZone_tables (side : Side) (a : ZoneAction) (s : State) (hs : s.tablesWhole) :
    (State.offerZone side a s).tablesWhole := by
  unfold State.offerZone
  simp [hs]

@[simp] theorem State.sendOutstanding_tables (side : Side) (o : Outstanding) (a : ZoneAction) (s : State) (hs : s.tablesWhole) :
    (State.sendOutstanding side o a s).tablesWhole := by
  unfold State.sendOutstanding
  dsimp only
  simp [hs]

@[simp] theorem State.dropOutstanding_tables (side : Side) (s : State) (hs : s.tablesWhole) :
    (State.dropOutstanding side s).tablesWhole := by
  unfold State.dropOutstanding
  dsimp only
  repeat' split
  all_goals simp [hs]

@[simp] theorem State.seizeToRequest_tables (side : Side) (s : State) (hs : s.tablesWhole) :
    (State.seizeToRequest side s).tablesWhole := by
  unfold State.seizeToRequest
  dsimp only
  repeat' split
  all_goals simp [hs]

@[simp] theorem State.tidyOutstanding_tables (side : Side) (st : ZoneState) (s : State) (hs : s.tablesWhole) :
    (State.tidyOutstanding side st s).tablesWhole := by
  unfold State.tidyOutstanding
  repeat' split
  all_goals simp [hs]

@[simp] theorem State.zoneTo_tables (side : Side) (st : ZoneState) (s : State) (hs : s.tablesWhole) :
    (State.zoneTo side st s).tablesWhole := by
  unfold State.zoneTo
  dsimp only
  repeat' split
  all_goals simp [hs]

@[simp] theorem State.applyBlock_tables (side : Side) (s : State) (hs : s.tablesWhole) : (State.applyBlock side s).tablesWhole := by
  unfold State.applyBlock
  repeat' split
  all_goals simp [hs]

@[simp] theorem State.zoneChange_tables (side : Side) (st : ZoneState) (s : State) (hs : s.tablesWhole) :
    (State.zoneChange side st s).tablesWhole := by
  unfold State.zoneChange
  simp [hs]

@[simp] theorem State.rebound_tables (side : Side) (s : State) (hs : s.tablesWhole) : (State.rebound side s).tablesWhole := by
  unfold State.rebound
  split
  · split
    · exact hs
    · exact State.putZone_tables _ _ _ (by simp [hs]) (by simp)
  · rename_i b hb
    have hp : ∀ z : ZoneRecord, z.bounds = some b → (s.putZone side z).tablesWhole := fun z hz =>
      State.putZone_tables _ _ _ hs fun c hc => State.boundsNow_ordered side s c (by rw [hb, ← hz, hc])
    repeat' split
    · exact State.zoneTo_tables _ _ _ (hp _ rfl)
    · exact hs
    · exact hp _ rfl

@[simp] theorem State.holdZone_tables (side : Side) (stamp : Stamp) (s : State) (hs : s.tablesWhole) :
    (State.holdZone side stamp s).tablesWhole := by
  unfold State.holdZone
  simp [hs]

@[simp] theorem State.hearSeize_tables (side : Side) (s : State) (hs : s.tablesWhole) : (State.hearSeize side s).tablesWhole := by
  unfold State.hearSeize
  dsimp only
  repeat' split
  all_goals simp [hs]

@[simp] theorem State.hearRequest_tables (side : Side) (s : State) (hs : s.tablesWhole) : (State.hearRequest side s).tablesWhole := by
  unfold State.hearRequest
  repeat' split
  all_goals first | simp [hs] | exact State.onZone_tables _ _ _ (by simp [hs]) rfl

@[simp] theorem State.seizeRequested_tables (side : Side) (s : State) (hs : s.tablesWhole) :
    (State.seizeRequested side s).tablesWhole := by
  unfold State.seizeRequested
  dsimp only
  repeat' split
  all_goals simp [hs]

@[simp] theorem State.hearRelease_tables (side : Side) (s : State) (hs : s.tablesWhole) : (State.hearRelease side s).tablesWhole := by
  unfold State.hearRelease
  repeat' split
  all_goals simp [hs]

@[simp] theorem State.dualHold_tables (side : Side) (s : State) (hs : s.tablesWhole) : (State.dualHold side s).tablesWhole := by
  unfold State.dualHold
  repeat' split
  all_goals simp [hs]

@[simp] theorem State.reconcileZone_tables (side : Side) (s : State) (hs : s.tablesWhole) : (State.reconcileZone side s).tablesWhole := by
  unfold State.reconcileZone
  dsimp only
  repeat' split
  all_goals first | simp [hs] | exact State.onZone_tables _ _ _ (by simp [hs]) rfl

@[simp] theorem State.neighbourSilent_tables (side : Side) (s : State) (hs : s.tablesWhole) :
    (State.neighbourSilent side s).tablesWhole := by
  unfold State.neighbourSilent
  dsimp only
  repeat' split
  all_goals simp (maxDischargeDepth := 40) [hs]

@[simp] theorem State.outstandingBack_tables (f : TxFrame) (side : Side) (s : State) (hs : s.tablesWhole) :
    (State.outstandingBack f side s).tablesWhole := by
  unfold State.outstandingBack
  repeat' split
  all_goals simp [hs]

@[simp] theorem State.seizeBack_tables (f : TxFrame) (side : Side) (stamp : Stamp) (s : State) (hs : s.tablesWhole) :
    (State.seizeBack f side stamp s).tablesWhole := by
  unfold State.seizeBack
  dsimp only
  repeat' split
  all_goals simp (maxDischargeDepth := 40) [hs]

@[simp] theorem State.requestBack_tables (f : TxFrame) (side : Side) (s : State) (hs : s.tablesWhole) :
    (State.requestBack f side s).tablesWhole := by
  unfold State.requestBack
  dsimp only
  repeat' split
  all_goals simp [hs]

@[simp] theorem State.releaseBack_tables (side : Side) (s : State) (hs : s.tablesWhole) : (State.releaseBack side s).tablesWhole := by
  unfold State.releaseBack
  dsimp only
  repeat' split
  all_goals simp (maxDischargeDepth := 40) [hs]

@[simp] theorem State.yieldOver_tables (side : Side) (s : State) (hs : s.tablesWhole) : (State.yieldOver side s).tablesWhole := by
  unfold State.yieldOver
  repeat' split
  all_goals simp [hs]

@[simp] theorem State.selfLapsed_tables (side : Side) (s : State) (hs : s.tablesWhole) : (State.selfLapsed side s).tablesWhole := by
  unfold State.selfLapsed
  dsimp only
  repeat' split
  all_goals simp [hs]

@[simp] theorem State.countCycle_tables (s : State) (hs : s.tablesWhole) : (State.countCycle s).tablesWhole := by
  unfold State.countCycle
  simp [hs]

@[simp] theorem State.considerRelease_tables (side : Side) (s : State) (hs : s.tablesWhole) :
    (State.considerRelease side s).tablesWhole := by
  unfold State.considerRelease
  dsimp only
  repeat' split
  all_goals simp [hs]

@[simp] theorem State.carryRelease_tables (side : Side) (s : State) (hs : s.tablesWhole) : (State.carryRelease side s).tablesWhole := by
  unfold State.carryRelease
  dsimp only
  repeat' split
  all_goals simp [hs]

@[simp] theorem State.retreatDone_tables (side : Side) (s : State) (hs : s.tablesWhole) : (State.retreatDone side s).tablesWhole := by
  unfold State.retreatDone
  dsimp only
  repeat' split
  all_goals simp [hs]

@[simp] theorem State.withdrawRequest_tables (side : Side) (s : State) (hs : s.tablesWhole) :
    (State.withdrawRequest side s).tablesWhole := by
  unfold State.withdrawRequest
  repeat' split
  all_goals simp [hs]

@[simp] theorem State.makeRequest_tables (side : Side) (s : State) (hs : s.tablesWhole) : (State.makeRequest side s).tablesWhole := by
  unfold State.makeRequest
  dsimp only
  repeat' split
  all_goals simp [hs]

@[simp] theorem State.resetZone_tables (side : Side) (s : State) (hs : s.tablesWhole) : (State.resetZone side s).tablesWhole := by
  unfold State.resetZone
  dsimp only
  split
  · exact hs
  · exact State.putZone_tables _ _ _ hs fun b h => hs.2.2 side b h

@[simp] theorem State.giveUpZone_tables (side : Side) (s : State) (hs : s.tablesWhole) : (State.giveUpZone side s).tablesWhole := by
  unfold State.giveUpZone
  dsimp only
  repeat' split
  all_goals simp (maxDischargeDepth := 40) [hs]

@[simp] theorem State.giveUpZones_tables (s : State) (hs : s.tablesWhole) : (State.giveUpZones s).tablesWhole := by
  unfold State.giveUpZones
  simp [hs]

@[simp] theorem State.resetZones_tables (s : State) (hs : s.tablesWhole) : (State.resetZones s).tablesWhole := by
  unfold State.resetZones
  simp [hs]

@[simp] theorem State.noZones_tables (s : State) (hs : s.tablesWhole) : (State.noZones s).tablesWhole := by
  unfold State.noZones
  simp [hs]

@[simp] theorem State.clearZones_tables (s : State) (hs : s.tablesWhole) : (State.clearZones s).tablesWhole := by
  unfold State.clearZones
  dsimp only
  repeat' split
  all_goals simp (maxDischargeDepth := 40) [hs]

@[simp] theorem State.setDraw_tables (j : Nat) (e : Option DrawEntry) (s : State) (hs : s.tablesWhole) :
    (State.setDraw j e s).tablesWhole := by
  unfold State.setDraw
  simp [hs]

@[simp] theorem State.hearIntent_tables (j amount hole : Nat) (stamp : Stamp) (s : State) (hs : s.tablesWhole) :
    (State.hearIntent j amount hole stamp s).tablesWhole := by
  unfold State.hearIntent
  repeat' split
  all_goals simp [hs]

@[simp] theorem State.offerDraw_tables (a : DrawAction) (amount hole : Nat) (s : State) (hs : s.tablesWhole) :
    (State.offerDraw a amount hole s).tablesWhole := by
  unfold State.offerDraw
  simp [hs]

@[simp] theorem State.onIntent_tables (f : OwnIntent → OwnIntent) (s : State) (hs : s.tablesWhole) :
    (State.onIntent f s).tablesWhole := by
  unfold State.onIntent
  simp [hs]

@[simp] theorem State.queueIntent_tables (s : State) (hs : s.tablesWhole) : (State.queueIntent s).tablesWhole := by
  unfold State.queueIntent
  dsimp only
  simp [hs]

@[simp] theorem State.beginDraw_tables (hole amount : Nat) (s : State) (hs : s.tablesWhole) :
    (State.beginDraw hole amount s).tablesWhole := by
  unfold State.beginDraw
  simp [hs]

@[simp] theorem State.withdraw_tables (s : State) (hs : s.tablesWhole) : (State.withdraw s).tablesWhole := by
  unfold State.withdraw
  dsimp only
  simp (maxDischargeDepth := 40) [hs]

@[simp] theorem State.freshIntent_tables (s : State) (hs : s.tablesWhole) : (State.freshIntent s).tablesWhole := by
  unfold State.freshIntent
  repeat' split
  all_goals simp [hs]

@[simp] theorem State.removal_tables (s : State) (hs : s.tablesWhole) : (State.removal s).tablesWhole := by
  unfold State.removal
  repeat' split
  all_goals simp [hs]

@[simp] theorem State.emptyDraw_tables (j : Nat) (s : State) (hs : s.tablesWhole) : (State.emptyDraw j s).tablesWhole := by
  unfold State.emptyDraw
  repeat' split
  all_goals simp [hs]

@[simp] theorem State.askPressure_tables (s : State) (hs : s.tablesWhole) : (State.askPressure s).tablesWhole := by
  unfold State.askPressure
  simp [hs]

@[simp] theorem State.decideDraw_tables (s : State) (hs : s.tablesWhole) : (State.decideDraw s).tablesWhole := by
  unfold State.decideDraw
  repeat' split
  all_goals simp [hs]

@[simp] theorem State.supplyFails_tables (s : State) (hs : s.tablesWhole) : (State.supplyFails s).tablesWhole := by
  unfold State.supplyFails
  dsimp only
  simp [hs]

@[simp] theorem State.intentBack_tables (f : TxFrame) (amount hole : Nat) (stamp : Stamp) (s : State) (hs : s.tablesWhole) :
    (State.intentBack f amount hole stamp s).tablesWhole := by
  unfold State.intentBack
  dsimp only
  repeat' split
  all_goals simp (maxDischargeDepth := 40) [hs]

@[simp] theorem State.announceBack_tables (f : TxFrame) (s : State) (hs : s.tablesWhole) : (State.announceBack f s).tablesWhole := by
  unfold State.announceBack
  repeat' split
  all_goals simp [hs]

@[simp] theorem State.squeezeClosed_tables (normally : Bool) (s : State) (hs : s.tablesWhole) :
    (State.squeezeClosed normally s).tablesWhole := by
  unfold State.squeezeClosed
  dsimp only
  repeat' split
  all_goals simp (maxDischargeDepth := 40) [hs]

@[simp] theorem State.giveUpIntent_tables (s : State) (hs : s.tablesWhole) : (State.giveUpIntent s).tablesWhole := by
  unfold State.giveUpIntent
  dsimp only
  repeat' split
  all_goals simp (maxDischargeDepth := 40) [hs]

@[simp] theorem State.clearDraw_tables (s : State) (hs : s.tablesWhole) : (State.clearDraw s).tablesWhole := by
  have : ({ s with du.table := List.replicate 8 none, du.supplyWaits := 0 } : State).tablesWhole := ⟨hs.1, by simp, hs.2.2⟩
  unfold State.clearDraw
  dsimp only
  split
  · exact State.onIntent_tables _ _ (State.offerDraw_tables _ _ _ _ this)
  · exact State.onIntent_tables _ _ this

@[simp] theorem State.resetDraw_tables (s : State) (hs : s.tablesWhole) : (State.resetDraw s).tablesWhole := by
  exact ⟨hs.1, by simp [State.resetDraw], hs.2.2⟩

@[simp] theorem State.applyToEntry_tables (h : Heard) (s : State) (hs : s.tablesWhole) : (State.applyToEntry h s).tablesWhole := by
  unfold State.applyToEntry
  repeat' split
  all_goals simp [hs]

@[simp] theorem State.applyHeld_tables (h : Heard) (s : State) (hs : s.tablesWhole) : (State.applyHeld h s).tablesWhole := by
  unfold State.applyHeld
  repeat' split
  all_goals simp [hs]

@[simp] theorem State.reconcileClaims_tables (j : Nat) (claim : Option Claim) (s : State) (hs : s.tablesWhole) :
    (State.reconcileClaims j claim s).tablesWhole := by
  unfold State.reconcileClaims
  split
  · exact hs
  · refine foldl_tables _ (fun t n ht => ?_) _ s hs
    repeat' split
    all_goals simp [ht]

@[simp] theorem State.oweCorrection_tables (n : Nat) (s : State) (hs : s.tablesWhole) : (State.oweCorrection n s).tablesWhole := by
  unfold State.oweCorrection
  repeat' split
  all_goals simp [hs]

@[simp] theorem State.setCycle_tables (cy : Cycle) (s : State) (hs : s.tablesWhole) : (State.setCycle cy s).tablesWhole := by
  unfold State.setCycle
  simp [hs]

@[simp] theorem State.onCycle_tables (f : Cycle → Cycle) (s : State) (hs : s.tablesWhole) : (State.onCycle f s).tablesWhole := by
  unfold State.onCycle
  simp [hs]

@[simp] theorem State.takeEnding_tables (cause : EndCause) (through : Bool) (s : State) (hs : s.tablesWhole) :
    (State.takeEnding cause through s).tablesWhole := by
  unfold State.takeEnding
  dsimp only
  repeat' split
  all_goals simp [hs]

@[simp] theorem State.writeOutcome_tables (c : Claim) (o : CycleOutcome) (frame : Bool) (s : State) (hs : s.tablesWhole) :
    (State.writeOutcome c o frame s).tablesWhole := by
  unfold State.writeOutcome
  dsimp only
  repeat' split
  all_goals simp (maxDischargeDepth := 40) [hs]

@[simp] theorem State.revertOwn_tables (h : Nat) (s : State) (hs : s.tablesWhole) : (State.revertOwn h s).tablesWhole := by
  unfold State.revertOwn
  repeat' split
  all_goals simp [hs]

@[simp] theorem State.endCycle_tables (s : State) (hs : s.tablesWhole) : (State.endCycle s).tablesWhole := by
  unfold State.endCycle
  dsimp only
  have h := foldl_tables (fun t x => State.applyToEntry x t) (fun t x => State.applyToEntry_tables x t)
  repeat' split
  all_goals first | simp [hs] | (apply h; simp [hs])

@[simp] theorem State.finishEnding_tables (cy : Cycle) (e : Ending) (s : State) (hs : s.tablesWhole) :
    (State.finishEnding cy e s).tablesWhole := by
  unfold State.finishEnding
  dsimp only
  repeat' split
  all_goals simp (maxDischargeDepth := 40) [hs]

@[simp] theorem State.finishReporting_tables (cy : Cycle) (s : State) (hs : s.tablesWhole) :
    (State.finishReporting cy s).tablesWhole := by
  unfold State.finishReporting
  repeat' split
  all_goals simp [hs]

@[simp] theorem State.haltCycle_tables (s : State) (hs : s.tablesWhole) : (State.haltCycle s).tablesWhole := by
  unfold State.haltCycle
  dsimp only
  repeat' split
  all_goals simp (maxDischargeDepth := 40) [hs]

@[simp] theorem State.commandDone_tables (c : Command) (stopped : Bool) (s : State) (hs : s.tablesWhole) :
    (State.commandDone c stopped s).tablesWhole := by
  unfold State.commandDone
  dsimp only
  repeat' split
  all_goals simp (maxDischargeDepth := 40) [hs]

@[simp] theorem State.chooseGrip_tables (stack : Nat) (cy : Cycle) (s : State) (hs : s.tablesWhole) :
    (State.chooseGrip stack cy s).tablesWhole := by
  unfold State.chooseGrip
  repeat' split
  all_goals simp [hs]

@[simp] theorem State.proceedSet_tables (h : Nat) (cy : Cycle) (s : State) (hs : s.tablesWhole) :
    (State.proceedSet h cy s).tablesWhole := by
  unfold State.proceedSet
  repeat' split
  all_goals simp [hs]

@[simp] theorem State.reposition_tables (kind : SenseKind) (dx dy : Int) (cy : Cycle) (s : State) (hs : s.tablesWhole) :
    (State.reposition kind dx dy cy s).tablesWhole := by
  unfold State.reposition
  dsimp only
  repeat' split
  all_goals simp [hs]

@[simp] theorem State.judgeSense_tables (c : Claim) (kind : SenseKind) (dx dy : Int) (cy : Cycle) (s : State) (hs : s.tablesWhole) :
    (State.judgeSense c kind dx dy cy s).tablesWhole := by
  unfold State.judgeSense
  dsimp only
  repeat' split
  all_goals simp [hs]

@[simp] theorem State.senseDone_tables (kind : SenseKind) (dx dy : Int) (s : State) (hs : s.tablesWhole) :
    (State.senseDone kind dx dy s).tablesWhole := by
  unfold State.senseDone
  repeat' split
  all_goals simp [hs]

@[simp] theorem State.gaugeDone_tables (v : Nat) (s : State) (hs : s.tablesWhole) : (State.gaugeDone v s).tablesWhole := by
  unfold State.gaugeDone
  dsimp only
  repeat' split
  all_goals simp [hs]

@[simp] theorem State.drillDone_tables (s : State) (hs : s.tablesWhole) : (State.drillDone s).tablesWhole := by
  unfold State.drillDone
  dsimp only
  repeat' split
  all_goals simp [hs]

@[simp] theorem State.thrustSample_tables (v : Nat) (s : State) (hs : s.tablesWhole) : (State.thrustSample v s).tablesWhole := by
  unfold State.thrustSample
  dsimp only
  repeat' split
  all_goals simp [hs]

@[simp] theorem State.squeezeEnds_tables (o : CycleOutcome) (normally : Bool) (s : State) (hs : s.tablesWhole) :
    (State.squeezeEnds o normally s).tablesWhole := by
  unfold State.squeezeEnds
  dsimp only
  simp (maxDischargeDepth := 40) [hs]

@[simp] theorem State.squeezeDone_tables (peak stroke : Nat) (s : State) (hs : s.tablesWhole) :
    (State.squeezeDone peak stroke s).tablesWhole := by
  unfold State.squeezeDone
  repeat' split
  all_goals simp [hs]

@[simp] theorem State.cycleFails_tables (placed : List Command) (s : State) (hs : s.tablesWhole) :
    (State.cycleFails placed s).tablesWhole := by
  unfold State.cycleFails
  dsimp only
  repeat' split
  all_goals simp [hs]

@[simp] theorem State.placeHalt_tables (s : State) (hs : s.tablesWhole) : (State.placeHalt s).tablesWhole := by
  unfold State.placeHalt
  simp [hs]

@[simp] theorem State.lowerFlag_tables (s : State) (hs : s.tablesWhole) : (State.lowerFlag s).tablesWhole := by
  unfold State.lowerFlag
  repeat' split
  all_goals simp [hs]

@[simp] theorem State.haltPort_tables (s : State) (hs : s.tablesWhole) : (State.haltPort s).tablesWhole := by
  unfold State.haltPort
  dsimp only
  repeat' split
  all_goals simp (maxDischargeDepth := 40) [hs]

@[simp] theorem State.dropSelection_tables (s : State) (hs : s.tablesWhole) : (State.dropSelection s).tablesWhole := by
  unfold State.dropSelection
  repeat' split
  all_goals simp [hs]

@[simp] theorem State.endLone_tables (how : LoneEnd) (s : State) (hs : s.tablesWhole) : (State.endLone how s).tablesWhole := by
  unfold State.endLone
  repeat' split
  all_goals simp [hs]

@[simp] theorem State.recordCause_tables (src : FaultSource) (s : State) (hs : s.tablesWhole) :
    (State.recordCause src s).tablesWhole := by
  unfold State.recordCause
  simp [hs]

@[simp] theorem State.enterFaulted_tables (src : FaultSource) (s : State) (hs : s.tablesWhole) :
    (State.enterFaulted src s).tablesWhole := by
  unfold State.enterFaulted
  dsimp only
  repeat' split
  all_goals simp (maxDischargeDepth := 40) [hs]

@[simp] theorem State.enterHalted_tables (src : FaultSource) (s : State) (hs : s.tablesWhole) :
    (State.enterHalted src s).tablesWhole := by
  unfold State.enterHalted
  dsimp only
  repeat' split
  all_goals simp (maxDischargeDepth := 40) [hs]

@[simp] theorem State.clearanceHalt_tables (c : HaltCheck) (s : State) (hs : s.tablesWhole) : (State.clearanceHalt c s).tablesWhole := by
  unfold State.clearanceHalt
  simp [hs]

@[simp] theorem State.raiseFault_tables (e : EventSource) (src : FaultSource) (s : State) (hs : s.tablesWhole) :
    (State.raiseFault e src s).tablesWhole := by
  unfold State.raiseFault
  simp [hs]

@[simp] theorem State.frameCycleStart_tables (s : State) (hs : s.tablesWhole) : (State.frameCycleStart s).tablesWhole := by
  unfold State.frameCycleStart
  dsimp only
  simp (maxDischargeDepth := 40) [hs]

@[simp] theorem State.jigCloses_tables (s : State) (hs : s.tablesWhole) : (State.jigCloses s).tablesWhole := by
  unfold State.jigCloses
  dsimp only
  repeat' split
  all_goals simp [hs]

@[simp] theorem State.toIdle_tables (s : State) (hs : s.tablesWhole) : (State.toIdle s).tablesWhole := by
  unfold State.toIdle
  simp [hs]

@[simp] theorem State.jigOpens_tables (s : State) (hs : s.tablesWhole) : (State.jigOpens s).tablesWhole := by
  unfold State.jigOpens
  dsimp only
  repeat' split
  all_goals simp (maxDischargeDepth := 40) [hs]

@[simp] theorem State.land_tables (s : State) (hs : s.tablesWhole) : (State.land s).tablesWhole := by
  unfold State.land
  repeat' split
  all_goals simp [hs]

@[simp] theorem State.clearThrough_tables (s : State) (hs : s.tablesWhole) : (State.clearThrough s).tablesWhole := by
  unfold State.clearThrough
  simp [hs]

@[simp] theorem State.forgetPeers_tables (s : State) (hs : s.tablesWhole) : (State.forgetPeers s).tablesWhole := by
  exact State.evalConflict_tables _ ⟨by simp, hs.2⟩

@[simp] theorem State.stationClear_tables (s : State) (hs : s.tablesWhole) : (State.stationClear s).tablesWhole := by
  unfold State.stationClear
  dsimp only
  repeat' split
  all_goals simp (maxDischargeDepth := 40) [hs]

@[simp] theorem State.enterUnconfigured_tables (s : State) (hs : s.tablesWhole) : (State.enterUnconfigured s).tablesWhole := by
  unfold State.enterUnconfigured
  dsimp only
  simp (maxDischargeDepth := 40) [hs]

@[simp] theorem State.passToIdle_tables (s : State) (hs : s.tablesWhole) : (State.passToIdle s).tablesWhole := by
  unfold State.passToIdle
  dsimp only
  repeat' split
  all_goals simp (maxDischargeDepth := 40) [hs]

@[simp] theorem State.configured_tables (s : State) (hs : s.tablesWhole) : (State.configured s).tablesWhole := by
  unfold State.configured
  repeat' split
  all_goals simp [hs]

@[simp] theorem State.closeFailed_tables (s : State) (hs : s.tablesWhole) : (State.closeFailed s).tablesWhole := by
  unfold State.closeFailed
  simp [hs]

@[simp] theorem State.loneFails_tables (s : State) (hs : s.tablesWhole) : (State.loneFails s).tablesWhole := by
  unfold State.loneFails
  dsimp only
  repeat' split
  all_goals simp [hs]

@[simp] theorem State.effectorFault_tables (kind : FailKind) (deadly : Bool) (s : State) (hs : s.tablesWhole) :
    (State.effectorFault kind deadly s).tablesWhole := by
  unfold State.effectorFault
  dsimp only
  repeat' split
  all_goals simp [hs]

@[simp] theorem State.portFails_tables (kind : FailKind) (extra : Option Command) (s : State) (hs : s.tablesWhole) :
    (State.portFails kind extra s).tablesWhole := by
  unfold State.portFails
  dsimp only
  repeat' split
  all_goals simp (maxDischargeDepth := 40) [hs]

@[simp] theorem State.raiseFlag_tables (w : Word) (s : State) (hs : s.tablesWhole) : (State.raiseFlag w s).tablesWhole := by
  unfold State.raiseFlag
  simp [hs]

@[simp] theorem State.placeCommand_tables (c : Command) (u : PortUser) (s : State) (hs : s.tablesWhole) :
    (State.placeCommand c u s).tablesWhole := by
  unfold State.placeCommand
  repeat' split
  all_goals simp [hs]

@[simp] theorem State.commandTaken_tables (c : Command) (u : PortUser) (s : State) (hs : s.tablesWhole) :
    (State.commandTaken c u s).tablesWhole := by
  unfold State.commandTaken
  dsimp only
  repeat' split
  all_goals simp [hs]

@[simp] theorem State.resumeRises_tables (s : State) (hs : s.tablesWhole) : (State.resumeRises s).tablesWhole := by
  unfold State.resumeRises
  dsimp only
  repeat' split
  all_goals simp [hs]

@[simp] theorem State.resumeFalls_tables (s : State) (hs : s.tablesWhole) : (State.resumeFalls s).tablesWhole := by
  unfold State.resumeFalls
  dsimp only
  repeat' split
  all_goals simp [hs]

@[simp] theorem State.responseLate_tables (s : State) (hs : s.tablesWhole) : (State.responseLate s).tablesWhole := by
  unfold State.responseLate
  dsimp only
  repeat' split
  all_goals simp [hs]

@[simp] theorem State.completionLate_tables (s : State) (hs : s.tablesWhole) : (State.completionLate s).tablesWhole := by
  unfold State.completionLate
  repeat' split
  all_goals simp [hs]

@[simp] theorem State.readyFalls_tables (width : Nat) (s : State) (hs : s.tablesWhole) : (State.readyFalls width s).tablesWhole := by
  unfold State.readyFalls
  dsimp only
  repeat' split
  all_goals simp [hs]

@[simp] theorem State.closeStream_tables (s : State) (hs : s.tablesWhole) : (State.closeStream s).tablesWhole := by
  unfold State.closeStream
  simp [hs]

@[simp] theorem State.travelCloses_tables (t : Nat) (stream : OpenStream) (stopped : Bool) (s : State) (hs : s.tablesWhole) :
    (State.travelCloses t stream stopped s).tablesWhole := by
  unfold State.travelCloses
  repeat' split
  all_goals simp [hs]

@[simp] theorem State.loneDone_tables (stopped : Bool) (s : State) (hs : s.tablesWhole) : (State.loneDone stopped s).tablesWhole := by
  unfold State.loneDone
  repeat' split
  all_goals simp [hs]

@[simp] theorem State.doneCloses_tables (st : OpenStream) (s : State) (hs : s.tablesWhole) : (State.doneCloses st s).tablesWhole := by
  unfold State.doneCloses
  dsimp only
  repeat' split
  all_goals simp (maxDischargeDepth := 40) [hs]

@[simp] theorem State.stopCycleTravel_tables (s : State) (hs : s.tablesWhole) : (State.stopCycleTravel s).tablesWhole := by
  unfold State.stopCycleTravel
  repeat' split
  all_goals simp [hs]

@[simp] theorem State.stopLoneTravel_tables (s : State) (hs : s.tablesWhole) : (State.stopLoneTravel s).tablesWhole := by
  unfold State.stopLoneTravel
  repeat' split
  all_goals simp [hs]

@[simp] theorem State.clearanceStop_tables (s : State) (hs : s.tablesWhole) : (State.clearanceStop s).tablesWhole := by
  unfold State.clearanceStop
  simp [hs]

@[simp] theorem State.clearanceChecks_tables (s : State) (hs : s.tablesWhole) : (State.clearanceChecks s).tablesWhole := by
  unfold State.clearanceChecks
  repeat' split
  all_goals simp [hs]

@[simp] theorem State.positionHeard_tables (st : OpenStream) (p : Nat) (s : State) (hs : s.tablesWhole) :
    (State.positionHeard st p s).tablesWhole := by
  unfold State.positionHeard
  dsimp only
  repeat' split
  all_goals simp (maxDischargeDepth := 40) [hs]

@[simp] theorem State.supplyFaulted_tables (s : State) (hs : s.tablesWhole) : (State.supplyFaulted s).tablesWhole := by
  unfold State.supplyFaulted
  repeat' split
  all_goals simp [hs]

@[simp] theorem State.judgePressure_tables (v : Nat) (s : State) (hs : s.tablesWhole) : (State.judgePressure v s).1.tablesWhole := by
  unfold State.judgePressure
  dsimp only
  repeat' split
  all_goals simp [hs]

@[simp] theorem State.pressureDone_tables (v : Nat) (s : State) (hs : s.tablesWhole) : (State.pressureDone v s).1.tablesWhole := by
  unfold State.pressureDone
  simp [hs]

@[simp] theorem State.acceptReport_tables (st : OpenStream) (d : Data) (w : Accepted) (s : State) (hs : s.tablesWhole) :
    (State.acceptReport st d w s).tablesWhole := by
  unfold State.acceptReport
  dsimp only
  repeat' split
  all_goals simp (maxDischargeDepth := 40) [hs]

@[simp] theorem State.judgeWord_tables (tag : Nat) (d : Data) (mark : Bool) (s : State) (hs : s.tablesWhole) :
    (State.judgeWord tag d mark s).tablesWhole := by
  unfold State.judgeWord
  repeat' split
  all_goals simp [hs]

@[simp] theorem State.takeWord_tables (tag : Nat) (d : Data) (mark : Bool) (s : State) (hs : s.tablesWhole) :
    (State.takeWord tag d mark s).tablesWhole := by
  unfold State.takeWord
  simp [hs]

@[simp] theorem State.placeForCycle_tables (c : Command) (f : Cycle → Cycle) (s : State) (hs : s.tablesWhole) :
    (State.placeForCycle c f s).tablesWhole := by
  unfold State.placeForCycle
  simp [hs]

@[simp] theorem State.tryTravel_tables (t : Nat) (asked : Bool) (s : State) (hs : s.tablesWhole) :
    (State.tryTravel t asked s).tablesWhole := by
  unfold State.tryTravel
  dsimp only
  repeat' split
  all_goals simp [hs]

@[simp] theorem State.tryDrill_tables (s : State) (hs : s.tablesWhole) : (State.tryDrill s).tablesWhole := by
  unfold State.tryDrill
  repeat' split
  all_goals simp [hs]

@[simp] theorem State.trySqueeze_tables (cy : Cycle) (s : State) (hs : s.tablesWhole) : (State.trySqueeze cy s).tablesWhole := by
  unfold State.trySqueeze
  dsimp only
  repeat' split
  all_goals simp [hs]

@[simp] theorem State.tryPoll_tables (s : State) (hs : s.tablesWhole) : (State.tryPoll s).tablesWhole := by
  unfold State.tryPoll
  repeat' split
  all_goals simp [hs]

@[simp] theorem State.tryTask_tables (c : Command) (asked : Bool) (s : State) (hs : s.tablesWhole) :
    (State.tryTask c asked s).tablesWhole := by
  unfold State.tryTask
  repeat' split
  all_goals simp [hs]

@[simp] theorem State.carryCycle_tables (cy : Cycle) (s : State) (hs : s.tablesWhole) : (State.carryCycle cy s).tablesWhole := by
  unfold State.carryCycle
  repeat' split
  all_goals simp [hs]

@[simp] theorem State.placeInterject_tables (s : State) (hs : s.tablesWhole) : (State.placeInterject s).tablesWhole := by
  unfold State.placeInterject
  dsimp only
  repeat' split
  all_goals simp [hs]

@[simp] theorem State.windCycle_tables (cy : Cycle) (e : Ending) (s : State) (hs : s.tablesWhole) :
    (State.windCycle cy e s).tablesWhole := by
  unfold State.windCycle
  dsimp only
  repeat' split
  all_goals simp [hs]

@[simp] theorem State.stepCycle_tables (s : State) (hs : s.tablesWhole) : (State.stepCycle s).tablesWhole := by
  unfold State.stepCycle
  repeat' split
  all_goals simp [hs]

@[simp] theorem State.stepLone_tables (s : State) (hs : s.tablesWhole) : (State.stepLone s).tablesWhole := by
  unfold State.stepLone
  repeat' split
  all_goals simp [hs]

@[simp] theorem State.stepPark_tables (s : State) (hs : s.tablesWhole) : (State.stepPark s).tablesWhole := by
  unfold State.stepPark
  dsimp only
  repeat' split
  all_goals simp [hs]

@[simp] theorem State.stepSelection_tables (s : State) (hs : s.tablesWhole) : (State.stepSelection s).tablesWhole := by
  unfold State.stepSelection
  repeat' split
  all_goals simp [hs]

@[simp] theorem State.toWorking_tables (s : State) (hs : s.tablesWhole) : (State.toWorking s).tablesWhole := by
  unfold State.toWorking
  dsimp only
  repeat' split
  all_goals simp [hs]

@[simp] theorem State.stepConditions_tables (s : State) (hs : s.tablesWhole) : (State.stepConditions s).tablesWhole := by
  unfold State.stepConditions
  repeat' split
  all_goals simp [hs]

@[simp] theorem State.toFinished_tables (s : State) (hs : s.tablesWhole) : (State.toFinished s).tablesWhole := by
  unfold State.toFinished
  dsimp only
  repeat' split
  all_goals simp [hs]

@[simp] theorem State.stepFinish_tables (s : State) (hs : s.tablesWhole) : (State.stepFinish s).tablesWhole := by
  unfold State.stepFinish
  repeat' split
  all_goals simp [hs]

@[simp] theorem State.stepZone_tables (side : Side) (s : State) (hs : s.tablesWhole) : (State.stepZone side s).tablesWhole := by
  unfold State.stepZone
  simp (maxDischargeDepth := 40) [hs]

@[simp] theorem State.stepZones_tables (s : State) (hs : s.tablesWhole) : (State.stepZones s).tablesWhole := by
  unfold State.stepZones
  simp [hs]

@[simp] theorem State.stepRequests_tables (s : State) (hs : s.tablesWhole) : (State.stepRequests s).tablesWhole := by
  unfold State.stepRequests
  simp [hs]

@[simp] theorem State.offerClaim_tables (ch : Choice) (s : State) (hs : s.tablesWhole) : (State.offerClaim ch s).tablesWhole := by
  unfold State.offerClaim
  dsimp only
  repeat' split
  all_goals simp [hs]

@[simp] theorem State.takeDatum_tables (t : Int × Int) (z : Option Side) (s : State) (hs : s.tablesWhole) :
    (State.takeDatum t z s).tablesWhole := by
  unfold State.takeDatum
  repeat' split
  all_goals simp [hs]

theorem State.askSeize_tables {side : Side} {sel : Selection} {s t : State} (h : s.askSeize side sel = some t)
    (hs : s.tablesWhole) : t.tablesWhole := by
  unfold State.askSeize at h
  split at h <;> cases h <;> simp [hs]

@[simp] theorem State.takeChoice_tables (ch : Choice) (s : State) (hs : s.tablesWhole) : (State.takeChoice ch s).1.tablesWhole := by
  unfold State.takeChoice
  repeat' split
  all_goals first | exact hs | exact State.askSeize_tables ‹_› hs | simp [hs]

@[simp] theorem State.choose_tables (refused : List Side) (s : State) (hs : s.tablesWhole) : (State.choose refused s).1.tablesWhole := by
  unfold State.choose
  repeat' split
  all_goals first | exact hs | exact State.askSeize_tables ‹_› hs | simp [hs]

@[simp] theorem State.select_tables (n : Nat) (refused : List Side) (s : State) (hs : s.tablesWhole) :
    (State.select n refused s).tablesWhole := by
  induction n generalizing refused s with
  | zero => exact hs
  | succ n ih =>
    have h := State.choose_tables refused s hs
    unfold State.select
    split <;> simp_all

@[simp] theorem State.stepSelect_tables (s : State) (hs : s.tablesWhole) : (State.stepSelect s).tablesWhole := by
  unfold State.stepSelect
  split <;> simp [hs]

@[simp] theorem State.settleOnce_tables (s : State) (hs : s.tablesWhole) : (State.settleOnce s).tablesWhole := by
  unfold State.settleOnce
  dsimp only
  repeat' split
  all_goals simp (maxDischargeDepth := 40) [hs]

@[simp] theorem State.settleConflict_tables (h : Heard) (n : Nat) (s : State) (hs : s.tablesWhole) :
    (State.settleConflict h n s).tablesWhole := by
  unfold State.settleConflict
  repeat' split
  all_goals simp [hs]

@[simp] theorem State.hearHole_tables (h : Heard) (s : State) (hs : s.tablesWhole) : (State.hearHole h s).tablesWhole := by
  unfold State.hearHole
  repeat' split
  all_goals simp [hs]

@[simp] theorem State.planMismatch_tables (j : Nat) (p : Presence) (s : State) (hs : s.tablesWhole) :
    (State.planMismatch j p s).tablesWhole := by
  unfold State.planMismatch
  dsimp only
  repeat' split
  all_goals simp [hs]

@[simp] theorem State.hearPresence_tables (j : Nat) (p : Presence) (s : State) (hs : s.tablesWhole) :
    (State.hearPresence j p s).tablesWhole := by
  unfold State.hearPresence
  dsimp only
  repeat' split
  all_goals simp (maxDischargeDepth := 40) [hs]

@[simp] theorem State.dispatchKind_tables (j : Nat) (b : Body) (stamp : Stamp) (s : State) (hs : s.tablesWhole) :
    (State.dispatchKind j b stamp s).tablesWhole := by
  unfold State.dispatchKind
  repeat' split
  all_goals simp [hs]

@[simp] theorem State.dispatch_tables (j : Nat) (b : Body) (s : State) (hs : s.tablesWhole) : (State.dispatch j b s).tablesWhole := by
  unfold State.dispatch
  repeat' split
  all_goals simp [hs]

@[simp] theorem State.hearForeign_tables (s : State) (hs : s.tablesWhole) : (State.hearForeign s).tablesWhole := by
  unfold State.hearForeign
  simp [hs]

@[simp] theorem State.receive_tables (bytes : List Byte) (s : State) (hs : s.tablesWhole) : (State.receive bytes s).tablesWhole := by
  unfold State.receive
  repeat' split
  all_goals simp [hs]

@[simp] theorem State.hearFrame_tables (bytes : List Byte) (s : State) (hs : s.tablesWhole) : (State.hearFrame bytes s).tablesWhole := by
  unfold State.hearFrame
  dsimp only
  repeat' split
  all_goals simp (maxDischargeDepth := 40) [hs]

@[simp] theorem State.closeClaim_tables (f : TxFrame) (s : State) (hs : s.tablesWhole) : (State.closeClaim f s).tablesWhole := by
  unfold State.closeClaim
  repeat' split
  all_goals simp [hs]

@[simp] theorem State.confirmClaim_tables (sel : Selection) (c : Claim) (e : HoleEntry) (stamp : Stamp) (s : State) (hs : s.tablesWhole) :
    (State.confirmClaim sel c e stamp s).tablesWhole := by
  unfold State.confirmClaim
  dsimp only
  repeat' split
  all_goals simp (maxDischargeDepth := 40) [hs]

@[simp] theorem State.claimBack_tables (f : TxFrame) (c : Claim) (stamp : Stamp) (s : State) (hs : s.tablesWhole) :
    (State.claimBack f c stamp s).tablesWhole := by
  unfold State.claimBack
  dsimp only
  repeat' split
  all_goals simp [hs]

@[simp] theorem State.presenceBack_tables (s : State) (hs : s.tablesWhole) : (State.presenceBack s).tablesWhole := by
  unfold State.presenceBack
  simp [hs]

@[simp] theorem State.ownerBack_tables (f : TxFrame) (s : State) (hs : s.tablesWhole) : (State.ownerBack f s).tablesWhole := by
  unfold State.ownerBack
  repeat' split
  all_goals simp [hs]

@[simp] theorem State.readBack_tables (named : Body → Bool) (s : State) (hs : s.tablesWhole) : (State.readBack named s).tablesWhole := by
  unfold State.readBack
  repeat' split
  all_goals simp [hs]

@[simp] theorem State.retryWithdrawal_tables (s : State) (hs : s.tablesWhole) : (State.retryWithdrawal s).tablesWhole := by
  unfold State.retryWithdrawal
  repeat' split
  all_goals simp [hs]

@[simp] theorem State.failAttempt_tables (s : State) (hs : s.tablesWhole) : (State.failAttempt s).tablesWhole := by
  unfold State.failAttempt
  dsimp only
  repeat' split
  all_goals simp (maxDischargeDepth := 40) [hs]

@[simp] theorem State.silence_tables (j : Nat) (s : State) (hs : s.tablesWhole) : (State.silence j s).tablesWhole := by
  unfold State.silence
  dsimp only
  repeat' split
  all_goals simp [hs]

@[simp] theorem State.lose_tables (j : Nat) (s : State) (hs : s.tablesWhole) : (State.lose j s).tablesWhole := by
  unfold State.lose
  dsimp only
  repeat' split
  all_goals simp (maxDischargeDepth := 40) [hs]

@[simp] theorem State.expire_tables (due : Option Nat) {effect : State → State} 
    (h : ∀ s, s.tablesWhole → (effect s).tablesWhole) (s : State) (hs : s.tablesWhole) :
    (State.expire due effect s).tablesWhole := by
  unfold State.expire
  split
  · exact hs
  · exact h _ (by simp [hs])

@[simp] theorem State.limitPasses_tables (s : State) (hs : s.tablesWhole) : (State.limitPasses s).tablesWhole := by
  unfold State.limitPasses
  simp [hs]

@[simp] theorem State.renewIntent_tables (s : State) (hs : s.tablesWhole) : (State.renewIntent s).tablesWhole := by
  unfold State.renewIntent
  simp [hs]

@[simp] theorem State.loseAfterSilence_tables (j : Nat) (s : State) (hs : s.tablesWhole) : (State.loseAfterSilence j s).tablesWhole := by
  unfold State.loseAfterSilence
  repeat' split
  all_goals simp [hs]

theorem State.settle_tables (s : State) (hs : s.tablesWhole) : s.settle.tablesWhole :=
  State.settle_keeps State.settleOnce_tables s hs

theorem State.expireIfOld_tables (d : Datum) (s : State) (hs : s.tablesWhole) : (s.expireIfOld d).tablesWhole := by
  unfold State.expireIfOld
  repeat' split
  all_goals first | exact hs | simp [hs]

theorem State.setupAtPosition_tables (old : Option DatumRole) (s : State) (hs : s.tablesWhole) : (s.setupAtPosition old).tablesWhole := by
  have h1 := State.expireIfOld_tables .b _ (State.expireIfOld_tables .a s hs)
  unfold State.setupAtPosition
  dsimp only
  split
  · exact State.computeCorrection_tables _ h1
  · exact h1

theorem State.applySetup_tables (c : Setup) (s : State) (hs : s.tablesWhole) : (s.applySetup c).tablesWhole := by
  unfold State.applySetup
  dsimp only
  apply State.configured_tables
  apply State.setupAtPosition_tables
  apply State.forgetPeers_tables
  apply State.noZones_tables
  apply State.relevel_tables
  exact hs

theorem State.serve_tables (r : Request) (s : State) (hs : s.tablesWhole) : (s.serve r).state.tablesWhole := by
  cases r with
  | writeSetup c n =>
    show (s.serveWriteSetup c n).state.tablesWhole
    unfold State.serveWriteSetup
    split
    · exact hs
    · split
      · exact hs
      · exact State.settle_tables _ (State.applySetup_tables _ _ hs)
  | readSetup =>
    show s.serveReadSetup.state.tablesWhole
    unfold State.serveReadSetup
    split <;> exact hs
  | loadPlanHeader h =>
    show (s.serveHeader h).state.tablesWhole
    unfold State.serveHeader
    split
    · exact hs
    · split
      · exact hs
      · dsimp only
        apply State.settle_tables
        split
        · exact State.enterUnconfigured_tables _ hs
        · exact hs
  | loadPlanGroup n g =>
    show (s.serveGroup n g).state.tablesWhole
    unfold State.serveGroup
    repeat' split
    all_goals first | exact hs | exact State.settle_tables _ hs
  | loadPlanHole n h =>
    show (s.serveHole n h).state.tablesWhole
    unfold State.serveHole
    repeat' split
    all_goals first | exact hs | exact State.settle_tables _ hs
  | commitPlan =>
    show s.serveCommit.state.tablesWhole
    unfold State.serveCommit
    repeat' split
    all_goals first | exact hs | exact State.settle_tables _ (State.configured_tables _ hs)
  | readStatus => exact hs
  | readHole n =>
    show (s.serveReadHole n).state.tablesWhole
    unfold State.serveReadHole
    repeat' split
    all_goals exact hs
  | readPeer n =>
    show (s.serveReadPeer n).state.tablesWhole
    unfold State.serveReadPeer
    repeat' split
    all_goals exact hs
  | readEvents => exact hs
  | errorClear =>
    show s.serveErrorClear.state.tablesWhole
    unfold State.serveErrorClear
    repeat' split
    · exact hs
    · exact hs
    · exact hs
    · exact State.settle_tables _ (State.land_tables _ hs)
  | stationClear => exact State.settle_tables _ (State.stationClear_tables _ hs)
  | reworkHole n t =>
    show (s.serveRework n t).state.tablesWhole
    unfold State.serveRework
    repeat' split
    all_goals first | exact hs | (apply State.settle_tables; unfold State.rework; simp [hs])

theorem State.storeByte_tables (b : Byte) (s : State) (hs : s.tablesWhole) : (s.storeByte b).tablesWhole := by
  unfold State.storeByte
  dsimp only
  generalize s.sp.buffer ++ [b] = bytes
  split
  · exact hs
  · split
    · exact hs
    · split
      · have h2 : (State.judgeRequest bytes { s with sp.buffer := bytes, sp.rx := .answering }).state.tablesWhole := by
          unfold State.judgeRequest
          split
          · exact hs
          · exact State.serve_tables _ _ hs
        exact h2
      · exact hs

theorem State.hearByte_tables (b : Byte) (s : State) (hs : s.tablesWhole) : (s.hearByte b).tablesWhole := by
  unfold State.hearByte
  dsimp only
  split
  · split <;> exact hs
  · split
    · exact hs
    · exact State.storeByte_tables b _ hs
  · exact hs

end Sys2Proof.Machine
end

