-- ==== Sys2Proof/Laws/Wire.lean ====
section
/-! SUPPORT. Laws of the bytes: numbers in bytes and back, the CRC, and the tables with rising keys. -/

namespace Sys2Proof.Machine

open Sys2Proof (Byte Word Data Stamp Datum Side Instr)

/-! ### Numbers in bytes -/

@[simp] theorem toBytes_length (n v : Nat) : (toBytes n v).length = n := by
  induction n generalizing v with
  | zero => rfl
  | succ n ih => simp [toBytes, ih]

@[simp] theorem ofBytes_nil : ofBytes [] = 0 := rfl

theorem ofBytes_append (a : List Byte) (b : Byte) : ofBytes (a ++ [b]) = ofBytes a * 256 + b.toNat := by
  simp [ofBytes]

/-- A number in n bytes reads back modulo 256 to the n. -/
theorem ofBytes_toBytes (n v : Nat) : ofBytes (toBytes n v) = v % 256 ^ n := by
  induction n generalizing v with
  | zero => simp [toBytes, Nat.mod_one]
  | succ n ih =>
    have hp : 256 ^ (n + 1) = 256 * 256 ^ n := by rw [Nat.pow_succ, Nat.mul_comm]
    rw [toBytes, ofBytes_append, ih, hp, Nat.mod_mul, BitVec.toNat_ofNat]
    omega

/-- A number that fits its bytes reads back whole. -/
theorem ofBytes_toBytes_of_lt {n v : Nat} (h : v < 256 ^ n) : ofBytes (toBytes n v) = v := by
  rw [ofBytes_toBytes, Nat.mod_eq_of_lt h]

/-! ### The CRC -/

@[simp] theorem crcBytes_length (bs : List Byte) : (crcBytes bs).length = 2 := toBytes_length 2 _

/-- Bytes closed by their CRC pass the CRC check. -/
theorem crcChecks_append (bs : List Byte) : crcChecks (bs ++ crcBytes bs) = true := by
  simp [crcChecks]

@[simp] theorem crcChecks_frameBytes (k : Nat) (b : Body) : crcChecks (frameBytes k b) = true := crcChecks_append _

@[simp] theorem crcChecks_requestBytes (code : Nat) (p : List Byte) : crcChecks (requestBytes code p) = true :=
  crcChecks_append _

/-- Every frame content has the length its kind gives, but for HT's placeholder, which is never sent (R42). -/
theorem content_length (b : Body) (h : b ≠ .owed) : kindLength b.kind = some (b.content.length + 3) := by
  cases b <;> first | exact absurd rfl h | simp [Body.kind, kindLength, Body.content, encodePresence, encodeReport, encodeCorrection]

/-! ### Tables with rising keys -/

/-- What is stored under a key is found under it. -/
@[simp] theorem lookupKey_insertKey_same {α : Type} (n : Nat) (a : α) (l : List (Nat × α)) :
    lookupKey n (insertKey n a l) = some a := by
  induction l with
  | nil => simp [insertKey, lookupKey]
  | cons p l ih =>
    obtain ⟨m, b⟩ := p
    unfold insertKey
    split
    · simp [lookupKey]
    · split
      · simp [lookupKey]
      · have : m ≠ n := by omega
        simp [lookupKey, this, ih]

/-- Storing under one key leaves every other key alone. -/
theorem lookupKey_insertKey_other {α : Type} {n k : Nat} (h : k ≠ n) (a : α) (l : List (Nat × α)) :
    lookupKey k (insertKey n a l) = lookupKey k l := by
  induction l with
  | nil => simp [insertKey, lookupKey, Ne.symm h]
  | cons p l ih =>
    obtain ⟨m, b⟩ := p
    unfold insertKey
    split
    · simp [lookupKey, Ne.symm h]
    · split
      · rename_i hm
        simp [lookupKey, Ne.symm h, ← hm]
      · simp [lookupKey, ih]

end Sys2Proof.Machine
end

