-- ==== Sys2Proof/Tests/Slice0.lean ====
section
/-! SUPPORT. The model's own tests: ill-formed commands refused, the spec's worked figures, and a state for the hypotheses of each statement. -/

namespace Sys2Proof.Tests

-- One test after another: run all at once they need more memory than they are worth.
set_option Elab.async false

open Sys2Proof Sys2Proof.Machine

/-! ### Ill-formed commands -/

/-- A PRESENCE that fits. -/
def presence1 : Presence :=
  { state := .working, heldLeft := true, heldRight := false, requestedLeft := false, requestedRight := true, datumA := .valid,
    datumB := .absent, position := 524287, target := 0, low := 1, high := 2, claim := some ⟨2047, .set⟩, check := 0xABCD#16 }

theorem test_wf_presence : presenceFits presence1 = true ∧
    [{ presence1 with state := .halted }, { presence1 with position := 524288 }, { presence1 with target := 524288 },
     { presence1 with low := 524288 }, { presence1 with high := 524288 },
     { presence1 with claim := some ⟨2048, .set⟩ }].all (fun p => !presenceFits p) = true := by decide

/-- A REPORT that fits. -/
def report1 : Report :=
  { hole := 2047, phase := .set, outcome := .set, stack := some 65535, plies := 7, grip := 7, peak := 4095, stroke := 4095 }

theorem test_wf_report : reportFits report1 = true ∧
    [{ report1 with hole := 2048 }, { report1 with stack := some 65536 }, { report1 with plies := 8 }, { report1 with grip := 8 },
     { report1 with peak := 4096 }, { report1 with stroke := 4096 }].all (fun r => !reportFits r) = true := by decide

/-- A CORRECTION that fits. -/
def correction1 : CorrectionMsg :=
  { hole := 88, rework := false, asserted := .set, worker := 6, stack := some ⟨300, .gauge⟩, grip := some 3, reject := none }

theorem test_wf_correction : correctionFits correction1 = true ∧
    [{ correction1 with hole := 2048 }, { correction1 with worker := 9 }, { correction1 with stack := some ⟨65536, .drill⟩ },
     { correction1 with grip := some 8 }, { correction1 with reject := some ⟨.stack, .drill⟩ },
     { correction1 with asserted := .rejected }, { correction1 with rework := true }].all
      (fun m => !correctionFits m) = true := by decide

theorem test_wf_bodies :
    [Body.datum .a 524288 0 0, .datum .b 0 40001 0, .claim ⟨2048, .drill⟩, .release ⟨2048, .set⟩, .draw .intent 256 0,
     .draw .done 0 2048, .owed].all (fun b => !bodyFits b) = true := by decide

/-- A grip class and a setup record that fit and agree. -/
def class1 : GripClass :=
  { minStack := 100, maxStack := 900, rivet := 7, pressure := 300, draw := 35, minStroke := 100, maxStroke := 900 }

/-- Station 2 of 3. -/
def setup1 : Setup :=
  { station := 2, stations := 3, low := 100000, high := 300000, crossLimit := 36000, railOrigin := 2400, crossOrigin := 0,
    park := 200000, gap := 28000, hardGap := 14000, role := .b, window := 400, datumLife := 600000, scaleLimit := 1500,
    skewLimit := 200, tolerance := 10, presenceInterval := 100, holdPeriod := 1000, lapseMargin := 300, lossPeriod := 3000,
    quota := 4, yieldPeriod := 2000, capacity := 100, settleInterval := 30, drawLife := 8000, supplyFloor := 180,
    pressureWait := 5000, clampSettle := 150, ramRecovery := 400, responseTimeout := 20, travelTimeout := 30000,
    drillTimeout := 20000, squeezeTimeout := 5000, otherTimeout := 2000, te := 800, tx := 300, runK := 6, feedStep := 2,
    overtravel := 100, classes := [class1], levels := defaultLevels }

theorem test_wf_setup : setupFits setup1 1 = true ∧
    ([({ setup1 with low := 16777216 }, 1), ({ setup1 with classes := [{ class1 with minStack := 65536 }] }, 1),
      ({ setup1 with classes := [{ class1 with maxStack := 65536 }] }, 1),
      ({ setup1 with classes := [{ class1 with rivet := 65536 }] }, 1),
      ({ setup1 with classes := [{ class1 with pressure := 65536 }] }, 1),
      ({ setup1 with classes := [{ class1 with draw := 256 }] }, 1),
      ({ setup1 with classes := [{ class1 with minStroke := 65536 }] }, 1),
      ({ setup1 with classes := [{ class1 with maxStroke := 65536 }] }, 1),
      ({ setup1 with classes := List.replicate 9 class1 }, 9), (setup1, 2), ({ setup1 with levels := [] }, 1),
      ({ setup1 with levels := List.replicate 14 256 }, 1)] : List (Setup × Nat)).all
      (fun p => !setupFits p.1 p.2) = true := by decide +kernel

/-- A header, a group entry and a hole entry that fit. -/
def header1 : PlanHeader :=
  { frameType := 9, holeCount := 2, groupCount := 1, xA := 10000, yA := 8000, xB := 370000, yB := 8000, check := 0 }
def group1 : GroupEntry := { size := 2, order := .ascendingWrap, start := 1 }
def hole1 (i : Nat) : PlanHole :=
  { x := 190000, y := 12000, group := 0, index := i, nominal := 300, tolerance := 50, plies := 0 }

theorem test_wf_plan : headerFits header1 = true ∧ groupFits 0 group1 = true ∧ holeFits 0 (hole1 0) = true ∧
    [{ header1 with frameType := 65536 }, { header1 with holeCount := 65536 }, { header1 with groupCount := 65536 },
     { header1 with xA := 16777216 }, { header1 with yA := 65536 }, { header1 with xB := 16777216 },
     { header1 with yB := 65536 }].all (fun h => !headerFits h) = true ∧
    groupFits 256 group1 = false ∧ groupFits 0 { group1 with size := 256 } = false ∧
    groupFits 0 { group1 with start := 256 } = false ∧ holeFits 65536 (hole1 0) = false ∧
    [{ hole1 0 with x := 16777216 }, { hole1 0 with y := 65536 }, { hole1 0 with group := 256 }, { hole1 0 with index := 256 },
     { hole1 0 with nominal := 65536 }, { hole1 0 with tolerance := 256 }, { hole1 0 with plies := 256 }].all
      (fun h => !holeFits 0 h) = true := by decide

theorem test_wf_requests :
    [Request.readHole 65536, .readPeer 256, .reworkHole 65536 .planned].all (fun r => !requestFits r) = true := by decide

/-- Request rows: no bytes, too many bytes, or a whole request of another code. -/
theorem test_wf_request_rows : (Instr.readStatus (Request.bytes .readStatus)).wf = true ∧
    (Instr.readStatus []).wf = false ∧ (Instr.readStatus (List.replicate 518 0)).wf = false ∧
    [Instr.writeSetup (Request.bytes .readStatus), .readSetup (Request.bytes .readStatus),
     .loadPlanHeader (Request.bytes .readStatus), .loadPlanGroup (Request.bytes .readStatus),
     .loadPlanHole (Request.bytes .readStatus), .commitPlan (Request.bytes .readStatus),
     .readStatus (Request.bytes .readSetup), .readHole (Request.bytes .readStatus), .readPeer (Request.bytes .readStatus),
     .readEvents (Request.bytes .readStatus), .errorClear (Request.bytes .readStatus),
     .stationClear (Request.bytes .readStatus), .reworkHole (Request.bytes .readStatus)].all (fun c => !c.wf) = true := by
  decide +kernel

/-- Frame rows: a frame whose CRC fails, whose sender is 9, or which is another row's. -/
theorem test_wf_frame_rows : (Instr.claimReceived (frameBytes 3 (.claim ⟨5, .set⟩))).wf = true ∧
    (Instr.claimReceived (frameBytes 9 (.claim ⟨5, .set⟩))).wf = false ∧ (Instr.claimReceived [0x33, 0, 5, 0, 0]).wf = false ∧
    (Instr.frameDiscarded []).wf = false ∧
    [Instr.presenceReceived (frameBytes 3 (.claim ⟨5, .set⟩)), .datumReceived (frameBytes 3 (.claim ⟨5, .set⟩)),
     .claimReceived (frameBytes 3 (.release ⟨5, .set⟩)), .releaseReceived (frameBytes 3 (.claim ⟨5, .set⟩)),
     .reportDrilledReceived (frameBytes 3 (.report report1)), .reportSetReceived (frameBytes 3 (.claim ⟨5, .set⟩)),
     .reportRejectedReceived (frameBytes 3 (.report report1)),
     .correctionReceived (frameBytes 3 (.correction { correction1 with rework := true, asserted := .planned })),
     .reworkCorrectionReceived (frameBytes 3 (.correction correction1)), .zoneSeizeReceived (frameBytes 3 (.zone .left .release)),
     .zoneReleaseReceived (frameBytes 3 (.zone .left .request)), .zoneRequestReceived (frameBytes 3 (.zone .left .seize)),
     .drawIntentReceived (frameBytes 3 (.draw .done 0 5)), .drawDoneReceived (frameBytes 3 (.draw .withdraw 0 5)),
     .drawWithdrawReceived (frameBytes 3 (.draw .intent 9 5))].all (fun c => !c.wf) = true := by decide +kernel

theorem test_wf_operands :
    [Instr.stationReset 0, .ack 0, .effectorReadyFall 0, .transmitStart 31, .peerSilent 0, .peerSilent 9, .peerLost 0,
     .drawEntryExpiry 9, .doneReport 1 true, .doneReport 0 false, .positionReport 5 true, .senseReport 0 false,
     .gaugeReport 5 false, .squeezeReport 5 false, .pressureReport 5 false, .refusedReport 1 true].all
      (fun c => !c.wf) = true := by decide

/-! ### Figures the spec states -/

/-- R189: the CRC-16 of the nine ASCII digits is 29B1H. -/
theorem test_crc_digits : crc16 [0x31, 0x32, 0x33, 0x34, 0x35, 0x36, 0x37, 0x38, 0x39] = 0x29B1#16 := by decide +kernel

/-- Ch. 1, 1.3: the visiting orders of a group of size 8 and start 5. -/
theorem test_visiting_orders :
    (List.range 8).map (GroupEntry.visitedAt ⟨8, .ascendingWrap, 5⟩) = [5, 6, 7, 0, 1, 2, 3, 4] ∧
    (List.range 8).map (GroupEntry.visitedAt ⟨8, .xorInterleaved, 5⟩) = [5, 4, 7, 6, 1, 0, 3, 2] ∧
    GroupEntry.positionOf ⟨8, .ascendingWrap, 5⟩ 2 = 5 ∧ GroupEntry.positionOf ⟨8, .xorInterleaved, 5⟩ 2 = 7 := by decide

/-- Ch. 2, worked figures: the correction and four targets. -/
def fixA : DatumFix := { r := 12352, q := 8024, source := 1, time := 0, stamp := 1 }
def fixB : DatumFix := { r := 372532, q := 7984, source := 8, time := 0, stamp := 2 }
def correctionB : Correction := rawCorrection header1 fixA fixB

theorem test_correction : correctionB.s = 500 ∧ correctionB.oA = 24 ∧ correctionB.oB = -16 ∧
    setup1.acceptsCorrection correctionB = true ∧ (rawCorrection header1 fixA { fixB with r := 372533 }).s = 503 ∧
    setup1.acceptsCorrection (rawCorrection header1 fixA { fixB with r := 373072 }) = false ∧
    setup1.acceptsCorrection (rawCorrection header1 fixA { fixB with q := 7800 }) = false := by decide

theorem test_targets : ([(190000, 12000), (11000, 9000), (9000, 9000), (5500, 9000), (257600, 12000), (148000, 37000)].map
      fun p : Nat × Nat => correctionB.target { hole1 0 with x := p.1, y := p.2 })
    = [(192442, 12004), (13353, 9024), (11351, 9024), (7850, 9025), (260076, 11996), (150421, 37009)] := by decide

/-- Ch. 3, 3.3: the deferrals of station 5 with a CLAIM, and of station 3 with a REPORT and its recovery mark set. -/
theorem test_deferrals :
    State.deferral { State.reset with setup := some { setup1 with station := 5 } } (.queued ⟨0, .ws, .claim ⟨1, .drill⟩, false, 0⟩)
      = 80 ∧
    State.deferral { State.reset with setup := some { setup1 with station := 3 }, lc.recovery := true }
      (.queued ⟨0, .cs, .report report1, false, 0⟩) = 104 ∧
    State.deferral { State.reset with setup := some { setup1 with station := 7 } } .presence = 120 := by decide

/-- R48: stamps compared across the wrap. -/
theorem test_stamps : stampEarlier 0xFFFFFFFF#32 1#32 = true ∧ stampEarlier 1#32 0xFFFFFFFF#32 = false ∧
    stampEarlier 7#32 7#32 = false := by decide

/-- Ch. 1, 1.5: a REPORT SET for an entry claimed, and a late CORRECTION on it, which is ignored. -/
theorem test_stale_claim :
    let e := mergeEntry 2 6 (.correction correction1) { state := .drilled }
    e.state = .set ∧ e.setWorker = some 6 ∧ e.grip = some 3 ∧ e.squeeze = none
    ∧ mergeEntry 2 7 (.correction { correction1 with worker := 7 }) e = e := by decide

/-- Ch. 9, worked example: three levels acknowledged. -/
theorem test_acknowledging :
    let s := State.raise .neighbourLost (State.raise .holeRejected (State.raise .zoneGranted State.reset))
    let t := State.raise .holeRejected s.acknowledge
    let u := State.raise .datumExpired t.acknowledge
    s.eu.annunciator = 5 ∧ t.eu.annunciator = 3 ∧ t.acknowledge.eu.annunciator = 1 ∧ u.eu.annunciator = 3 ∧
    u.acknowledge.eu.annunciator = 1 ∧ u.acknowledge.acknowledge.eu.annunciator = 0 ∧
    (u.eu.sources.map (·.count)) = [1, 0, 1, 0, 0, 1, 2, 0, 0, 0, 0, 0, 0, 0] := by decide

/-- Ch. 12, 12.1: the bytes of some frames, before their CRC, written out from the layouts. -/
theorem test_frame_bytes :
    (frameBytes 3 (.claim ⟨5, .set⟩)).take 3 = [0x33, 0x80, 0x05] ∧
    (frameBytes 2 (.datum .b 372532 7984 0x1234#16)).take 9 = [0x22, 0x02, 0x05, 0xAF, 0x34, 0x1F, 0x30, 0x12, 0x34] ∧
    (frameBytes 8 (.zone .right .request)).take 2 = [0x78, 0x83] ∧
    (frameBytes 5 (.draw .intent 35 2006)).take 5 = [0x85, 0x01, 0x23, 0x07, 0xD6] ∧
    (frameBytes 6 (.correction correction1)).take 8 = [0x66, 0x00, 0x58, 0x86, 0x01, 0x2C, 0xCB, 0x00] := by decide +kernel

/-- Ch. 12, 12.2: command words. -/
theorem test_command_words :
    [Command.travel 192442, .slide 12004, .squeeze 7 300, .halt].map (fun c => c.word :: c.extension 10)
      = [[0x1002, 0xEFBA, 0x000A], [0x2000, 0x2EE4], [0x9007, 0x012C], [0xF000]] := by decide

/-! ### A station at work -/

/-- A plan of two holes in one group. -/
def plan1 : PlanStore :=
  { status := .valid, header := some { header1 with check := 0xB146#16 }, groups := [(0, group1)],
    holes := [(0, hole1 0), (1, hole1 1)] }

/-- What a neighbour last said. -/
def info (low high : Nat) : PeerInfo :=
  { state := .working, position := high - 10, target := high - 10, low, high, heldLeft := false, heldRight := false,
    requestedLeft := false, requestedRight := false, claim := none, check := 0xB146#16, time := 0 }

/-- Station 2, WORKING, both neighbours heard, both zones FREE, the correction VALID. -/
def working1 : State :=
  { setup := some setup1, ps := plan1, ht := [{}, {}], ws.state := .working, lines.jigClosed := true,
    pu := { datumA := ⟨.valid, some fixA⟩, datumB := ⟨.valid, some fixB⟩, prober := some ⟨.current, none, none⟩,
            correction := some correctionB, concern := some [0, 1] },
    pt.peers := [⟨.heard, some (info 0 120000)⟩, {}, ⟨.heard, some (info 280000 400000)⟩, {}, {}, {}, {}, {}],
    zc.left := { state := .free, bounds := some (100000, 120000) },
    zc.right := { state := .free, bounds := some (280000, 300000) }, lc.timer := some 100 }

/-- The same station with the service port READY and the plan still LOADING, in IDLE. -/
def loading1 : State := { working1 with ws.state := .idle, ps.status := .loading, lines.jigClosed := false }

/-- A cycle on hole 0, moving. -/
def cycle1 : Cycle := newCycle (.hole ⟨0, .drill⟩) 192442 12004 none .moving

/-- Hole 0 claimed here, with its cycle. -/
def claimed1 : State :=
  { working1 with ht := [{ state := .drillClaimed, claimant := some 2 }, {}], ws.claim := some ⟨0, .drill⟩, cs.cycle := some cycle1,
                  ws.selection := some { work := .hole ⟨0, .drill⟩, rail := 192442, cross := 12004, zone := none, stage := .inCycle } }

/-! ### Stations in the situations the statements speak of -/

/-- The state a command leads to. -/
def after (c : Instr) (s : State) : State :=
  match exec c s with
  | .next t => t
  | .fault _ | .refused _ => s

/-- A zone of this station in a state. -/
def zoned1 (side : Side) (st : ZoneState) (p : Progress := .no) : State :=
  State.onZone side (fun z => { z with state := st, progress := p }) working1

/-- HALTED by the travel limit. -/
def halted1 : State := claimed1.clearanceHalt .travelLimit

/-- FAULTED by a FAULT from the drive unit, and by the link with a cycle being ended. -/
def faulted1 : State := working1.enterFaulted (.effectorFault (.fault 4))
def through1 : State := claimed1.enterFaulted .linkFault

/-- A lone motion. -/
def lone1 (owner : LoneOwner) (placed : Bool) (ending : Option LoneEnd := none) : State :=
  { working1 with cs.lone := some { owner, target := 200000, placed, ending } }

/-- An ending begun in a stage, with the actions left to it. -/
def ending1 (stage : Stage) (todo : List EndAction) (void : Bool := false) : Ending :=
  { cause := .abandon, through := false, stage, todo, void }

/-- Hole 0 claimed here, its cycle being ended. -/
def winding1 (stage : Stage) (todo : List EndAction) (void : Bool := false) : State :=
  { claimed1 with cs.cycle := some { cycle1 with stage, task := .idle, ending := some (ending1 stage todo void) } }

/-- An own intent in a state. -/
def intent1 (st : IntentState) : OwnIntent :=
  { state := st, amount := 35, hole := 0, settleDeadline := some 30, waitDeadline := some 8000, nextPoll := some 50,
    supplyStart := some 0, lastBelow := true }

/-- Hole 0 claimed for setting, clamped, with its draw allowed and its predecessor set. -/
def budgeting1 : State :=
  { claimed1 with ht := [{ state := .setClaimed, claimant := some 2, stack := some ⟨300, .drill⟩ }, { state := .set }],
                  ws.claim := some ⟨0, .set⟩, du.own := intent1 .allowed,
                  cs.cycle := some { cycle1 with work := .hole ⟨0, .set⟩, stage := .budgeting, task := .idle, clamped := true,
                                                 grip := some (0, class1) } }

/-- A TRAVEL into the left zone, held by this station, with the left neighbour far away. -/
def intoZone1 : State :=
  { zoned1 .left .heldOwn with
    pt.peers := [⟨.heard, some { info 0 120000 with position := 10000, target := 10000 }⟩, {}, ⟨.heard, some (info 280000 400000)⟩,
                 {}, {}, {}, {}, {}],
    cs.cycle := some { cycle1 with rail := 110000, zone := some .left, stage := .moving, task := .toPlace (.travel 110000) false } }

/-- An attempt at a frame. -/
def attempt1 (b : Body) (mark : Nat := 0) : Attempt :=
  { frame := { id := 7, owner := .ws, body := b, mark := mark }, bytes := frameBytes 2 b }

/-- A CLAIM queued: the candidate. -/
def queued1 : State := working1.offer .ws (.claim ⟨0, .drill⟩)

/-- An attempt under way. -/
def sending1 (b : Body) : State := { working1 with lc.attempt := some (attempt1 b), lc.failures := 7 }

/-- The selection of hole 0 with its CLAIM in LC, or withdrawn. -/
def selected1 (stage : SelStage) : Selection :=
  { work := .hole ⟨0, .drill⟩, rail := 192442, cross := 12004, zone := none, stage := stage, frameId := 7 }

/-- A TRAVEL in transfer. -/
def transfer1 : Transfer := { command := .travel 192442, user := .cycle, rest := [0xEFBA, 0x000A] }

/-- A stream open on a command. -/
def stream1 (c : Command) : OpenStream := { command := c, user := .cycle }

def streaming1 (c : Command) : State :=
  { claimed1 with cs.cycle := some { cycle1 with task := .placed c }, ep.stream := some (stream1 c), ep.deadline := some 30000 }

/-- A motion with its stream open and a STOP MOTION taken into it. -/
def stopped1 (s : State) : State := { s with ep.stream := some (stream1 (.travel 192442)), ep.stopped := .stopMotion }

/-- Hole 0 REJECTED. -/
def rejected1 : State := { working1 with ht := [{ state := .rejected, reject := some ⟨.stack, .drill⟩, rework := 2 }, {}] }

/-- Every hole of the concern done. -/
def done1 : State := { working1 with ht := [{ state := .set }, { state := .rejected }] }

/-- A PRESENCE of station 3 under this plan, claiming hole 1. -/
def presence3 : Presence :=
  { state := .working, heldLeft := false, heldRight := false, requestedLeft := false, requestedRight := false, datumA := .valid,
    datumB := .absent, position := 390000, target := 390000, low := 280000, high := 400000, claim := some ⟨1, .drill⟩,
    check := 0xB146 }

/-- The station after that PRESENCE. -/
def hearing3 (p : Presence) (s : State) : State := after (.presenceReceived (frameBytes 3 (.presence p))) s

/-! ### Each statement's hypotheses are met -/

theorem witness_EmptyQueueTicks : State.reset.pending = [] := rfl

theorem witness_SettlingFrame : State.reset.ws.state = .unconfigured ∧ halted1.ws.state = .halted := by decide +kernel

theorem witness_PowerOnAndTerminalAlone : halted1.ws.state = .halted ∧ Instr.jigOpen ≠ .powerOn ∧
    onServiceLine .jigOpen = false := by decide +kernel

/-- A TRAVEL into no zone, one into a zone held, and a SQUEEZE are each placed by one command. -/
theorem witness_PlacedCommandsAreAllowed :
    (claimed1.ep.transfer = none ∧ ((after .clampSettleExpiry claimed1).ep.transfer.map fun t => (t.command, t.user))
      = some (.travel 192442, .cycle)) ∧
    (intoZone1.ep.transfer = none ∧ ((after .clampSettleExpiry intoZone1).ep.transfer.map fun t => (t.command, t.user))
      = some (.travel 110000, .cycle) ∧ (after .clampSettleExpiry intoZone1).cycleZone 110000 = some .left) ∧
    (budgeting1.ep.transfer = none ∧ ((after .clampSettleExpiry budgeting1).ep.transfer.map fun t => (t.command, t.user))
      = some (.squeeze 7 300, .cycle)) := by decide +kernel

/-- A state that meets every invariant and steps on. -/
theorem witness_invariants :
    working1.linesAgree ∧ working1.eventsWhole ∧ working1.queueFits ∧ working1.configuredWhole ∧ working1.idleIsOpen ∧
    loading1.idleIsOpen ∧ loading1.ws.state = .idle ∧ step working1 = .next working1.tick := by
  refine ⟨by unfold State.linesAgree; decide, ⟨rfl, rfl, by decide, rfl⟩, by unfold State.queueFits; decide, ?_, ?_, ?_, rfl, rfl⟩
  · exact ⟨fun _ => ⟨rfl, rfl⟩, rfl⟩
  · intro h; cases h
  · intro _; rfl

/-- A plan in order, a queue of two access classes in order with a ZONE frame ZC may replace, and a station HALTED with HALT
placed: each meets its invariant and steps on. -/
theorem witness_orders :
    working1.planOrdered ∧ working1.ps.holes.length = 2 ∧
    (working1.sendOutstanding .left .seize .seize |>.offer .ws (.claim ⟨0, .drill⟩)).queueOrdered ∧
    (working1.sendOutstanding .left .seize .seize |>.offer .ws (.claim ⟨0, .drill⟩)).lc.queue.length = 2 ∧
    halted1.haltedSilent ∧ halted1.ws.state = .halted ∧ halted1.ep.transfer.isSome = true ∧
    step halted1 = .next halted1.tick := by
  refine ⟨⟨by decide, by decide, by decide, by decide⟩, rfl, ⟨by decide, ?_, ?_, ?_, by decide, ?_, ?_, ?_⟩, rfl, ?_, rfl, rfl, rfl⟩
  · intro _; exact ⟨by decide, by decide⟩
  · intro h; exact absurd rfl h
  · intro id h; cases h
  · rintro (_ | _) h
    · exact ⟨by decide, by decide⟩
    · exact absurd rfl h
  · intro x h; cases h
  · intro id h; cases h
  · intro _; exact ⟨rfl, rfl, rfl, rfl, .inr rfl⟩

theorem witness_JigLine : loading1.ws.state = .idle ∧ working1.ws.state ≠ .idle ∧ (working1.setWork .waiting).ws.state = .waiting ∧
    working1.ws.state = .working ∧ (working1.setWork .finished).ws.state = .finished ∧ faulted1.ws.state = .faulted ∧
    State.reset.ws.state = .unconfigured ∧ halted1.ws.state = .halted ∧
    (∀ x, claimed1.jigOpens.ws.selection = some x → x.stage = .claimWithdrawn) := by decide +kernel

theorem witness_FrameCycleStartSetsBack : working1.pu.prober ≠ none ∧
    ({ working1 with pu.prober := none } : State).pu.prober = none ∧
    ((working1.offerZone .left .release).offer .ws (.claim ⟨0, .drill⟩)).frameCycleStart.lc.queue.map (·.body)
      = [.zone .left .release] ∧
    ((winding1 .moving [.retract]).frameCycleStart.cs.cycle.bind (·.ending)).isSome = true := by decide +kernel

theorem witness_StationClearSetsBack : working1.sp.rx = .ready ∧ State.reset.ws.state.online = false ∧
    working1.ws.state.online = true ∧ working1.cfg.low + working1.cfg.gap ≤ working1.cfg.high ∧
    ((zoned1 .left .heldOwn).zone .left).state = .heldOwn ∧ working1.lines.jigClosed = true ∧
    loading1.lines.jigClosed = false ∧ ({ working1 with ws.jigOpened := true } : State).ws.jigOpened = true := by decide

theorem witness_EventFlags : State.reset.eu.annunciator = 0 ∧ (working1.raise .linkFault).eu.annunciator ≠ 0 ∧
    (working1.raise .linkFault).eu.sources.length = 14 ∧ (working1.raise .linkFault).levels.length = 14 ∧
    (working1.raise .linkFault).eu.sources[13]? = some ({} : SourceRecord) ∧ (working1.raise .linkFault).levels[13]? = some 5 ∧
    working1.eu.sources[EventSource.configConflict.index]? = some ({} : SourceRecord) ∧
    (0 : Nat) ≠ EventSource.configConflict.index := by decide

theorem witness_PortFailureFaults : working1.eu.sources[10]? = some ({} : SourceRecord) ∧
    ([loading1, working1.setWork .waiting, working1, working1.setWork .finished, faulted1].map fun s =>
      (s.ws.state, s.throughEnding, s.faultStopping))
      = [(.idle, false, false), (.waiting, false, false), (.working, false, false), (.finished, false, false),
         (.faulted, false, false)] ∧
    (through1.ws.state.online = true ∧ through1.throughEnding = true ∧ through1.ws.state = .faulted) ∧
    (lone1 .park true (some .fault)).faultStopping = true ∧ (lone1 .park true (some .fault)).ws.state.online = true ∧
    State.reset.ws.state.online = false := by decide +kernel

theorem witness_ClearanceHaltStops : working1.ws.state.online = true ∧ working1.ws.state ≠ .faulted ∧
    faulted1.ws.state.online = true ∧ faulted1.ws.state = .faulted := by decide +kernel

/-- The port receiving some bytes. -/
def receiving1 (buffer : List Byte) (ignoring : Bool) : State :=
  { working1 with sp := { rx := .receiving, buffer := buffer, ignoring := ignoring } }

theorem witness_ServiceLine :
    working1.sp.rx = .ready ∧ (0xA4#8 : Byte) ≠ startByte ∧ (0xA5#8 : Byte) = startByte ∧
    (receiving1 [0xA5] false).sp.rx = .receiving ∧ (receiving1 [0xA5] false).sp.ignoring = false ∧
    (receiving1 [0xA5] false).sp.buffer.length < 2 ∧
    field ([0xA5, 0x02] ++ [0x00]) 1 2 = Config.maxRequestLength ∧ field ([0xA5, 0x00] ++ [0x01]) 1 2 ≠ 0 ∧
    (3 ≤ [0xA5, (0 : Byte), 1, 7].length ∧ [0xA5, (0 : Byte), 1, 7].length + 1 < field ([0xA5, 0, 1, 7] ++ [9]) 1 2 + 5) ∧
    (receiving1 [] true).sp.rx = .receiving ∧ (receiving1 [] true).sp.ignoring = true ∧
    ({ working1 with sp.rx := .answering } : State).sp.rx = .answering ∧
    (receiving1 [0xA5, 2] false).sp.buffer = [0xA5, 2] ∧
    field [0xA5, 0, 0] 1 2 = 0 ∧ Config.maxRequestLength < field [0xA5, 2, 1] 1 2 := by decide

theorem witness_WireRoundTrips : requestFits (.writeSetup setup1 1) = true ∧ requestFits (.reworkHole 65535 .drilled) = true ∧
    requestFits .commitPlan = true ∧
    ([.presence presence1, .datum .b 524287 40000 0xFFFF#16, .claim ⟨2047, .set⟩, .release ⟨0, .drill⟩, .report report1,
      .correction correction1, .zone .right .request, .draw .intent 255 2047] : List Body).all bodyFits = true := by decide +kernel

/-- `.error` of a parse, as an option. -/
def parseError (r : Except Status Request) : Option Status :=
  match r with
  | .error st => some st
  | .ok _ => none

theorem witness_RequestsTakenOrRefused : requestFits (.readHole 65535) = true ∧ working1.sp.rx = .ready ∧
    parseError (parseRequest [0xA5, 0, 1, 7, 0, 0]) = some .badCheck ∧ crcChecks [0xA5, 0, 1, 7, 0, 0] = false ∧
    parseError (parseRequest (requestBytes 14 [])) = some .badFormat := by decide +kernel

theorem witness_ReadsChangeNothing : working1.sp.rx = .ready ∧ State.reset.sp.rx = .ready ∧ loading1.sp.rx = .ready ∧
    working1.setup = some setup1 ∧ State.reset.setup = none ∧ setupFits setup1 setup1.classes.length = true ∧
    loading1.ps.status ≠ .valid ∧ working1.ps.status = .valid ∧ lookupKey 1 working1.ps.holes = some (hole1 1) ∧
    working1.ht[1]? = some ({} : HoleEntry) ∧ working1.ht[2]? = none ∧ (1 : Nat) ≠ working1.k ∧ (8 : Nat) ≠ working1.k ∧
    working1.setup ≠ none ∧ 2 = working1.k := by decide +kernel

theorem witness_ReadoutContents : (working1.peer 2).info = none ∧
    (working1.peer 3).info = some (info 280000 400000) := by decide

theorem witness_WriteSetupRules : working1.sp.rx = .ready ∧ loading1.sp.rx = .ready ∧
    setupFits setup1 setup1.classes.length = true ∧ working1.settingOut = false ∧
    loading1.settingOut = true ∧ setup1.fault setup1.classes.length = none ∧
    ({ setup1 with gap := 9999 }.fault 1).isSome = true ∧ setupFits { setup1 with gap := 9999 } 1 = true ∧
    ({ setup1 with role := .no } : Setup).fault 1 = none ∧ setupFits { setup1 with role := .no } 1 = true := by decide +kernel

theorem witness_PlanLoading : loading1.sp.rx = .ready ∧ headerFits header1 = true ∧ working1.settingOut = false ∧
    loading1.settingOut = true ∧ headerFits { header1 with holeCount := 2049 } = true ∧
    headerFits { header1 with holeCount := 2048, groupCount := 256 } = true ∧
    State.settingOut { loading1 with ps.status := .valid } = true ∧ groupFits 1 group1 = true ∧ working1.loadingOpen = false ∧
    loading1.loadingOpen = true ∧ loading1.ps.groupCount ≤ 1 ∧ 0 < loading1.ps.groupCount ∧ holeFits 2 (hole1 0) = true ∧
    loading1.ps.holeCount ≤ 2 ∧ 1 < loading1.ps.holeCount ∧ loading1.ps.groupCount ≤ ({ hole1 0 with group := 1 } : PlanHole).group ∧
    (hole1 0).group < loading1.ps.groupCount := by decide

theorem witness_CommitPlanRules : working1.sp.rx = .ready ∧ loading1.sp.rx = .ready ∧ working1.loadingOpen = false ∧
    loading1.loadingOpen = true ∧ loading1.ps.commitFault = none ∧
    (PlanStore.commitFault { loading1.ps with holes := [] }).isSome = true ∧ plan1.commitFault = none := by decide +kernel

theorem witness_VisitingOrderIsAPermutation : (⟨16, .xorInterleaved, 15⟩ : GroupEntry).start < 16 ∧
    (⟨1, .ascendingWrap, 0⟩ : GroupEntry).start < 1 ∧ working1.ps.status = .valid ∧ working1.ps.commitFault = none ∧
    working1.planOrdered ∧ lookupKey 1 working1.ps.holes = some (hole1 1) ∧
    lookupKey (hole1 1).group working1.ps.groups = some group1 := by
  exact ⟨by decide, by decide, rfl, by decide +kernel, ⟨by decide, by decide, by decide, by decide⟩, by decide, by decide⟩

theorem witness_TargetsUnderCorrection : working1.pu.correction = some correctionB ∧ lookupKey 1 working1.ps.holes = some (hole1 1) ∧
    State.reset.pu.correction = none ∧ (0 : Int) < 1000000 := by decide

theorem witness_ErrorClearRules : working1.sp.rx = .ready ∧ faulted1.sp.rx = .ready ∧ working1.ws.state ≠ .faulted ∧
    faulted1.ws.state = .faulted ∧ faulted1.throughEnding = false ∧ faulted1.faultStopping = false ∧ faulted1.causeStands = false ∧
    State.causeStands { faulted1 with lines.readyLowUntil := 9 } = true ∧ through1.ws.state = .faulted ∧
    through1.throughEnding = true ∧ (working1.enterFaulted .supplyLow).causeSource = some .supplyLow ∧
    faulted1.ws.jigOpened = false ∧ faulted1.lines.jigClosed = true := by decide +kernel

theorem witness_ErrorClearRules_causes :
    faulted1.eu.cause = some { source := .effectorFault (.fault 4), stateLeft := .working, time := 0, cleared := false } ∧
    (working1.enterFaulted .linkFault).causeSource = some .linkFault ∧
    (State.enterFaulted .duplicateStation { working1 with lc.foreignTime := some 0 }).lc.foreignTime = some 0 := by decide

theorem witness_ReworkRules : rejected1.sp.rx = .ready ∧ loading1.ps.status ≠ .valid ∧ rejected1.ps.status = .valid ∧
    rejected1.ht[2]? = none ∧ (rejected1.ht[0]?.map fun e => (e.state, decide (e.rework < 3))) = some (.rejected, true) ∧
    rejected1.ws.state.online = true ∧ (rejected1.setWork .halted).ws.state.online = false ∧
    ({ rejected1 with ht := [{ state := .rejected, rework := 3 }] } : State).ht[0]?
      = some { state := .rejected, rework := 3 } ∧ working1.ht[0]? = some ({} : HoleEntry) := by decide

/-- Stations 1 and 3 are others of the line, and their frames are dispatched at work. -/
theorem witness_dispatches : working1.otherOnLine 1 ∧ working1.otherOnLine 3 ∧ working1.dispatches 1 ∧ working1.dispatches 3 := by
  refine ⟨by unfold State.otherOnLine; decide, by unfold State.otherOnLine; decide, ?_, ?_⟩
  · exact ⟨rfl, by unfold State.otherOnLine; decide, _, rfl, rfl⟩
  · exact ⟨rfl, by unfold State.otherOnLine; decide, _, rfl, rfl⟩

theorem witness_FramesHeldBack : crcChecks [0x33, 0, 5, 0, 0] = false ∧ crcChecks ([0x93] ++ crcBytes [0x93]) = true ∧
    splitFrame ([0x93] ++ crcBytes [0x93]) = none ∧ crcChecks (frameBytes 4 (.claim ⟨5, .set⟩)) = true ∧
    ((splitFrame (frameBytes 4 (.claim ⟨5, .set⟩))).map fun r => decide (working1.cfg.stations < r.sender)) = some true ∧
    ((splitFrame (frameBytes 0 (.claim ⟨5, .set⟩))).map (·.sender)) = some 0 ∧ State.reset.ws.state.online = false ∧
    ((splitFrame (frameBytes 2 (.claim ⟨5, .set⟩))).map (·.sender)) = some working1.k ∧ working1.ws.state.online = true ∧
    1 ≤ working1.k ∧ working1.k ≤ working1.cfg.stations ∧ faulted1.ws.state = .faulted ∧
    loading1.ws.state = .idle ∧ loading1.otherStation 3 = true ∧ bodyFits (.claim ⟨5, .set⟩) = true ∧
    ((State.setPeer 3 ⟨.heard, some { info 280000 400000 with check := 5 }⟩ working1).peer 3).info
      = some { info 280000 400000 with check := 5 } ∧ (5 : Word) ≠ working1.planCheck ∧
    ((State.setPeer 3 {} working1).peer 3).info = none := by decide +kernel

/-- Another plan held for the sender of a PRESENCE, and none. -/
theorem witness_PresenceAndDatumRecorded_filtered :
    let p := { presence3 with check := 5 }
    let other := working1.setPeer 3 ⟨.heard, some { info 280000 400000 with check := 5 }⟩
    let unheard := working1.setPeer 3 {}
    presenceFits p = true ∧ ((other.peer 3).info.map fun i => decide (i.check ≠ other.planCheck)) = some true ∧
    (hearing3 presence3 other).ws.state ≠ .halted ∧ (unheard.peer 3).info = none ∧ p.check ≠ unheard.planCheck ∧
    (hearing3 p unheard).ws.state ≠ .halted := by decide +kernel

theorem witness_PresenceAndDatumRecorded : presenceFits presence1 = true ∧ working1.ws.state.online = true ∧
    presence1.check ≠ working1.planCheck ∧ (hearing3 { presence1 with position := 390000 } working1).ws.state ≠ .halted ∧
    working1.ws.state.active = true ∧ bodyFits (.datum .a 524287 40000 working1.planCheck) = true ∧
    ((working1.peer 1).info.map fun i => decide (i.check = working1.planCheck)) = some true := by decide +kernel

/-- Holes 0 and 1 claimed by station 3, whose PRESENCE then names hole 1 alone. -/
theorem witness_PresenceActs_claims :
    let s := { working1 with ht := List.replicate 2 { state := .drillClaimed, claimant := some 3 } }
    presenceFits presence3 = true ∧ ((s.peer 3).info.map fun i => decide (i.check = s.planCheck)) = some true ∧ (hearing3 presence3 s).ws.state ≠ .halted ∧
    (s.ht[0]?.map fun e => e.claimedBy 3) = some true ∧ presence3.claim.map (·.hole) = some 1 ∧
    HoleEntry.claimedBy {} 3 = false := by decide +kernel

/-- The own record 10 s old, and a millisecond younger; no record; a conflict that begins. -/
theorem witness_PresenceActs_demand :
    let s := { working1 with clock := 10000 }
    s.cfg.role.datum = some .b ∧ s.ownRecord = some ⟨.valid, some fixB⟩ ∧ s.proberStatus = some .current ∧
    presence3.check = s.planCheck ∧ presence3.state = .working ∧ presence3.datumB ≠ .valid ∧ 10000 ≤ s.clock - fixB.time ∧
    9999 - fixB.time < 10000 ∧ (State.ownRecord { working1 with pu.datumB := {} }).bind (·.fix) = none ∧
    working1.setup ≠ none ∧ working1.pt.conflict = false ∧ (hearing3 { presence3 with low := 147999 } working1).pt.conflict = true ∧
    working1.eu.sources[13]? = some ({} : SourceRecord) := by decide +kernel

/-- Carriages nearer than the hard gap, out of order on either side, and a TRAVEL that comes too near. -/
theorem witness_PresenceActs_clearance :
    let s := streaming1 (.travel 192442)
    working1.cfg.sideOf 3 = some .right ∧ working1.cfg.sideOf 1 = some .left ∧ working1.ws.state.active = true ∧
    213999 - working1.own < working1.cfg.hardGap ∧ (1 < working1.k ∧ working1.own ≤ 200000) ∧ (working1.k < 3 ∧ 200000 ≤ working1.own) ∧
    s.cycleTravel = some 192442 ∧ (s.cs.cycle.map fun cy => (cy.ending, cy.stopAsked)) = some (none, false) ∧
    (hearing3 { presence3 with position := 227999, target := 300000, low := 220000 } s).ws.state ≠ .halted ∧
    intervalGap (min s.own 192442, max s.own 192442) (227999, 300000) < s.cfg.gap := by decide +kernel

theorem witness_ZoneReconciled_bounds :
    presenceFits presence3 = true ∧ working1.ws.state.online = true ∧ working1.cfg.sideOf 3 = some .right ∧
    (hearing3 presence3 working1).ws.state ≠ .halted ∧ (working1.zone .right).state ≠ .noZone ∧
    (let s := { working1 with zc.right := {} }
     (s.zone .right).state = .noZone ∧ s.boundsNow .right = some (280000, 300000) ∧
     s.sideInfo .right = some (info 280000 400000)) ∧
    (State.setPeer 3 ⟨.heard, some (info 300001 400000)⟩ working1).boundsNow .right = none := by decide +kernel

/-- The right neighbour with or without the zone, inside it or not, of this plan or another. -/
def neighbour3 (held requested : Bool) (at_ : Nat) (check : Word := 0xB146) (s : State) : State :=
  s.setPeer 3 ⟨.heard, some { info 280000 400000 with heldLeft := held, requestedLeft := requested, position := at_, target := at_,
                                                      check }⟩

theorem witness_ZoneReconciled_rows :
    (neighbour3 false false 390000 5 working1).planDiffers .right = true ∧ (working1.zone .right).state = .free ∧
    ([ZoneState.free, .blocked, .yielding, .heldOther, .requested, .heldOwn].all fun st =>
      let s := zoned1 .right st
      decide (((neighbour3 true true 390000 (s := s)).zone .right).state = st) &&
      [neighbour3 true true 390000 (s := s), neighbour3 false false 390000 (s := s), neighbour3 false false 290000 (s := s)].all
        fun t => !t.planDiffers .right) = true ∧
    ((neighbour3 true true 390000 (s := working1)).sideInfo .right).map (fun i => (i.heldFor .right, i.requestedFor .right))
      = some (true, true) ∧
    ((neighbour3 false false 390000 (s := working1)).sideInfo .right).map (fun i => (i.heldFor .right, i.requestedFor .right))
      = some (false, false) ∧
    (neighbour3 false false 290000 (s := working1)).neighbourInside .right = true ∧
    (neighbour3 false false 390000 (s := working1)).neighbourInside .right = false ∧
    ((zoned1 .right .heldOwn).zone .right).laterSeize = false ∧ ((zoned1 .right .heldOwn).zone .right).progress = .no := by
  decide +kernel

theorem witness_HoleFramesMerge : (Body.claim ⟨1, .drill⟩).hole? = some 1 ∧ bodyFits (.claim ⟨1, .drill⟩) = true ∧
    working1.ht[1]? = some ({} : HoleEntry) ∧ HoleEntry.claimedBy {} working1.k = false ∧
    (Body.claim ⟨2, .drill⟩).hole? = some 2 ∧ working1.ht[2]? = none ∧ claimed1.dispatches 3 := by
  refine ⟨rfl, by decide, rfl, by decide, rfl, rfl, rfl, by unfold State.otherOnLine; decide, _, rfl, rfl⟩

theorem witness_MergeTables :
    ([HoleState.planned, .drillClaimed, .drilled, .setClaimed, .set, .rejected].map fun st => ({ state := st } : HoleEntry).state)
      = [.planned, .drillClaimed, .drilled, .setClaimed, .set, .rejected] ∧
    (⟨5, .drill⟩ : Claim).phase = .drill ∧ (⟨5, .set⟩ : Claim).phase = .set ∧ report1.outcome = .set ∧
    ({ report1 with outcome := .drilled } : Report).outcome = .drilled ∧
    ({ report1 with outcome := .rejected .stack } : Report).outcome = .rejected .stack ∧ correction1.rework = false ∧
    correction1.asserted = .set ∧ correction1.worker = 6 ∧ (6 : Nat) ≠ 0 ∧ (6 : Nat) ≠ 2 ∧
    ({ correction1 with rework := true, asserted := .drilled } : CorrectionMsg).rework = true ∧
    ({ correction1 with asserted := .rejected, reject := some ⟨.stack, .drill⟩ } : CorrectionMsg).reject = some ⟨.stack, .drill⟩ ∧
    (mergeEntry 2 1 (.claim ⟨0, .drill⟩) {}).state.claimed = true := by decide

theorem witness_OwnClaimConflicts :
    let e : HoleEntry := { state := .drillClaimed, claimant := some 2 }
    claimed1.ht[0]? = some e ∧ claimed1.cs.cycle = some cycle1 ∧ cycle1.ending = none ∧ e.claimedBy claimed1.k = true ∧
    passes claimed1.k (.claim ⟨0, .drill⟩) e = true ∧ (Body.claim ⟨0, .drill⟩).keepsClaim = true ∧
    (Body.report { report1 with hole := 0 }).keepsClaim = false ∧ passes claimed1.k (.report { report1 with hole := 0 }) e = true ∧
    cycle1.stage.clampingOrLater = false ∧ ({ cycle1 with stage := .clamping } : Cycle).stage.clampingOrLater = true ∧
    ({ claimed1 with cs.cycle := none } : State).cs.cycle = none ∧
    (winding1 .moving [.retract]).cs.cycle.bind (·.ending) = some (ending1 .moving [.retract]) ∧
    passes 2 (.release ⟨0, .drill⟩) e = false ∧
    passes 2 (.report { report1 with hole := 0, outcome := .drilled }) { state := .setClaimed, claimant := some 2 } = false ∧
    budgeting1.ht[0]? = some { state := .setClaimed, claimant := some 2, stack := some ⟨300, .drill⟩ } := by decide

theorem witness_ZoneAndDrawFramesHeard : working1.cfg.zoneNamed 1 .right = some .left ∧ working1.cfg.zoneNamed 3 .left = some .right ∧
    ((zoned1 .left .heldOwn).zone .left).state = .heldOwn ∧ (working1.zone .left).outstanding = .no ∧
    (working1.zone .right).state ≠ .heldOwn ∧ (working1.zone .right).state ≠ .noZone ∧ working1.blocks .right = false ∧
    ((zoned1 .right .heldOther).zone .right).state = .heldOther ∧ ((zoned1 .right .requested).zone .right).state = .requested ∧
    (zoned1 .right .requested).wants .right = false ∧ (zoned1 .left .requested).neighbourInside .left = true ∧
    (State.wants .left { zoned1 .left .requested with zc.left.bounds := some (100000, 195000) }) = true ∧
    (State.neighbourInside (State.setPeer 1 ⟨.heard, some { info 0 120000 with position := 10000, target := 10000 }⟩
      (zoned1 .left .requested)) .left) = false ∧
    (255 : Nat) < 256 ∧ (2047 : Nat) ≤ 2047 ∧ (1 : Nat) ≠ 0 ∧ working1.drawEntry 3 = none ∧
    (working1.setDraw 3 (some ⟨35, 1, 9, 0⟩)).drawEntry 3 = some ⟨35, 1, 9, 0⟩ := by decide +kernel

theorem witness_AttemptsBeginAndFail : working1.candidate = none ∧ queued1.lc.attempt = none ∧
    (queued1.candidate.map fun c => queued1.deferral c) = some 68 ∧ (67 : Nat) < 68 ∧ (68 - 32) % 4 = 0 ∧
    (sending1 (.claim ⟨0, .drill⟩)).lc.attempt = some (attempt1 (.claim ⟨0, .drill⟩)) ∧
    (sending1 (.claim ⟨0, .drill⟩)).ws.selection = none ∧ (sending1 (.claim ⟨0, .drill⟩)).lc.failures = 7 ∧
    working1.lc.failures ≠ 7 ∧ ({ working1 with lc.failures := 255 } : State).lc.failures ≠ 7 ∧
    (selected1 .claimWithdrawn).stage = .claimWithdrawn ∧
    (selected1 .claimWithdrawn).frameId < ({ working1 with lc.nextId := 8 } : State).lc.nextId := by decide +kernel

theorem witness_ReadBacksAccounted : (attempt1 (.claim ⟨0, .drill⟩)).frame.body ≠ .owed ∧ working1.lc.held = [] ∧
    readBackRow (.release ⟨0, .drill⟩) ≠ readBackRow (attempt1 (.claim ⟨0, .drill⟩)).frame.body ∧
    faulted1.ws.state = .faulted ∧ (sending1 (.claim ⟨0, .drill⟩)).lc.attempt = some (attempt1 (.claim ⟨0, .drill⟩)) := by
  decide +kernel

theorem witness_OwnersActOnReadBack : claimed1.ws.claim = some ⟨0, .drill⟩ ∧ (attempt1 (.release ⟨0, .drill⟩)).frame.owner ≠ .cs ∧
    (⟨1, .drill⟩ : Claim) ≠ ⟨0, .drill⟩ ∧ ({ (attempt1 (.correction correction1)).frame with owner := .cs } : TxFrame).owner = .cs ∧
    (attempt1 (.datum .b 1 1 0)).frame.void = false ∧ working1.cfg.role.datum = some .b ∧ working1.pu.prober ≠ none ∧
    ({ working1 with du.own.state := .queued, du.own.intentId := some 7 } : State).du.own.intentId
      = some (attempt1 (.draw .intent 35 1)).frame.id ∧ working1.du.own.state ≠ .queued ∧
    1 ≤ working1.k ∧ working1.k ≤ working1.du.table.length ∧ (attempt1 (.draw .done 0 1)).frame.mark = working1.du.intentBacks ∧
    ({ (attempt1 (.datum .b 1 1 0)).frame with void := true } : TxFrame).void = true := by decide +kernel

theorem witness_OwnersActOnReadBack_zones : (attempt1 (.zone .left .seize)).frame.void = false ∧ (working1.zone .left).state = .free ∧
    ((zoned1 .left .requested).zone .left).state = .requested ∧ ((zoned1 .right .heldOther).zone .right).state = .heldOther ∧
    (zoned1 .right .heldOther).blocks .right = false ∧ ((zoned1 .right .heldOwn .sent).zone .right).state = .heldOwn ∧
    ((zoned1 .right .heldOwn .sent).zone .right).progress = .sent ∧ ((zoned1 .right .heldOwn .sent).zone .right).dual = false ∧
    (zoned1 .right .heldOwn .sent).planDiffers .right = false ∧ (zoned1 .right .heldOwn .sent).blocks .right = false ∧
    ((zoned1 .right .heldOwn .sent).zone .right).pending = false ∧
    ((State.onZone .right (fun z => { z with pending := true }) (zoned1 .right .heldOwn .sent)).zone .right).pending = true := by
  decide +kernel

theorem witness_ClaimReadBackJudged : (attempt1 (.claim ⟨0, .drill⟩)).frame.id = (selected1 .claimQueued).frameId ∧
    working1.ht[0]? = some ({} : HoleEntry) ∧ ({} : HoleEntry).state = Phase.drill.assumed ∧
    (selected1 .claimQueued).stage = .claimQueued ∧ (selected1 .claimWithdrawn).stage = .claimWithdrawn ∧
    ({ state := .drillClaimed, claimant := some 3 } : HoleEntry).state.claimed = true ∧
    HoleEntry.claimedBy { state := .drillClaimed, claimant := some 3 } working1.k = false ∧
    HoleState.drilled.claimed = false ∧ Phase.drill.assumed.code < HoleState.drilled.code ∧
    ({} : HoleEntry).state.code < Phase.set.assumed.code ∧ ({} : HoleEntry).state.claimed = false ∧
    working1.ws.selection = none ∧ ({} : HoleEntry).state.code ≤ Phase.drill.assumed.code := by decide +kernel

theorem witness_LinkAndPeerTimers : working1.ws.state.online = true ∧ working1.lc.timer = some 100 ∧
    working1.pu.record .a = ⟨.valid, some fixA⟩ ∧
    working1.proberStatus = some .current ∧ working1.ownRecord = some ⟨.valid, some fixB⟩ ∧
    ({ working1 with pu.prober := some ⟨.retryWait, some 10000, none⟩ } : State).pu.prober = some ⟨.retryWait, some 10000, none⟩ ∧
    working1.otherStation 3 = true ∧ 3 ≤ working1.pt.peers.length ∧
    working1.peer 3 = ⟨.heard, some (info 280000 400000)⟩ ∧ 3 ≤ working1.du.table.length ∧
    (working1.setPeer 3 ⟨.silent, some (info 280000 400000)⟩).peer 3 = ⟨.silent, some (info 280000 400000)⟩ ∧
    working1.cfg.role.datum = some .b := by decide

theorem witness_ZoneAndDrawTimers :
    ((zoned1 .left .heldOwn).zone .left).state = .heldOwn ∧
    ((State.onZone .right (fun z => { z with state := .yielding, yieldDeadline := some 5 }) working1).zone .right).yieldDeadline
      = some 5 ∧ working1.blocks .right = false ∧ working1.ws.state ≠ .halted ∧ working1.otherStation 3 = true ∧
    (working1.setDraw 3 (some ⟨35, 1, 9, 0⟩)).drawEntry 3 = some ⟨35, 1, 9, 0⟩ ∧
    State.earlierSum { working1 with du.own := intent1 .settling } + (intent1 .settling).amount ≤ working1.cfg.capacity ∧
    working1.cfg.capacity < State.earlierSum ({ working1 with du.own := { intent1 .settling with ownStamp := 5 } }.setDraw 3
      (some ⟨66, 1, 4, 0⟩)) + (intent1 .settling).amount ∧
    (intent1 .settling).settleDeadline = some 30 ∧ (intent1 .waiting).waitDeadline = some 8000 ∧
    (intent1 .supplyCheck).pollAsked = false ∧
    (intent1 .supplyCheck).nextPoll = some 50 ∧ (intent1 .supplyCheck).lastBelow = true ∧ working1.readingPressure = false ∧
    working1.du.supplyWaits < 2 ∧ (2 : Nat) ≤ ({ working1 with du.supplyWaits := 2 } : State).du.supplyWaits ∧
    working1.ws.state = .working ∧ claimed1.cs.cycle ≠ none ∧ ({ claimed1 with cs.lastClamp := some 3 } : State).cs.lastClamp
      = some 3 ∧ ({ claimed1 with cs.lastSqueeze := some 3 } : State).cs.lastSqueeze = some 3 := by decide

theorem witness_PortHandshake :
    ({ claimed1 with ep.handshake := .awaitingResume } : State).ep.handshake = .awaitingResume ∧
    claimed1.ep.handshake ≠ .awaitingResume ∧ claimed1.ep.handshake ≠ .awaitingRelease ∧ claimed1.ep.haltWaiting = false ∧
    ({ claimed1 with ep.handshake := .awaitingRelease, ep.transfer := some transfer1 } : State).ep.transfer = some transfer1 ∧
    transfer1.rest = 0xEFBA#16 :: [0x000A#16] ∧ ({ transfer1 with rest := [] } : Transfer).rest = [] ∧
    transfer1.command.interjection = false ∧ transfer1.command ≠ .halt ∧
    ({ transfer1 with command := .stopMotion, rest := [] } : Transfer).command = .stopMotion ∧
    (streaming1 .sense).ep.stream = some (stream1 .sense) ∧ working1.ep.stream = none ∧
    ({ claimed1 with ep.haltWaiting := true } : State).ep.haltWaiting = true ∧
    ({ claimed1 with ep.responseDeadline := some 20 } : State).ep.responseDeadline = some 20 ∧ claimed1.ep.haltedMark = false ∧
    ({ claimed1 with ep.haltedMark := true } : State).ep.haltedMark = true ∧
    (streaming1 .sense).ep.deadline = some 30000 := by decide +kernel

theorem witness_ReportWordsJudged :
    (Instr.doneReport 0 true, 1, (0 : Data)) ∈ wordRows 0x1000 0 true ∧ (Instr.faultReport 4 false, 14, (4 : Data)) ∈ wordRows 0 4 false ∧
    (Instr.refusedReport 4 false, 15, (4 : Data)) ∈ wordRows 0 4 false ∧
    ({ working1 with ep.discard := true } : State).ep.discard = true ∧ working1.ep.discard = false ∧ working1.ep.stream = none ∧
    working1.ignoresWords = false ∧ State.reset.ignoresWords = true ∧
    (streaming1 (.travel 192442)).ep.stream = some (stream1 (.travel 192442)) ∧
    acceptWord (.travel 192442) [] (streaming1 (.travel 192442)).motionStopped 1 0 true = some .done ∧
    acceptWord (.travel 192442) [] (streaming1 (.travel 192442)).motionStopped 1 0 false = none := by decide +kernel

theorem witness_AcceptedReportsAct : (stream1 (.travel 192442)).command = .travel 192442 ∧ (stream1 .clamp).user = .cycle ∧
    (streaming1 (.travel 192442)).motionStopped = false ∧ (stopped1 claimed1).motionStopped = true ∧
    (streaming1 .gauge).cs.cycle = some { cycle1 with task := .placed .gauge } ∧ cycle1.winding = false ∧ cycle1.stage ≠ .sensing ∧
    ({ cycle1 with stage := .sensing } : Cycle).stage = .sensing ∧ cycle1.work = .hole ⟨0, .drill⟩ ∧
    (∀ h, cycle1.work ≠ .hole ⟨h, .set⟩) ∧ cycle1.ending = none ∧
    claimed1.ht[0]? = some { state := .drillClaimed, claimant := some 2 } ∧
    (budgeting1.cs.cycle.map fun cy => (cy.work, cy.grip)) = some (.hole ⟨0, .set⟩, some (0, class1)) ∧
    (100 * 284 < 95 * class1.pressure) ∧ (95 * class1.pressure ≤ 100 * 285) ∧ class1.minStroke ≤ 100 ∧ 900 ≤ class1.maxStroke := by
  refine ⟨rfl, rfl, by decide, by decide, rfl, rfl, by decide, rfl, rfl, ?_, rfl, rfl, rfl, ?_⟩
  · intro h hh; simp [cycle1, newCycle] at hh
  · decide

theorem witness_AcceptedReportsAct_pressure :
    let s := { working1 with du.own := intent1 .supplyCheck }
    s.du.own.state = .supplyCheck ∧ s.cfg.supplyFloor ≤ 180 ∧ 179 < s.cfg.supplyFloor ∧ s.du.own.supplyStart = some 0 ∧
    s.clock < 0 + s.cfg.pressureWait ∧ 0 + s.cfg.pressureWait ≤ ({ s with clock := 5000 } : State).clock ∧ s.du.supplyWaits < 2 ∧
    2 ≤ ({ s with du.supplyWaits := 2 } : State).du.supplyWaits ∧ s.ws.state = .working ∧
    s.eu.sources[7]? = some ({} : SourceRecord) ∧ working1.du.own.state ≠ .supplyCheck := by decide

theorem witness_SenseJudged : claimed1.cs.cycle = some cycle1 ∧ cycle1.winding = false ∧
    ((winding1 .moving [.retract]).cs.cycle.map (·.winding)) = some true ∧ cycle1.work = .hole ⟨0, .drill⟩ ∧
    claimed1.cfg.tolerance < (11 : Int).natAbs ∧ (10 : Int).natAbs ≤ claimed1.cfg.tolerance ∧
    2 ≤ ({ cycle1 with senses := 2 } : Cycle).senses ∧ cycle1.senses < 2 ∧
    ((claimed1.cfg.low : Int) ≤ cycle1.rail - 11 ∧ (cycle1.rail : Int) - 11 ≤ claimed1.cfg.high) ∧
    ((0 : Int) ≤ cycle1.cross - 11 ∧ (cycle1.cross : Int) - 11 ≤ claimed1.cfg.crossLimit) ∧
    ((cycle1.rail : Int) - 92443 < claimed1.cfg.low) ∧ ((cycle1.cross : Int) - 12005 < 0) ∧
    budgeting1.ht[0]? = some { state := .setClaimed, claimant := some 2, stack := some ⟨300, .drill⟩ } ∧
    (⟨0, .drill⟩ : Claim).phase = .drill ∧ (⟨0, .set⟩ : Claim).phase = .set ∧
    claimed1.ht[0]? = some { state := .drillClaimed, claimant := some 2 } := by decide

theorem witness_SenseJudged_datum :
    let cy := newCycle .datum 372532 7984 none .sensing
    ({ working1 with cs.cycle := some cy } : State).cs.cycle = some cy ∧ cy.winding = false ∧ cy.work = .datum ∧
    working1.cfg.role.datum = some .b ∧ working1.pu.prober ≠ none ∧ (400 : Int).natAbs ≤ working1.cfg.window ∧
    working1.cfg.window < (401 : Int).natAbs ∧ (0 : Int) ≤ 372532 + 400 ∧ (372532 : Int) + 400 ≤ 524287 ∧
    (0 : Int) ≤ 7984 + -400 ∧ (7984 : Int) + -400 ≤ 40000 ∧ working1.eu.sources[4]? = some ({} : SourceRecord) := by decide

/-- An analysis just opened, and a cut that goes through. -/
def analysis1 : StackAnalyser := openAnalysis setup1 0 (hole1 0)

theorem witness_DrillStreamRuns :
    let a := { analysis1 with status := .inStack, runLength := 5, entryDepth := some 8 }
    (a.sample 299).feedStopAsked = true ∧ a.feedStopAsked = false ∧ (a.sample 300).feedStopAsked = a.feedStopAsked ∧
    claimed1.cs.cycle = some cycle1 ∧ cycle1.winding = false ∧ ((winding1 .cutting [.retract]).cs.cycle.map (·.winding)) = some true ∧
    analysis1.close.outcome = some (.rejected .noEntry none none none) ∧
    (let s := { streaming1 (.drill 200) with cs.interject := some .feedStop }
     s.drillStream = true ∧ s.ep.stopped = .no ∧ s.ep.transfer = none ∧ s.lines.resume = false ∧ s.ep.haltedMark = false ∧
     s.ep.haltWaiting = false ∧ s.effectorReady = true ∧ s.ep.stream = some (stream1 (.drill 200))) ∧
    a.status = .inStack ∧ a.tx ≤ a.te ∧ a.runLength + 1 = a.runK ∧
    ({ analysis1 with analysed := analysis1.limit - 1 } : StackAnalyser).analysed + 1 = analysis1.limit ∧
    ({ a with status := .exited, exitDepth := some 308 } : StackAnalyser).entryDepth = some 8 := by decide +kernel

theorem witness_CleanCutMeasured : analysis1.status = .seekingEntry ∧ analysis1.analysed = 0 ∧ analysis1.interfaces = 0 ∧
    analysis1.runLength = 0 ∧ 1 ≤ analysis1.runK ∧ analysis1.tx < analysis1.te ∧
    (List.replicate 6 299).length = analysis1.runK ∧
    (List.replicate 3 799).length + 1 + (List.replicate 149 800).length + (List.replicate 6 299).length ≤ analysis1.limit ∧
    (∀ v ∈ List.replicate 3 799, v < analysis1.te) ∧ (∀ v ∈ List.replicate 149 800, analysis1.te ≤ v) ∧
    (∀ v ∈ List.replicate 6 299, v < analysis1.tx) ∧ analysis1.te ≤ 800 := by decide +kernel

theorem witness_EarlyEndings : claimed1.cs.cycle = some cycle1 ∧ cycle1.ending = none ∧
    ({ cycle1 with stage := .squeezing } : Cycle).stage = .squeezing ∧ ({ cycle1 with stage := .budgeting } : Cycle).stage = .budgeting ∧
    budgeting1.du.own.state ≠ .squeezing ∧ ((winding1 .moving [.stopMotion, .retract]).cs.cycle.bind (·.ending))
      = some (ending1 .moving [.stopMotion, .retract]) ∧ (ending1 .moving []).stage.goesOn = false ∧
    (let s := winding1 .moving [.retract]
     s.ep.transfer = none ∧ s.lines.resume = false ∧ s.ep.haltedMark = false ∧ s.ep.haltWaiting = false ∧ s.effectorReady = true ∧
     s.ep.stream = none ∧ (s.cs.cycle.map (·.task)) = some .idle ∧ Command.retract.interjection = false) ∧
    (stopped1 (winding1 .moving [.stopMotion])).motionStream = true ∧
    ({ winding1 .moving [.stopMotion] with ep.stream := some (stream1 .sense) } : State).motionStream = true ∧
    ({ winding1 .cutting [.feedStop] with ep.stream := some (stream1 (.drill 200)) } : State).drillStream = true := by decide +kernel

theorem witness_EarlyEndings_entries :
    let en : HoleEntry := { state := .drillClaimed, claimant := some 2 }
    ([winding1 .cutting [], winding1 .moving [], winding1 .cutting [] true].all fun s =>
      decide (s.ht[0]? = some en) && en.claimedBy s.k && s.ep.transfer.isNone &&
      decide ((s.cs.cycle.map fun cy => (cy.task, cy.work, cy.left)) = some (.idle, .hole ⟨0, .drill⟩, []))) = true ∧
    claimed1.eu.sources[6]? = some ({} : SourceRecord) ∧
    (let cy := { newCycle .datum 372532 7984 none .moving with ending := some (ending1 .moving []), task := .idle }
     cy.work = .datum ∧ ({ working1 with cs.cycle := some cy, pu.prober := some ⟨.inCycle, none, none⟩ } : State).proberStatus
       = some .inCycle ∧ working1.proberStatus ≠ some .inCycle) := by decide +kernel

theorem witness_CyclesWriteTheirHole :
    let cy := fun o => { cycle1 with stage := .reporting, task := .idle, outcome := some o }
    ([CycleOutcome.drilled 300 2, .set 0 300 500, .rejected .stack (some (500, 2)) none none,
      .rejected .squeeze none (some 0) (some ⟨3, 4⟩), .foundDrilled, .foundSet].all fun o =>
      decide (({ claimed1 with cs.cycle := some (cy o) } : State).cs.cycle = some (cy o)) && decide ((cy o).outcome = some o) &&
      decide ((cy o).left = []) && decide ((cy o).voided = false)) = true ∧
    ({ cycle1 with ending := some (ending1 .reporting [] true) } : Cycle).voided = true ∧ cycle1.work = .hole ⟨0, .drill⟩ ∧
    cycle1.left = [] ∧ claimed1.ht[0]? = some { state := .drillClaimed, claimant := some 2 } ∧
    HoleState.drillClaimed ≠ .set ∧ ({ state := .set } : HoleEntry).state = .set := by decide

theorem witness_WorkPassages :
    ((working1.setWork .waiting).ws.state = .waiting ∧ working1.workConditions = true ∧
      State.workConditions { working1 with pt.conflict := true } = false ∧
      (State.settle { working1 with pt.conflict := true }).ws.state = .waiting) ∧
    (working1.ws.state = .working ∧ working1.cs.cycle = none ∧ working1.ws.selection = none ∧ claimed1.cs.cycle ≠ none) ∧
    (done1.workConditions = true ∧ done1.zc.left.state ≠ .heldOwn ∧ done1.zc.right.state ≠ .heldOwn ∧
      done1.pu.concern = some [0, 1] ∧ done1.ht[0]? = some { state := .set } ∧ done1.ht[1]? = some { state := .rejected }) ∧
    done1.eu.sources[12]? = some ({} : SourceRecord) ∧ done1.own = done1.cfg.park ∧
    (let s := { done1 with ep.ownPos := some 150000 }
     s.ws.park ≠ .travelling ∧ s.own ≠ s.cfg.park ∧ s.zoneAt s.cfg.park = none) ∧
    ((working1.setWork .finished).ws.state = .finished ∧ working1.ht[0]? = some ({} : HoleEntry) ∧
      ({} : HoleEntry).state ≠ .set ∧ ({} : HoleEntry).state ≠ .rejected) := by decide +kernel

theorem witness_LoneMotions_park :
    let s := { working1.setWork .finished with ws.park := .waitingForClearance, ep.ownPos := some 150000 }
    s.ws.park = .waitingForClearance ∧ s.ws.state.active = true ∧ s.cs.cycle = none ∧ s.cs.lone = none ∧ s.claimQueued = false ∧
    s.canPlace (.travel s.cfg.park) = true ∧ s.effectorReady = true ∧ s.permitted s.cfg.park = true ∧ s.cfg.low ≤ s.cfg.park ∧
    s.cfg.park ≤ s.cfg.high ∧ s.zoneAt s.cfg.park = none ∧
    State.permitted (neighbour3 false false 227999 (s := s)) s.cfg.park = false ∧ claimed1.cs.cycle ≠ none := by decide +kernel

theorem witness_LoneMotions_retreat :
    let l : Lone := { owner := .retreat .left, target := 200000 }
    let s := { zoned1 .left .heldOwn .retreating with cs.lone := some l }
    s.cs.lone = some l ∧ l.ending = none ∧ l.placed = false ∧ s.cs.cycle = none ∧ s.claimQueued = false ∧
    (s.zone .left).progress = .retreating ∧ s.canPlace (.travel l.target) = true ∧ s.effectorReady = true ∧
    s.cfg.low ≤ l.target ∧ l.target ≤ s.cfg.high ∧ s.permitted l.target = true ∧
    State.permitted (neighbour3 false false 227999 (s := s)) l.target = false ∧ (s.zone .left).state = .heldOwn ∧
    s.motionStopped = false ∧ (stopped1 s).motionStopped = true := by decide +kernel

theorem witness_LoneMotions_ends :
    let o : OpenStream := { command := .travel 200000, user := .lone }
    o.user = .lone ∧ ((lone1 .park true).cs.lone.map fun l => (l.owner, l.ending, l.placed)) = some (.park, none, true) ∧
    (lone1 .park true).motionStopped = false ∧ (stopped1 (lone1 .park true)).motionStopped = true ∧
    ((lone1 .park false).cs.lone.map (·.placed)) = some false ∧
    ((lone1 .park true (some .plain)).cs.lone.map (·.ending)) = some (some .plain) ∧
    (let s := { lone1 .park true (some .plain) with ep.stream := some o }
     s.ep.transfer = none ∧ s.motionStream = true ∧ s.ep.stopped = .no ∧ s.canPlace .stopMotion = true ∧ s.effectorReady = true ∧
     s.ep.stream = some o) ∧ (lone1 .park true (some .plain)).ep.stream = none := by decide +kernel

theorem witness_SelectionRules :
    working1.target? 0 = some (192442, 12004) ∧ working1.ht[0]? = some ({} : HoleEntry) ∧ working1.pu.concern = some [0, 1] ∧
    [0, 1].Pairwise (· < ·) ∧ working1.nearest [] .set = none ∧ (working1.nearest [] .drill).isSome = true ∧
    working1.maySelect = true ∧ claimed1.maySelect = false ∧ working1.datumChoice [] = none ∧ working1.ws.state = .working ∧
    ((working1.nearest [] .drill).map fun ch => working1.zoneStands ch.zone) = some true ∧
    (let s := { working1 with zc.left.bounds := some (100000, 195000) }
     ((s.nearest [] .drill).map (·.zone)) = some (some .left) ∧ (s.zone .left).state = .free ∧ (s.zone .left).outstanding = .no ∧
     s.maySelect = true) ∧
    done1.nearest [] .set = none ∧ done1.nearest [] .drill = none := by decide +kernel

/-- A DUE datum cycle, with its target within the limits, in no zone and in a FREE one. -/
theorem witness_SelectionRules_datum :
    let c := { setup1 with high := 390000, park := 370000 }
    let s := { working1 with setup := some c, pu.prober := some ⟨.due, none, none⟩, pu.datumB := {}, pu.correction := none,
                             zc.right := {}, pt.peers := working1.pt.peers.set 2 ⟨.heard, some (info 600000 700000)⟩ }
    let t := { s with zc.right := { state := .free, bounds := some (300000, 390000) } }
    s.maySelect = true ∧ (s.datumChoice []).isSome = true ∧
    ((s.datumChoice []).map fun x => (x.2, s.zoneStands x.2, s.cfg.withinTravel x.1.1, s.cfg.withinCross x.1.2))
      = some (none, true, true, true) ∧
    t.maySelect = true ∧ ((t.datumChoice []).map (·.2)) = some (some .right) ∧ (t.zone .right).state = .free ∧
    (t.zone .right).outstanding = .no ∧
    (State.datumChoice { done1.setWork .finished with pu.prober := some ⟨.due, none, none⟩, zc.right := { state := .heldOther, bounds := some (300000, 390000) } } []) = none := by
  decide +kernel

theorem witness_ClaimsOfferedAndWithdrawn : working1.ws.claim = none ∧ working1.lc.queue.length + 4 ≤ 16 ∧ claimed1.ws.claim ≠ none ∧
    16 < ({ working1 with lc.queue := List.replicate 13 (attempt1 .owed).frame } : State).lc.queue.length + 4 ∧
    ({ selected1 .seizeWait with zone := some .left } : Selection).zone = some .left ∧
    (let x := selected1 .claimQueued
     let s := { working1 with ws.selection := some x, ws.retest := true, lc.nextId := 8 }
     let t := { s with ht := [{ state := .set }, {}] }
     x.stage = .claimQueued ∧ x.work = .hole ⟨0, .drill⟩ ∧ s.inConcern 0 = true ∧ s.stateRow ⟨0, .drill⟩ = true ∧
     s.zoneStands x.zone = true ∧ t.ws.retest = true ∧ t.stateRow ⟨0, .drill⟩ = false ∧ t.inFlight x.frameId = false ∧
     x.frameId < t.lc.nextId ∧ ({ t with lc.attempt := some (attempt1 (.claim ⟨0, .drill⟩)) } : State).inFlight x.frameId = true) := by
  decide +kernel

/-! ### The clauses at their boundaries -/

/-- A park TRAVEL placed outside every zone, and one into a zone held. -/
theorem witness_PlacedCommandsAreAllowed_lone :
    let s := { working1.setWork .finished with ht := done1.ht, ws.park := .waitingForClearance, ep.ownPos := some 150000 }
    let t := { s with setup := some { setup1 with park := 110000 }, ht := working1.ht, zc := (zoned1 .left .heldOwn).zc,
                      pt := (State.setPeer 1 ⟨.heard, some { info 0 120000 with position := 10000, target := 10000 }⟩ s).pt }
    (s.stepPark.ep.transfer.map fun x => (x.command, x.user)) = some (.travel 200000, .lone) ∧
    (t.stepPark.ep.transfer.map fun x => (x.command, x.user)) = some (.travel 110000, .lone) ∧
    t.stepPark.zoneAt 110000 = some .left ∧ (t.stepPark.zone .left).state = .heldOwn ∧
    (∀ side, t.zoneAt t.cfg.park = some side → (t.zone side).state = .heldOwn ∧ (t.zone side).progress = .no) := by decide +kernel

/-- A prober in its cycle, or waiting for the read-back of its DATUM, which is in the queue. -/
def probing1 (st : ProberStatus) : State :=
  State.offer .pu (.datum .b 372532 7984 0xB146) { claimed1 with pu.prober := some ⟨st, none, none⟩ }

/-- For JIG OPEN and STATION CLEAR: a cycle, an ending, a lone motion in each form, and the prober. -/
theorem witness_JigLine_StationClear_ends :
    claimed1.cs.cycle = some cycle1 ∧ cycle1.ending = none ∧ working1.cs.cycle = none ∧ working1.cs.lone = none ∧
    ((winding1 .moving [.retract]).cs.cycle.bind (·.ending)).isSome = true ∧ claimed1.ws.state = .working ∧
    ([lone1 .park true, lone1 .park false, lone1 .park true (some .fault)].map fun s =>
      (s.ws.state, s.cs.lone.map fun l => (l.placed, l.ending)))
      = [(.working, some (true, none)), (.working, some (false, none)), (.working, some (true, some .fault))] ∧
    (probing1 .inCycle).proberStatus = some .inCycle ∧ (probing1 .awaitingReadBack).proberStatus = some .awaitingReadBack ∧
    (probing1 .awaitingReadBack).lc.queue.map (·.owner) = [.pu] ∧ working1.proberStatus = some .current := by decide

/-- The last byte of a request, and a code, a length and code values that fail its framing. -/
theorem witness_RequestsTakenOrRefused_framing :
    let s := receiving1 [0xA5, 0, 1, 7, 9] false
    s.sp.rx = .receiving ∧ s.sp.ignoring = false ∧ 3 ≤ s.sp.buffer.length ∧
    field (s.sp.buffer ++ [9]) 1 2 + 5 ≤ s.sp.buffer.length + 1 ∧
    parseError (parseRequest (requestBytes 0 [])) = some .badFormat ∧
    parseError (parseRequest (requestBytes 255 [0])) = some .badFormat ∧ ([0] : List Byte).length ≠ 0 ∧
    parseError (parseRequest (requestBytes 2 [0])) = some .badFormat ∧
    parseError (parseRequest (requestBytes 13 [0, 0, 1])) = some .badFormat ∧
    parseError (parseRequest (requestBytes 4 [0, 1, 2, 0])) = some .badFormat ∧
    (let p := (List.replicate 32 0 ++ [(3 : Byte)]) ++ List.replicate 203 0
     p.length = 236 ∧ 2 < field p 30 3) := by decide +kernel

/-- PLAN MISMATCH raised, and not raised again; a correction within its limits, and one beyond. -/
theorem witness_PresenceAndDatumRecorded_correction :
    (presence1.check ≠ working1.planCheck ∧ (∀ i, (working1.peer 3).info = some i → i.check = working1.planCheck) ∧
      (∀ i, (working1.peer 2).info = some i → i.check = working1.planCheck)) ∧
    (((neighbour3 false false 390000 5 working1).peer 3).info.map fun i => decide (i.check ≠ working1.planCheck)) = some true ∧
    working1.eu.sources[3]? = some ({} : SourceRecord) ∧ presence3.check = working1.planCheck ∧
    working1.ps.header = some { header1 with check := 0xB146 } ∧ working1.pu.datumA = ⟨.valid, some fixA⟩ ∧
    working1.pu.datumB = ⟨.valid, some fixB⟩ ∧ correctionB.s.natAbs ≤ working1.cfg.scaleLimit ∧
    (correctionB.oB - correctionB.oA).natAbs ≤ working1.cfg.skewLimit ∧
    working1.cfg.scaleLimit < (rawCorrection header1 fixA { fixB with r := 373072 }).s.natAbs ∧
    State.reset.pu.datumA.status ≠ .valid := by decide +kernel

/-- A neighbour inside the right zone that does not hold it: the zone's changes end in BLOCKED. -/
theorem witness_blocks :
    ([ZoneState.free, .heldOther, .requested, .yielding].all fun st =>
      let s := neighbour3 false false 290000 (s := zoned1 .right st)
      s.blocks .right && decide ((s.zone .right).state = st) && !s.wants .right) = true ∧
    (let s := neighbour3 false false 290000 (s := zoned1 .right .heldOwn .sent)
     s.blocks .right = true ∧ (s.zone .right).progress = .sent ∧ (s.zone .right).dual = false) ∧
    (let s := neighbour3 false false 290000 (s := State.onZone .right (fun z => { z with yieldDeadline := some 5 }) (zoned1 .right .yielding))
     s.blocks .right = true ∧ (s.zone .right).yieldDeadline = some 5) ∧
    ((zoned1 .right .heldOwn .retreating).zone .right).progress ≠ .sent := by decide +kernel

/-- A quiet time between slot boundaries, and the eighth failure of a withdrawn CLAIM. -/
theorem witness_AttemptsBeginAndFail_eighth :
    (69 - 32) % 4 ≠ 0 ∧ queued1.candidate.isSome = true ∧
    (let s := { sending1 (.claim ⟨0, .drill⟩) with ws.selection := some (selected1 .claimWithdrawn), lc.nextId := 8 }
     s.ws.selection = some (selected1 .claimWithdrawn) ∧ s.lc.failures = 7 ∧ (selected1 .claimWithdrawn).frameId < s.lc.nextId ∧
     s.eu.sources[8]? = some ({} : SourceRecord) ∧ s.lc.attempt = some (attempt1 (.claim ⟨0, .drill⟩))) := by decide +kernel

/-- Gauged stacks at and beyond the plan's tolerance, and one no grip class serves. -/
theorem witness_AcceptedReportsAct_gauge :
    lookupKey 0 claimed1.ps.holes = some (hole1 0) ∧ (hole1 0).nominal + (hole1 0).tolerance < 351 ∧
    350 ≤ (hole1 0).nominal + (hole1 0).tolerance ∧ (hole1 0).nominal ≤ 250 + (hole1 0).tolerance ∧
    249 + (hole1 0).tolerance < (hole1 0).nominal ∧ gripFor claimed1.cfg.classes 250 = some (0, class1) ∧
    gripFor [{ class1 with maxStack := 249 }] 250 = none := by decide

/-- An OPEN HOLE that would stand outside the ranges of a record. -/
theorem witness_SenseJudged_range :
    ((399 : Int) + -400 < 0) ∧ ((524287 : Int) < 523888 + 400) ∧ ((40000 : Int) < 39601 + 400) ∧
    (400 : Int).natAbs ≤ working1.cfg.window := by decide

/-- An ending and a reporting cycle with frames left to HT, two on the cycle's own hole. -/
theorem witness_left_frames :
    let l : List Heard := [⟨3, .claim ⟨0, .drill⟩, 5⟩, ⟨3, .report { report1 with hole := 0, outcome := .drilled, phase := .drill }, 6⟩]
    let cy := { cycle1 with stage := .moving, task := .idle, ending := some (ending1 .moving []), left := l }
    (∀ f ∈ cy.left, f.body.hole? = some 0) ∧ cy.left ≠ [] ∧
    claimed1.ht[0]? = some { state := .drillClaimed, claimant := some 2 } ∧
    (l.foldl (fun x f => mergeEntry 2 f.sender f.body x) (HoleEntry.revert { state := .drillClaimed, claimant := some 2 })).state
      = .drilled ∧
    (State.stepCycle { claimed1 with cs.cycle := some cy }).ht[0]?.map (·.state) = some .drilled := by decide +kernel

/-- A PRESENCE that claims the first number beyond the plan, while its sender has a hole claimed. -/
theorem witness_PresenceActs_beyond :
    let s := { working1 with ht := List.replicate 2 { state := .drillClaimed, claimant := some 3 } }
    let p := { presence3 with claim := some ⟨2, .drill⟩ }
    presenceFits p = true ∧ p.claim = some ⟨2, .drill⟩ ∧ s.ht.length = 2 ∧ (hearing3 p s).ws.state ≠ .halted ∧
    (hearing3 p s).ht = s.ht ∧ ((hearing3 { p with claim := some ⟨1, .drill⟩ } s).ht.map (·.state)) = [.planned, .drillClaimed] := by
  decide +kernel

/-- ZONE frames that are no zone's, and a SEIZE heard while an own one is still to be sent. -/
theorem witness_ZoneAndDrawFramesHeard_own :
    working1.cfg.zoneNamed 1 .left = none ∧ working1.cfg.zoneNamed 3 .right = none ∧ State.reset.zc.left.state = .noZone ∧
    (let s := working1.sendOutstanding .right .seize .seize
     (s.zone .right).outstanding = .seize ∧ s.inFlight (s.zone .right).frameId = false ∧ s.blocks .right = false ∧
     (s.hearSeize .right).lc.queue.map (·.body) = [.zone .right .request]) ∧
    (let s := State.sendOutstanding .right .seize .seize (zoned1 .right .heldOwn)
     (s.zone .right).state = .heldOwn ∧ (s.zone .right).outstanding = .seize ∧ s.inFlight (s.zone .right).frameId = false) := by
  decide +kernel

/-- An ending's STOP MOTION into a TRAVEL that a clearance stop has reached, and a FEED STOP already taken. -/
theorem witness_EarlyEndings_stopped :
    (let s := stopped1 (winding1 .moving [.stopMotion, .retract])
     s.motionStream = true ∧ s.ep.stopped = .stopMotion ∧ (s.stepCycle.ep.transfer.map (·.command)) = some .stopMotion) ∧
    (let s := { winding1 .cutting [.feedStop, .retract] with ep.stream := some (stream1 (.drill 200)), ep.stopped := .feedStop }
     s.drillStream = true ∧ s.ep.stopped ≠ .no ∧ s.ep.transfer = none ∧ s.stepCycle.ep = s.ep) := by decide +kernel

/-- A retreat whose target has come to lie in a zone, held or not, and the forms a lone motion is ended early in. -/
theorem witness_LoneMotions_zone :
    let l : Lone := { owner := .retreat .left, target := 290000 }
    let s := { zoned1 .left .heldOwn .retreating with cs.lone := some l }
    let t := State.onZone .right (fun z => { z with state := .heldOwn }) (neighbour3 false false 390000 (s := s))
    s.zoneAt l.target = some .right ∧ (s.zone .right).state ≠ .heldOwn ∧ s.canPlace (.travel l.target) = true ∧
    s.cfg.low ≤ l.target ∧ l.target ≤ s.cfg.high ∧ s.stepLone = s ∧
    t.permitted l.target = true ∧ (t.zone .right).state = .heldOwn ∧ (t.zone .right).progress = .no ∧
    (t.stepLone.ep.transfer.map fun x => x.user) = some .lone ∧
    (lone1 .park false (some .fault)).endLone .plain = lone1 .park false (some .fault) := by decide +kernel

/-- A DUE datum cycle whose rail or cross target is out of reach. -/
theorem witness_SelectionRules_reach :
    let s := { working1 with pu.prober := some ⟨.due, none, none⟩, pu.datumB := {}, pu.correction := none, pu.concern := none }
    let t := { s with setup := some { setup1 with crossLimit := 5000, high := 390000, park := 370000 }, zc.right := {},
                      pt.peers := working1.pt.peers.set 2 ⟨.heard, some (info 600000 700000)⟩ }
    s.maySelect = true ∧ ((s.datumChoice []).map fun x => (s.zoneStands x.2, s.cfg.withinTravel x.1.1)) = some (true, false) ∧
    t.maySelect = true ∧ ((t.datumChoice []).map fun x => (t.zoneStands x.2, t.cfg.withinCross x.1.2)) = some (true, false) ∧
    s.eu.sources[4]? = some ({} : SourceRecord) := by decide +kernel

/-- A zone held that WS no longer wants, one wanted for a queued CLAIM alone, its target on the upper bound, and one whose quota is used up. -/
theorem witness_ClaimsOfferedAndWithdrawn_release :
    let s := { zoned1 .left .heldOwn with pu.concern := some [] }
    let x := { selected1 .claimQueued with zone := some .left, rail := 120000 }
    let t := { s with ws.selection := some x }
    let u := State.onZone .left (fun z => { z with pending := true, cycles := 4 }) s
    (s.zone .left).state = .heldOwn ∧ (s.zone .left).progress = .no ∧ s.cs.cycle = none ∧ s.wants .left = false ∧
    s.ws.selection = none ∧ t.wants .left = true ∧ t.ws.selection = some x ∧ x.stage = .claimQueued ∧ x.zone = some .left ∧
    x.work = .hole ⟨0, .drill⟩ ∧ (t.zone .left).bounds = some (100000, 120000) ∧ t.stateRow ⟨0, .drill⟩ = true ∧
    t.considerRelease .left = t ∧ (t.zone .left).pending = false ∧ (u.zone .left).pending = true ∧ u.cfg.quota ≤ (u.zone .left).cycles ∧ claimed1.cs.cycle ≠ none := by
  decide +kernel

/-- R65: a path that comes as near as the minimum gap allows, one that comes nearer, and a neighbour not yet heard. -/
theorem witness_PlacedCommandsAreAllowed_path :
    let s := working1.setPeer 3 {}
    working1.permitted 147990 = true ∧ working1.permitted 147989 = false ∧ s.permitted 200000 = false ∧
    (1 + 1 = working1.k ∧ 1 ≤ 1) ∧ (3 = working1.k + 1 ∧ working1.k < working1.cfg.stations) ∧ working1.cfg.gap = 28000 := by
  decide +kernel

/-- R63, R68: a stretch of the minimum gap and one shorter, zones that exist or not, and a station that is not adjacent. -/
theorem witness_PresenceActs_conflict :
    let s := fun low : Nat => working1.setPeer 3 ⟨.heard, some (info low 400000)⟩
    let t := fun low : Nat => working1.setPeer 4 ⟨.heard, some (info low 500000)⟩
    (s 148000).boundsNow .left = some (100000, 120000) ∧ (s 148000).boundsNow .right = some (148000, 300000) ∧
    (s 148000).shortStretch = false ∧ (s 147999).shortStretch = true ∧
    (s 300000).boundsNow .right = some (300000, 300000) ∧ (s 300001).boundsNow .right = none ∧
    (working1.setPeer 1 {}).boundsNow .left = none ∧ (t 300000).nonAdjacentOverlap = true ∧ (t 300001).nonAdjacentOverlap = false ∧
    working1.zoneAt 120000 = some .left ∧ working1.zoneAt 120001 = none ∧ working1.zoneAt 280000 = some .right := by decide +kernel

/-- R43, R54: a due PRESENCE with the queue empty, behind a CLAIM, and promoted before it and not before a ZONE frame. -/
theorem witness_AttemptsBeginAndFail_candidate :
    let s := { working1 with lc.due := true }
    let t := { queued1 with lc.due := true }
    let u := { t with lc.promoted := true }
    let v := { State.offer .zc (.zone .left .release) u with lc.due := true }
    s.ws.state.active = true ∧ s.lc.queue = [] ∧ s.candidate = some .presence ∧
    (t.lc.queue.map fun f => decide (t.candidate = some (.queued f))) = [true] ∧ u.lc.queue ≠ [] ∧ u.candidate = some .presence ∧
    (v.lc.queue.map fun f => (f.body.accessClass, decide (v.candidate = some (.queued f)))) = [(0, true), (1, false)] ∧
    (State.setWork .idle t).candidate = some .presence ∧ (State.setWork .halted t).candidate = none := by decide +kernel

/-- R79, R80: a holder that falls silent at the minimum gap from the zone and nearer, and a neighbour lost inside a zone. R53: a
PRESENCE with a TRAVEL of the cycle, of a lone motion, and with none. -/
theorem witness_LinkAndPeerTimers_zones :
    let s := fun at_ => neighbour3 true false at_ (s := zoned1 .right .heldOther)
    let t := working1.setPeer 3 ⟨.silent, some { info 280000 400000 with position := 290000, target := 290000 }⟩
    working1.cfg.sideOf 3 = some .right ∧ ((s 328000).zone .right).bounds = some (280000, 300000) ∧
    ((s 328000).zone .right).state = .heldOther ∧ (s 328000).inFlight ((s 328000).zone .right).frameId = false ∧
    (s 328000).blocks .right = false ∧
    ((after (.peerSilent 3) (s 328000)).zone .right).state = .free ∧ ((after (.peerSilent 3) (s 327999)).zone .right).state = .blocked ∧
    (t.zone .right).state ≠ .heldOther ∧ (t.zone .right).state ≠ .requested ∧ t.blocks .right = true ∧
    ((t.peer 3).status = .silent) ∧ ((after (.peerLost 3) t).zone .right).state = .blocked ∧
    working1.eu.sources[5]? = some ({} : SourceRecord) ∧ working1.eu.sources[2]? = some ({} : SourceRecord) ∧
    (streaming1 (.travel 192442)).presenceNow.target = 192442 ∧ (lone1 .park true).presenceNow.target = 200000 ∧
    (lone1 .park true).cs.cycle = none ∧ working1.presenceNow.target = working1.own := by decide +kernel

/-- R81: a hold that lapses while the neighbour says it holds the zone. -/
theorem witness_ZoneAndDrawTimers_lapse :
    let s := neighbour3 true false 390000 (s := zoned1 .right .heldOwn)
    (s.zone .right).state = .heldOwn ∧ (s.zone .right).outstanding = .no ∧ (s.sideInfo .right).isSome = true ∧
    s.eu.sources[1]? = some ({} : SourceRecord) ∧ ((s.selfLapsed .right).zone .right).state = .heldOther := by decide +kernel

/-- R72, R77: a SEIZE read back in HELD-OTHER and in a state it leaves, and a RELEASE after a dual hold. -/
theorem witness_OwnersActOnReadBack_dual :
    let s := State.onZone .right (fun z => { z with dual := true }) (neighbour3 true false 390000 (s := zoned1 .right .heldOwn .sent))
    (s.zone .right).state = .heldOwn ∧ (s.zone .right).progress = .sent ∧ (s.zone .right).dual = true ∧
    (s.sideInfo .right).map (·.heldFor .right) = some true ∧
    ((State.ownerBack (attempt1 (.zone .right .release)).frame s).zone .right).state = .heldOther ∧
    ((State.ownerBack (attempt1 (.zone .right .seize)).frame (zoned1 .right .heldOther)).zone .right).state = .requested ∧
    ((zoned1 .right .yielding).zone .right).state = .yielding := by decide +kernel

/-- R158: a SQUEEZE that closes with its report, and one that fails, with the own intent SQUEEZING. -/
theorem witness_AcceptedReportsAct_squeeze :
    let s := { budgeting1 with du.own := intent1 .squeezing, du.supplyWaits := 1, lc.nextId := 1,
                               ep.stream := some (stream1 (.squeeze 7 300)),
                               cs.cycle := some { cycle1 with work := .hole ⟨0, .set⟩, stage := .squeezing, clamped := true,
                                                              grip := some (0, class1), task := .placed (.squeeze 7 300) } }
    let t := s.acceptReport (stream1 (.squeeze 7 300)) 0 (.squeeze 300 300)
    let u := s.portFails .timeout none
    (s.cs.cycle.map fun cy => (cy.winding, cy.stage, cy.grip.isSome)) = some (false, .squeezing, true) ∧
    s.throughEnding = false ∧ s.faultStopping = false ∧ s.du.own.state = .squeezing ∧
    (s.zone .left).frameId < s.lc.nextId ∧ (s.zone .right).frameId < s.lc.nextId ∧ (s.ws.selection.map (·.frameId)) = some 0 ∧
    (t.du.own.state, t.du.supplyWaits) = (.no, 0) ∧ (u.du.own.state, u.du.supplyWaits) = (.no, 1) ∧
    (u.cs.cycle.map (·.outcome)) = some (some (.rejected .squeeze none (some 0) none)) ∧
    working1.du.own.state ≠ .squeezing := by decide +kernel

/-- R75: a cycle opened with a request pending that has seen 15 cycles, and one that has seen 16. -/
theorem witness_ClaimReadBackJudged_cycles :
    let s := State.onZone .left (fun z => { z with pending := true, cycles := 15 })
      (State.onZone .right (fun z => { z with pending := true, cycles := 16 }) { working1 with ws.selection := some (selected1 .claimQueued) })
    let t := State.ownerBack (attempt1 (.claim ⟨0, .drill⟩)).frame s
    ((t.zone .left).cycles, (t.zone .right).cycles) = (16, 16) ∧ t.ws.claim = some ⟨0, .drill⟩ := by decide +kernel

/-- R76: a release that is DUE, from outside the zone, from inside with a retreat permitted and with none. -/
theorem witness_LoneMotions_carry :
    let far := fun s : State => s.setPeer 1 ⟨.heard, some { info 0 120000 with position := 10000, target := 10000 }⟩
    let s := zoned1 .left .heldOwn .due
    let t := far { s with ep.ownPos := some 110000 }
    let u := { s with ep.ownPos := some 110000 }
    (s.zone .left).bounds = some (100000, 120000) ∧ s.cs.cycle = none ∧ 120000 < s.own ∧ s.travelTarget = none ∧
    100000 ≤ t.own ∧ t.own ≤ 120000 ∧ t.cs.lone = none ∧ t.claimQueued = false ∧ t.zc.left.bounds = some (t.cfg.low, 120000) ∧
    t.zc.right.bounds = some (280000, t.cfg.high) ∧ t.cfg.low ≤ 120001 ∧ 120001 ≤ t.cfg.high ∧ t.zoneAt 120001 = none ∧
    t.permitted 120001 = true ∧ (t.carryRelease .left).cs.lone = some { owner := .retreat .left, target := 120001 } ∧
    u.permitted 120001 = false ∧ u.carryRelease .left = u ∧ (lone1 .park true).cs.lone ≠ none := by decide +kernel

/-- The nearest of the retreat positions of that station is the first beyond the zone. -/
theorem witness_LoneMotions_nearest (x : Nat) (h : 120000 < x) : max 120001 110000 - min 120001 110000 ≤ max x 110000 - min x 110000 := by
  omega

/-- Sixteen frames in the queue, the sending one first, and frames held behind them. -/
def full1 (held : List Body) : State :=
  { working1 with
    ht := [{ owed := true }, { owed := true }], lc.nextId := 60,
    lc.attempt := some (attempt1 (.claim ⟨0, .drill⟩)),
    lc.queue := (attempt1 (.claim ⟨0, .drill⟩)).frame
      :: (List.range 15).map (fun n => { id := 20 + n, owner := .cs, body := .release ⟨1, .drill⟩ }),
    lc.held := held.map fun b => { id := 50, owner := .ht, body := b } }

/-- R14, R49: held frames admitted in the order of their class, and HT's place made the CORRECTION of the lowest entry owed; owed
CORRECTIONs queued at once, and held. -/
theorem witness_ReadBacksAccounted_held :
    let f := (attempt1 (.claim ⟨0, .drill⟩)).frame
    let s := full1 [.release ⟨0, .drill⟩, .zone .left .release]
    let t := full1 [.owed]
    let u := { working1 with ht := [{ owed := true }, { owed := true }] }
    (s.lc.queue.filter (fun g => g.id != f.id)).length = 15 ∧ (s.readBackWhole f).lc.queue.length = 16 ∧
    ((s.readBackWhole f).lc.queue.head?.map (·.body), (s.readBackWhole f).lc.held.map (·.body))
      = (some (.zone .left .release), [.release ⟨0, .drill⟩]) ∧
    ((t.readBackWhole f).lc.queue.getLast?.map (·.body)) = some (.correction (HoleEntry.correction 0 {})) ∧
    (t.readBackWhole f).ht.map (·.owed) = [false, true] ∧
    u.lc.held = [] ∧ u.lc.queue.length + 2 ≤ 16 ∧ u.offerOwed.lc.queue.map (·.body)
      = [.correction (HoleEntry.correction 0 {}), .correction (HoleEntry.correction 1 {})] ∧
    16 ≤ (full1 []).lc.queue.length ∧ ((full1 []).offerOwed.lc.held.map (·.body)) = [.owed] ∧ t.offerOwed = t ∧
    working1.offerOwed = working1 := by decide +kernel

/-- R128: a void ending of a cycle whose entry the fresh table has PLANNED, with a CLAIM left to HT. -/
theorem witness_EarlyEndings_void :
    let s := { winding1 .moving [] true with ht := [{}, {}] }
    let t := s.onCycle fun cy => { cy with left := [⟨3, .claim ⟨0, .drill⟩, 5⟩] }
    s.ht[0]? = some ({} : HoleEntry) ∧ ({} : HoleEntry).claimedBy s.k = false ∧ s.stepCycle.cs.cycle = none ∧ s.stepCycle.ht = s.ht ∧
    (t.stepCycle.ht[0]?.map fun e => (e.state, e.claimant)) = some (.drillClaimed, some 3) := by decide +kernel

/-- R70, R98, R113: a DUE datum cycle that may be chosen, a zone wanted for it, and the states in which words are ignored. -/
theorem witness_SelectionRules_choice :
    let s := { working1 with pu.prober := some ⟨.due, none, none⟩ }
    let t := State.onZone .right (fun z => { z with bounds := some (280000, 400000) }) s
    s.datumTargets = some (372400, 8000) ∧ s.datumChoice [] = some ((372400, 8000), none) ∧
    t.datumChoice [] = some ((372400, 8000), some .right) ∧ t.datumChoice [.right] = none ∧ t.wants .right = true ∧
    s.wants .right = false ∧ (State.setWork .idle working1).ignoresWords = true ∧ (State.setWork .idle (winding1 .moving [])).ignoresWords = false := by
  decide +kernel

/-! ### What is placed, what waits, and what is given up -/

/-- R25, R53, R77, R81, R112, R176: the timers at the millisecond they fall due, and the one before; two of one millisecond in order. -/
theorem witness_EmptyQueueTicks_due :
    let s : State := { working1 with lc.timer := some 2999, ep.stream := some (stream1 .sense), ep.deadline := some 2999,
                                     zc.right := { state := .yielding, bounds := some (280000, 300000), yieldDeadline := some 2999 },
                                     pt.peers := working1.pt.peers.map fun e => { e with info := e.info.map fun i => { i with time := 2500 } } }
    ({ s with clock := 2998 } : State).dueTimers = [] ∧
    ({ s with clock := 2999 } : State).dueTimers = [.presenceIntervalExpiry, .yieldDeadline .right, .completionDeadline] ∧
    ({ working1 with lc.timer := none, clock := 1000 } : State).dueTimers = [.peerSilent 1, .peerSilent 3] ∧
    ({ zoned1 .left .heldOwn with lc.timer := none, clock := 700 } : State).dueTimers = [] ∧
    ({ zoned1 .left .heldOwn with lc.timer := none, clock := 701 } : State).dueTimers = [.selfLapse .left] ∧
    ({ claimed1 with lc.timer := none, cs.lastClamp := some 300, clock := 450 } : State).dueTimers = [.clampSettleExpiry] ∧
    ({ claimed1 with lc.timer := none, cs.lastClamp := some 300, clock := 451 } : State).dueTimers = [] ∧
    ({ State.reset with pu.datumA := ⟨.valid, some fixA⟩, clock := 1 } : State).dueTimers = [.datumExpiry .a] ∧
    ({ State.reset with pu.datumA := ⟨.valid, some fixA⟩, clock := 0 } : State).dueTimers = [] := by decide +kernel

/-- The left neighbour far from the zone it shares. -/
def far1 (s : State) : State := s.setPeer 1 ⟨.heard, some { info 0 120000 with position := 10000, target := 10000 }⟩

/-- A cycle that has a command to place. -/
def placing1 (c : Command) (asked : Bool := false) (stage : Stage := .moving) : State :=
  { claimed1 with cs.cycle := some { cycle1 with task := .toPlace c asked, stage := stage } }

/-- EFFECTOR READY inactive. -/
def unready1 (s : State) : State := { s with lines.readyLowUntil := s.clock + 1 }

/-- R119: a TRAVEL within and beyond the limits, permitted and not, asked before and not, its zone held, lost and none. -/
theorem witness_PlacedCommandsAreAllowed_travel :
    let s := placing1 (.travel 192442)
    let near := fun s : State => neighbour3 false false 220441 (s := s)
    let lost := State.onZone .left (fun z => { z with progress := .due }) intoZone1
    s.canPlace (.travel 192442) = true ∧ cycle1.winding = false ∧ s.cycleZone 192442 = none ∧ s.permitted 192442 = true ∧
    s.effectorReady = true ∧ (neighbour3 false false 228000 (s := s)).permitted 192442 = true ∧ (near s).permitted 192442 = false ∧
    (near s).stepCycle.cs.cycle = some { cycle1 with task := .toPlace (.travel 192442) true } ∧
    (near (placing1 (.travel 192442) true)).stepCycle = near (placing1 (.travel 192442) true) ∧
    (placing1 (.travel 99999)).stepCycle = placing1 (.travel 99999) ∧ (placing1 (.travel 300001)).stepCycle = placing1 (.travel 300001) ∧
    intoZone1.cycleZone 110000 = some .left ∧ intoZone1.stepCycle.ep.commandFlag = true ∧
    lost.cycleZone 110000 = some .left ∧ (lost.zone .left).progress ≠ .no ∧
    (lost.stepCycle.cs.cycle.bind (·.ending)).map (·.cause) = some .zoneLost ∧
    (lost.onCycle fun cy => { cy with task := .toPlace (.travel 110000) true }).permitted 110000 = true ∧
    ((placing1 (.travel 192442) false .claiming).stepCycle.cs.cycle.map (·.stage)) = some .moving := by decide +kernel

/-- R117, R123, R124: a DRILL and a SQUEEZE at the last millisecond of their intervals and at their ends; the set order lost. -/
theorem witness_PlacedCommandsAreAllowed_waits :
    let d := fun n => { placing1 (.drill 0) false .clamping with cs.lastClamp := some 300, clock := n }
    let q := fun c r n => { budgeting1 with cs.lastClamp := c, cs.lastSqueeze := r, clock := n }
    let o := { budgeting1 with ht := [{ state := .setClaimed, claimant := some 2, stack := some ⟨300, .drill⟩ }, {}] }
    (d 449).canPlace (.drill 0) = true ∧ (d 449).stepCycle = d 449 ∧ ((d 450).stepCycle.cs.cycle.map (·.stage)) = some .cutting ∧
    lookupKey 0 (d 450).ps.holes = some (hole1 0) ∧ (d 450).stepCycle.sa.limit = 225 ∧
    (q none none 0).canPlace (.squeeze 7 300) = true ∧ (q none none 0).du.own.pollAsked = false ∧
    (q (some 300) none 449).stepCycle = q (some 300) none 449 ∧ (q none (some 300) 699).stepCycle = q none (some 300) 699 ∧
    ((q (some 550) (some 300) 700).stepCycle.cs.cycle.map (·.stage)) = some .squeezing ∧ budgeting1.setOrder 0 = true ∧
    o.setOrder 0 = false ∧ (o.stepCycle.cs.cycle.bind (·.ending)).map (·.cause) = some .orderLost ∧ o.stepCycle.du.own.state = .no ∧
    ({ budgeting1 with du.own := intent1 .waiting } : State).stepCycle = { budgeting1 with du.own := intent1 .waiting } ∧
    (placing1 (.slide 36000)).canPlace (.slide 36000) = true ∧ ((placing1 (.slide 36000)).stepCycle.ep.transfer.map (·.command))
      = some (.slide 36000) ∧ (placing1 (.slide 36001)).stepCycle = placing1 (.slide 36001) ∧
    ((placing1 .sense).stepCycle.cs.cycle.map (·.senses)) = some 1 ∧
    (let p := { budgeting1 with du.own := { intent1 .supplyCheck with pollAsked := true } }
     p.canPlace .readPressure = true ∧ (p.stepCycle.ep.transfer.map (·.command)) = some .readPressure ∧
     p.stepCycle.du.own.pollAsked = false) := by decide +kernel

/-- R110: commands of a cycle, a park, a retreat and an interjection that EFFECTOR READY fails. -/
theorem witness_PortHandshake_notReady :
    let park := unready1 { working1.setWork .finished with ws.park := .waitingForClearance, ep.ownPos := some 150000 }
    let back := unready1 { zoned1 .left .heldOwn .retreating with cs.lone := some { owner := .retreat .left, target := 200000 } }
    let cut := unready1 { streaming1 (.drill 225) with cs.interject := some .feedStop }
    (unready1 claimed1).effectorReady = false ∧ claimed1.throughEnding = false ∧ claimed1.faultStopping = false ∧
    ([placing1 .clamp, placing1 (.slide 36000), placing1 (.travel 192442) false .claiming, placing1 (.drill 0) false .clamping, budgeting1].map
      fun s => ((unready1 s).stepCycle.ws.state, (unready1 s).stepCycle.ep.commandFlag,
                ((unready1 s).stepCycle.cs.cycle.bind (·.ending)).map (·.stage)))
      = [(.faulted, false, some .moving), (.faulted, false, some .moving), (.faulted, false, some .moving),
         (.faulted, false, some .cutting), (.faulted, false, some .budgeting)] ∧
    park.canPlace (.travel park.cfg.park) = true ∧ park.permitted park.cfg.park = true ∧ park.stepPark.ws.state = .faulted ∧
    park.zoneStands (park.zoneAt park.cfg.park) = true ∧ park.claimQueued = false ∧ park.stepPark.ws.park = .no ∧
    back.canPlace (.travel 200000) = true ∧ back.permitted 200000 = true ∧ back.zoneStands (back.zoneAt 200000) = true ∧
    back.stepLone.ws.state = .faulted ∧ back.stepLone.cs.lone = none ∧
    cut.canPlace .feedStop = true ∧ cut.drillStream = true ∧ cut.ep.stopped = .no ∧ cut.placeInterject.ws.state = .faulted := by
  decide +kernel

/-- R66, R67, R114: a POSITION at the hard gap and inside it, out of order, at the limits' tolerance and beyond, and one from which the
remaining path of a TRAVEL comes too near, for a cycle and for a lone motion. -/
theorem witness_AcceptedReportsAct_position :
    let at_ := fun (s : State) p => s.acceptReport (stream1 (.travel 192442)) 0 (.position p)
    let s := streaming1 (.travel 192442)
    let l := { lone1 .park true with ep.stream := some { command := .travel 200000, user := .lone } }
    let out := fun s : State => { far1 s with pt.peers := (far1 s).pt.peers.set 2 ⟨.heard, some { info 280000 400000 with position := 390000, target := 390000 }⟩ }
    (at_ s 133990).ws.state = .working ∧ (at_ s 133989).ws.state = .halted ∧ (at_ s 119990).ws.state = .halted ∧
    (at_ s 400000).ws.state = .halted ∧ (at_ (out s) 300010).ws.state = .working ∧ (at_ (out s) 300011).ws.state = .halted ∧
    (at_ (out s) 99990).ws.state = .working ∧ (at_ (out s) 99989).ws.state = .halted ∧
    (at_ (State.setWork .idle (out s)) 99989).ws.state = .halted ∧ (at_ (State.setWork .idle s) 133989).ws.state = .idle ∧
    (at_ s 147990).cs = s.cs ∧ (at_ s 147989).cs.interject = some .stopMotion ∧
    ((at_ s 147989).cs.cycle.map (·.stopAsked)) = some true ∧
    (at_ l 147989).cs.interject = some .stopMotion ∧ ((at_ l 147989).cs.lone.map (·.stopAsked)) = some true ∧
    (at_ (State.onCycle (fun cy => { cy with stopAsked := true }) s) 147989).cs.interject = none := by decide +kernel

/-- R66: a PRESENCE that shortens the path of a lone motion's TRAVEL, once asked and before. -/
theorem witness_PresenceActs_lone :
    let p := { presence3 with position := 227999, target := 300000, low := 220000 }
    let s := lone1 (.retreat .left) true
    let t := { s with cs.lone := s.cs.lone.map fun (l : Lone) => { l with stopAsked := true } }
    presenceFits p = true ∧ s.ws.state.online = true ∧ s.cfg.sideOf 3 = some .right ∧
    (s.cs.lone.map fun l => (l.placed, l.ending, l.stopAsked)) = some (true, none, false) ∧
    intervalGap (min s.own 200000, max s.own 200000) (227999, 300000) < s.cfg.gap ∧
    (s.hearFrame (frameBytes 3 (.presence p))).ws.state ≠ .halted ∧
    (s.hearFrame (frameBytes 3 (.presence p))).cs.interject = some .stopMotion ∧
    (t.hearFrame (frameBytes 3 (.presence p))).cs = t.cs ∧
    (working1.hearFrame (frameBytes 3 (.presence p))).cs = working1.cs := by decide +kernel

/-- The tables are whole in the states that meet the other hypotheses of the clearance clauses. -/
theorem witness_PresenceActs_tables : [working1, streaming1 (.travel 192442), lone1 (.retreat .left) true].all (fun s =>
    decide (s.pt.peers.length = 8) && decide (s.du.table.length = 8) &&
    decide ((s.zone .left).bounds = some (100000, 120000)) && decide ((s.zone .right).bounds = some (280000, 300000))) = true := by
  decide +kernel

theorem witness_tablesWhole : working1.tablesWhole := by
  refine ⟨by decide, by decide, fun side b h => ?_⟩
  cases side <;> exact (Option.some.inj h) ▸ (by decide)

/-- R154: room to the last unit and none; a WITHDRAW queued, one begun with a frame of class 0 behind it, and one no longer with LC. -/
theorem witness_ZoneAndDrawFramesHeard_removal :
    let s := fun n : Nat => State.setDraw 3 (some ⟨n, 1, 9, 0⟩) (State.withdraw { working1 with du.own := intent1 .settling })
    let z := State.offerZone .left .release (s 65)
    let begun := { z with lc.attempt := z.lc.queue.head?.map fun g => { frame := g, bytes := [] } }
    let sent := { s 65 with lc.queue := [] }
    let out := fun s : State => s.removal.lc.queue.map (·.body)
    (s 65).du.own.state = .waiting ∧ out (s 65) = [.draw .intent 35 0] ∧ (s 65).removal.du.own.state = .queued ∧
    (s 66).removal = s 66 ∧ working1.du.own.state ≠ .waiting ∧ out z = [.draw .intent 35 0, .zone .left .release] ∧
    begun.lc.attempt ≠ none ∧ out begun = [.draw .withdraw 0 0, .zone .left .release, .draw .intent 35 0] ∧
    out sent = [.draw .intent 35 0] := by decide +kernel

/-- R74: a HELD-OTHER zone wanted and not, a REQUESTED one no longer wanted, and a REQUEST queued and in flight as the zone is freed. -/
theorem witness_ZoneAndDrawFramesHeard_request :
    let s := State.onZone .left (fun z => { z with bounds := some (100000, 195000) }) (far1 (zoned1 .left .heldOther))
    let t := State.onZone .left (fun z => { z with state := .requested }) s
    let n := State.setPeer 1 ⟨.heard, some { info 0 120000 with heldRight := true }⟩ (zoned1 .left .heldOther)
    let m := s.makeRequest .left
    let f := { m with lc.attempt := m.lc.queue.head?.map fun g => { frame := g, bytes := [] } }
    (s.zone .left).outstanding = .no ∧ s.wants .left = true ∧ m.lc.queue.map (·.body) = [.zone .left .request] ∧
    n.wants .left = false ∧ n.makeRequest .left = n ∧
    t.wants .left = true ∧ t.stepZone .left = t ∧
    ((State.stepZone .left (far1 (zoned1 .left .requested))).zone .left).state = .heldOther ∧
    (m.zone .left).outstanding = .request ∧ (m.zone .left).frameId < m.lc.nextId ∧ m.inFlight (m.zone .left).frameId = false ∧ f.inFlight (f.zone .left).frameId = true ∧
    ((m.zoneChange .left .free).zone .left).outstanding = .no ∧ (m.zoneChange .left .free).lc.queue = [] ∧
    s.settle.ws.state.online = true ∧ (s.settle.zone .left).outstanding = .request ∧
    (n.settle.zone .left).state = .heldOther ∧
    (n.settle.zone .left).outstanding = .no := by decide +kernel

/-- The left zone held, a SEIZE for the right one queued, and an own intent in a state, its entry in the table. -/
def holding1 (st : IntentState) : State :=
  State.sendOutstanding .right .seize .seize
    { far1 (zoned1 .left .heldOwn) with
      du.own := { intent1 st with announced := true },
      du.table := [none, some { amount := 35, hole := 0, stamp := 1, time := 0 }, none, none, none, none, none, none] }

theorem witness_namesGiven (st : IntentState) : (holding1 st).namesGiven ∧ (working1.sendOutstanding .left .seize .seize).namesGiven := by
  refine ⟨⟨by cases st <;> decide, ?_, fun x h => (by cases h), fun id h => (by cases h)⟩,
    ⟨by decide, ?_, fun x h => (by cases h), fun id h => (by cases h)⟩⟩
  · rintro (_ | _) h
    · exact absurd rfl h
    · exact ⟨by cases st <;> decide, by cases st <;> decide⟩
  · rintro (_ | _) h
    · exact ⟨by decide, by decide⟩
    · exact absurd rfl h

/-- R85, R159, R160: what JIG OPEN, entry into FAULTED and station clear offer and remove, by the intent's state. -/
theorem witness_given_up :
    let bodies := fun s : State => s.lc.queue.map (·.body)
    bodies (holding1 .no) = [.zone .right .seize] ∧
    ([IntentState.no, .waiting, .squeezing, .settling, .supplyCheck, .allowed].map fun st => bodies (holding1 st).jigOpens)
      = [[.zone .left .release], [.zone .left .release], [.zone .left .release],
         [.zone .left .release, .draw .withdraw 0 0], [.zone .left .release, .draw .withdraw 0 0],
         [.zone .left .release, .draw .withdraw 0 0]] ∧
    bodies ((holding1 .settling).enterFaulted .linkFault) = [.zone .left .release, .draw .withdraw 0 0] ∧
    bodies ((State.beginDraw 0 35 (holding1 .no)).jigOpens) = [.zone .left .release] ∧
    ((holding1 .no).jigOpens.zone .left) = { state := .free, bounds := some (100000, 120000) } ∧
    (State.zone (neighbour3 true false 290000 (s := holding1 .no)).frameCycleStart .right).state = .heldOther ∧
    (State.zone (neighbour3 false false 290000 (s := holding1 .no)).frameCycleStart .right).state = .blocked ∧
    bodies (holding1 .no).frameCycleStart = [.zone .right .seize] ∧
    bodies (holding1 .settling).stationClear = [.zone .left .release, .draw .withdraw 0 0] ∧
    (holding1 .settling).stationClear.du.own.announced = true ∧
    (holding1 .settling).lines.jigClosed = true ∧ (holding1 .settling).ws.jigOpened = false ∧
    ({ holding1 .settling with du.own := intent1 .settling } : State).stationClear.lc.queue.map (·.body) = [.zone .left .release] := by
  decide +kernel

/-! ### Commands, one step each -/

/-- Ch. 12: REQUEST is coded 3 and REJECTED 3, in answers too, and a REPORT DRILLED that carries a cause is ignored whole. -/
theorem test_answer_codes : Outstanding.request.place = 3 ∧ Outstanding.seize.place = 1 ∧
    analysisPlace (some (.rejected .noEntry none none none)) = 3 ∧
    ((List.range 16).map fun c => (decodeReport [0, 5, BitVec.ofNat 8 (64 + c), 1, 44, 0, 0, 0, 0]).isSome)
      = true :: List.replicate 15 false := by decide

/-- R39, R76, R100: the concern empties while a CLAIM for a hole in a held zone is queued, and zone and CLAIM stand; not so when the bounds
leave its target outside, or no CLAIM is queued. -/
theorem test_queued_claim_stands :
    let s := { zoned1 .left .heldOwn with
               pu.concern := some [], ws.selection := some { selected1 .claimQueued with zone := some .left, rail := 110000 } }
    let t := State.considerRelease .left { s with zc.left.bounds := some (100000, 109999) }
    (s.considerRelease .left).stepSelection = s ∧ (t.zone .left).progress = .due ∧ t.stepSelection.ws.selection = none ∧
    ((({ s with ws.selection := none } : State).considerRelease .left).zone .left).progress = .due := by decide +kernel

/-- R57, R60: the PRESENCE that ends a difference of plans reverts no claim, the next one does; the one that begins it still does; the first
from a station goes by its own plan check. -/
theorem test_plan_filter :
    let s := { working1 with ht := List.replicate 2 { state := .drillClaimed, claimant := some 3 } }
    let other := s.setPeer 3 ⟨.heard, some { info 280000 400000 with check := 5 }⟩
    let unheard := s.setPeer 3 {}
    let ends := State.hearPresence 3 presence3 other
    let states := fun s : State => s.ht.map (·.state)
    states ends = [.drillClaimed, .drillClaimed] ∧ states (ends.hearPresence 3 presence3) = [.planned, .drillClaimed] ∧
    states (s.hearPresence 3 { presence3 with check := 5 }) = [.planned, .drillClaimed] ∧
    states (unheard.hearPresence 3 presence3) = [.planned, .drillClaimed] ∧
    states (unheard.hearPresence 3 { presence3 with check := 5 }) = [.drillClaimed, .drillClaimed] := by decide +kernel

/-- A hole is chosen: hole 1 is visited first, but drilling is not ordered, and hole 0 is as near. -/
theorem test_claim_offered : (after .clampSettleExpiry working1).lc.queue.map (·.body) = [.claim ⟨0, .drill⟩] := by decide +kernel

theorem test_claim_confirmed :
    let s := after (.transmitStart 68) (after .clampSettleExpiry working1)
    let t := after .claimReadBack s
    s.lc.attempt.isSome = true ∧ t.ws.claim = some ⟨0, .drill⟩ ∧ t.ep.commandFlag = true ∧ t.ep.commandLines = 0x1002#16 ∧
    (t.cs.cycle.map (·.stage)) = some .moving := by decide +kernel

theorem test_travel_done :
    let s := after (.doneReport 0 true) (streaming1 (.travel 192442))
    s.own = 192442 ∧ s.ep.taken = true ∧ s.ep.commandLines = 0x2000#16 := by decide +kernel

/-- R183: READ SETUP with no setup is answered WRONG-STATE, with no data. -/
theorem test_refusal_bytes : (after (.readSetup (requestBytes 2 [])) State.reset).sp.answer.take 5 = [0xA5, 0, 2, 2, 3] := by
  decide +kernel

theorem test_claim_heard :
    ((after (.claimReceived (frameBytes 3 (.claim ⟨1, .drill⟩))) working1).ht[1]?.map fun e => (e.state, e.claimant))
      = some (.drillClaimed, some 3) := by decide +kernel

theorem test_jig_open : (after .jigOpen claimed1).ws.state = .idle ∧ (after .jigOpen claimed1).ws.claim = none := by decide +kernel

/-- R136, R139, R140: the first HIGH at the limit-th sample is an entry without an exit. -/
theorem test_entry_at_limit :
    let a := StackAnalyser.sample 500 { status := .seekingEntry, step := 10, te := 400, tx := 200, runK := 3, limit := 1 }
    a.status = .limitReached ∧ a.entryDepth = some 10 ∧ a.close.outcome = some (.rejected .noExit none none none) := by decide

end Sys2Proof.Tests
end

section
/-! PROOFS. The plan store's order through every step, and the frame of a settling pass. -/

namespace Sys2Proof.Machine

open Sys2Proof (Byte Word Data Stamp Datum Side Instr)

/-! ### Tables with rising keys -/

/-- The keys of a table after an entry is stored are the key stored and the keys before. -/
theorem mem_insertKey_keys {α : Type} (k n : Nat) (a : α) (l : List (Nat × α)) :
    k ∈ (insertKey n a l).map (·.1) ↔ k = n ∨ k ∈ l.map (·.1) := by
  induction l with
  | nil => simp [insertKey]
  | cons p l ih =>
    obtain ⟨m, b⟩ := p
    unfold insertKey
    split_ifs with hlt heq
    · simp
    · simp [heq]
    · simp only [List.map_cons, List.mem_cons, ih]
      tauto

/-- Storing an entry keeps the keys strictly rising. -/
theorem insertKey_rising {α : Type} (n : Nat) (a : α) (l : List (Nat × α)) (h : (l.map (·.1)).Pairwise (· < ·)) :
    ((insertKey n a l).map (·.1)).Pairwise (· < ·) := by
  induction l with
  | nil => simp [insertKey]
  | cons p l ih =>
    obtain ⟨m, b⟩ := p
    rw [List.map_cons, List.pairwise_cons] at h
    obtain ⟨hm, hl⟩ := h
    unfold insertKey
    split_ifs with hlt heq
    · rw [List.map_cons, List.pairwise_cons]
      refine ⟨fun k hk => ?_, List.pairwise_cons.mpr ⟨hm, hl⟩⟩
      rcases List.mem_cons.mp hk with rfl | hk
      · exact hlt
      · exact hlt.trans (hm k hk)
    · subst heq
      exact List.pairwise_cons.mpr ⟨hm, hl⟩
    · rw [List.map_cons, List.pairwise_cons]
      refine ⟨fun k hk => ?_, ih hl⟩
      rcases (mem_insertKey_keys k n a l).mp hk with rfl | hk
      · exact Nat.lt_of_le_of_ne (Nat.le_of_not_lt hlt) (Ne.symm heq)
      · exact hm k hk

/-- Storing an entry below a bound keeps every key below it. -/
theorem insertKey_below {α : Type} {n b : Nat} (hn : n < b) (a : α) (l : List (Nat × α)) (h : ∀ e ∈ l, e.1 < b) :
    ∀ e ∈ insertKey n a l, e.1 < b := by
  intro e he
  rcases (mem_insertKey_keys e.1 n a l).mp (List.mem_map_of_mem he) with hk | hk
  · omega
  · obtain ⟨x, hx, hxe⟩ := List.mem_map.mp hk
    exact hxe ▸ h x hx

/-! ### What keeps the plan store -/

theorem State.ps_of_base {s t : State} (h : t.base = s.base) : t.ps = s.ps := congrArg Base.ps h

theorem State.setup_of_base {s t : State} (h : t.base = s.base) : t.setup = s.setup := congrArg Base.setup h

@[simp] theorem State.settle_base (s : State) : s.settle.base = s.base := repeatState_base _ State.settleOnce_base _ s

@[simp] theorem State.tick_ps (s : State) : s.tick.ps = s.ps := by simp only [State.tick]

@[simp] theorem State.settle_ps (s : State) : s.settle.ps = s.ps := State.ps_of_base s.settle_base

@[simp] theorem State.settle_setup (s : State) : s.settle.setup = s.setup := State.setup_of_base s.settle_base

/-- No command but power-on and what comes on the service line touches the setup or the plan store. -/
theorem exec_keeps_setup_ps (c : Instr) (s : State) (hp : c ≠ .powerOn) (hl : onServiceLine c = false) :
    ∃ t : State, exec c s = .next t ∧ t.setup = s.setup ∧ t.ps = s.ps := by
  have settled : ∀ {u : State}, u.base = s.base →
      ∃ t : State, Host.Outcome.next u.settle = (.next t : Host.Outcome State Fault Refusal) ∧ t.setup = s.setup ∧ t.ps = s.ps :=
    fun {u} h => ⟨u.settle, rfl, State.setup_of_base (u.settle_base.trans h), State.ps_of_base (u.settle_base.trans h)⟩
  cases c with
  | powerOn => exact absurd rfl hp
  | serviceByte | writeSetup | readSetup | loadPlanHeader | loadPlanGroup | loadPlanHole | commitPlan | readStatus | readHole
  | readPeer | readEvents | errorClear | stationClear | reworkHole => cases hl
  | serviceByteGap =>
    refine ⟨_, rfl, ?_⟩
    unfold State.expire
    split <;> exact ⟨rfl, rfl⟩
  | serviceLineQuiet =>
    refine ⟨_, rfl, ?_⟩
    unfold State.expire
    split <;> exact ⟨rfl, rfl⟩
  | answerSent =>
    refine ⟨_, rfl, ?_⟩
    unfold State.answerEnds
    split <;> exact ⟨rfl, rfl⟩
  | reportFlagFall => exact ⟨_, rfl, rfl, rfl⟩
  | ack w =>
    have h : (State.acknowledge { s with lines.ackHighUntil := s.clock + w }).base = s.base := State.acknowledge_base _
    exact ⟨_, rfl, State.setup_of_base h, State.ps_of_base h⟩
  | transmitStart quiet =>
    exact ⟨_, rfl, State.setup_of_base (State.transmit_base quiet s), State.ps_of_base (State.transmit_base quiet s)⟩
  | stationReset w => exact settled (State.stationClear_base _)
  | jigClosed => exact settled s.jigCloses_base
  | jigOpen => exact settled s.jigOpens_base
  | effectorReadyFall w => exact settled (State.readyFalls_base w s)
  | frameDiscarded f | presenceReceived f | datumReceived f | claimReceived f | releaseReceived f | reportDrilledReceived f
  | reportSetReceived f | reportRejectedReceived f | correctionReceived f | reworkCorrectionReceived f | zoneSeizeReceived f
  | zoneReleaseReceived f | zoneRequestReceived f | drawIntentReceived f | drawDoneReceived f | drawWithdrawReceived f =>
    exact settled (State.hearFrame_base f s)
  | attemptFailed => exact settled s.failAttempt_base
  | presenceReadBack | datumReadBack | claimReadBack | releaseReadBack | reportReadBack | correctionReadBack | zoneSeizeReadBack
  | zoneRequestReadBack | zoneReleaseReadBack | drawIntentReadBack | drawWithdrawReadBack | drawDoneReadBack =>
    exact settled (State.readBack_base _ s)
  | presenceIntervalExpiry => exact settled (State.expire_base _ State.presenceExpires_base s)
  | datumExpiry d => exact settled (State.expire_base _ (State.expireDatum_base d) s)
  | proberAgeDue => exact settled (State.expire_base _ State.proberDue_base s)
  | retryDeadline => exact settled (State.expire_base _ State.retry_base s)
  | peerSilent j => exact settled (State.expire_base _ (State.silence_base j) s)
  | peerLost j => exact settled (State.expire_base _ (State.loseAfterSilence_base j) s)
  | selfLapse side => exact settled (State.expire_base _ (State.selfLapsed_base side) s)
  | yieldDeadline side => exact settled (State.expire_base _ (State.yieldOver_base side) s)
  | drawEntryExpiry j => exact settled (State.expire_base _ (State.emptyDraw_base j) s)
  | settleDeadline => exact settled (State.expire_base _ State.decideDraw_base s)
  | waitDeadline => exact settled (State.expire_base _ State.freshIntent_base s)
  | nextPoll => exact settled (State.expire_base _ State.askPressure_base s)
  | pressureWaitLimit => exact settled (State.expire_base _ State.limitPasses_base s)
  | ownIntentRenewal => exact settled (State.expire_base _ State.renewIntent_base s)
  | clampSettleExpiry | ramRecoveryExpiry => exact settled (State.expire_base _ (fun _ => rfl) s)
  | resumeRise => exact settled s.resumeRises_base
  | resumeFall => exact settled s.resumeFalls_base
  | responseTimeout => exact settled s.responseLate_base
  | completionDeadline => exact settled s.completionLate_base
  | reportWord | doneReport | positionReport | thrustReport | senseReport | gaugeReport | squeezeReport | pressureReport
  | faultReport | refusedReport => exact settled (State.takeWord_base _ _ _ s)

/-! ### What the service port does to the plan store -/

/-- What one request can do to the plan store: nothing, a header that discards everything, a group or hole below the header's
counts, or the plan made VALID. -/
inductive PlanStore.Served (p : PlanStore) : PlanStore → Prop where
  | same : Served p p
  | header (h : PlanHeader) : Served p (.withHeader h)
  | group (n : Nat) (g : GroupEntry) (hn : n < p.groupCount) : Served p (p.withGroup n g)
  | hole (n : Nat) (h : PlanHole) (hn : n < p.holeCount) : Served p (p.withHole n h)
  | commit : Served p { p with status := .valid }

/-- Taking up a setup leaves the plan store alone. -/
theorem State.applySetup_ps (c : Setup) (s : State) : (s.applySetup c).ps = s.ps := by
  have expire : ∀ (d : Datum) (t : State), (t.expireIfOld d).base = t.base := by
    intro d t
    unfold State.expireIfOld
    repeat' split
    all_goals simp
  have position : ∀ (old : Option DatumRole) (t : State), (t.setupAtPosition old).ps = t.ps := by
    intro old t
    apply State.ps_of_base
    unfold State.setupAtPosition
    dsimp only
    split <;> simp [expire]
  unfold State.applySetup
  dsimp only
  rw [State.ps_of_base (State.configured_base _), position, State.ps_of_base (State.forgetPeers_base _),
    State.ps_of_base (State.noZones_base _), State.ps_of_base (State.relevel_base _)]

theorem State.serve_plan (r : Request) (s : State) : s.ps.Served (s.serve r).state.ps := by
  cases r with
  | writeSetup c n =>
    show s.ps.Served (s.serveWriteSetup c n).state.ps
    unfold State.serveWriteSetup
    split
    · exact .same
    · split
      · exact .same
      · rw [State.accept, State.settle_ps, State.applySetup_ps]
        exact .same
  | loadPlanHeader h =>
    show s.ps.Served (s.serveHeader h).state.ps
    unfold State.serveHeader
    split
    · exact .same
    · split
      · exact .same
      · dsimp only
        rw [State.accept, State.settle_ps]
        split
        · rw [State.ps_of_base (State.enterUnconfigured_base _)]
          exact .header h
        · exact .header h
  | loadPlanGroup n g =>
    show s.ps.Served (s.serveGroup n g).state.ps
    unfold State.serveGroup
    split
    · exact .same
    · split
      · exact .same
      · rw [State.accept, State.settle_ps]
        exact .group n g (by omega)
  | loadPlanHole n h =>
    show s.ps.Served (s.serveHole n h).state.ps
    unfold State.serveHole
    split
    · exact .same
    · split
      · exact .same
      · rename_i hn
        rw [State.accept, State.settle_ps]
        exact .hole n h (by simp only [Bool.or_eq_true, decide_eq_true_eq] at hn; omega)
  | commitPlan =>
    show s.ps.Served s.serveCommit.state.ps
    unfold State.serveCommit
    split
    · exact .same
    · split
      · exact .same
      · rw [State.accept, State.settle_ps, State.ps_of_base (State.configured_base _)]
        exact .commit
  | readSetup =>
    show s.ps.Served s.serveReadSetup.state.ps
    unfold State.serveReadSetup
    split <;> exact .same
  | readStatus => exact .same
  | readHole n =>
    show s.ps.Served (s.serveReadHole n).state.ps
    unfold State.serveReadHole
    repeat' split
    all_goals exact .same
  | readPeer n =>
    show s.ps.Served (s.serveReadPeer n).state.ps
    unfold State.serveReadPeer
    repeat' split
    all_goals exact .same
  | readEvents => exact .same
  | errorClear =>
    show s.ps.Served s.serveErrorClear.state.ps
    unfold State.serveErrorClear
    split_ifs
    · exact .same
    · exact .same
    · exact .same
    · rw [State.accept, State.settle_ps, State.clearFault, State.ps_of_base (State.land_base _)]
      exact .same
  | stationClear =>
    show s.ps.Served s.serveStationClear.state.ps
    rw [State.serveStationClear, State.accept, State.settle_ps, State.ps_of_base (State.stationClear_base s)]
    exact .same
  | reworkHole n t =>
    show s.ps.Served (s.serveRework n t).state.ps
    unfold State.serveRework
    split
    · exact .same
    · split
      · exact .same
      · split_ifs
        · exact .same
        · exact .same
        · rw [State.accept, State.settle_ps, State.rework, State.ps_of_base (State.offer_base _ _ _),
            State.ps_of_base (State.putEntry_base _ _ _)]
          exact .same
        · exact .same

/-- One byte on the service line serves one request at most. -/
theorem State.hearByte_plan (b : Byte) (s : State) : s.ps.Served (s.hearByte b).ps := by
  have take : ∀ (bytes : List Byte) (t : State), t.ps = s.ps → s.ps.Served (t.takeRequest bytes).ps := by
    intro bytes t ht
    show s.ps.Served (State.judgeRequest bytes { t with sp.buffer := bytes, sp.rx := .answering }).state.ps
    unfold State.judgeRequest
    split
    · show s.ps.Served t.ps
      exact ht ▸ .same
    · rw [← ht]
      exact State.serve_plan _ { t with sp.buffer := bytes, sp.rx := .answering }
  have store : ∀ t : State, t.ps = s.ps → s.ps.Served (t.storeByte b).ps := by
    intro t ht
    have kept : s.ps.Served t.ps := ht ▸ .same
    unfold State.storeByte
    dsimp only
    split_ifs
    · exact kept
    · exact kept
    · exact take _ t ht
    · exact kept
  unfold State.hearByte
  dsimp only
  split
  · split <;> exact .same
  · split
    · exact .same
    · exact store _ rfl
  · exact .same

/-! ### The order of the plan store -/

theorem State.planOrdered_congr {s t : State} (h : t.ps = s.ps) (hs : s.planOrdered) : t.planOrdered := by
  unfold State.planOrdered
  rw [h]
  exact hs

/-- What a request can do to the plan store keeps its order. -/
theorem State.planOrdered_served {s t : State} (h : s.ps.Served t.ps) (hs : s.planOrdered) : t.planOrdered := by
  obtain ⟨hgroups, hholes, hgc, hhc⟩ := hs
  unfold State.planOrdered
  generalize t.ps = p at h
  cases h with
  | same => exact ⟨hgroups, hholes, hgc, hhc⟩
  | header h => simp [PlanStore.withHeader]
  | group n g hn => exact ⟨insertKey_rising n g _ hgroups, hholes, insertKey_below hn g _ hgc, hhc⟩
  | hole n h hn => exact ⟨hgroups, insertKey_rising n h _ hholes, hgc, insertKey_below hn h _ hhc⟩
  | commit => exact ⟨hgroups, hholes, hgc, hhc⟩

theorem State.hearBytes_planOrdered (bytes : List Byte) (s : State) (hs : s.planOrdered) : (s.hearBytes bytes).planOrdered := by
  unfold State.hearBytes
  induction bytes generalizing s with
  | nil => exact hs
  | cons b bytes ih => exact ih _ (State.planOrdered_served (State.hearByte_plan b s) hs)

/-- Every command keeps the order of the plan store. -/
theorem exec_planOrdered {c : Instr} {s t : State} (hs : s.planOrdered) (h : exec c s = .next t) : t.planOrdered := by
  by_cases hl : onServiceLine c = true
  · have bytes : ∀ l, Host.Outcome.next (s.hearBytes l) = (.next t : Host.Outcome State Fault Refusal) → t.planOrdered := by
      intro l hl
      injection hl with hl
      exact hl ▸ State.hearBytes_planOrdered l s hs
    cases c with
    | serviceByte b => exact bytes [b] h
    | writeSetup l | readSetup l | loadPlanHeader l | loadPlanGroup l | loadPlanHole l | commitPlan l | readStatus l | readHole l
    | readPeer l | readEvents l | errorClear l | stationClear l | reworkHole l => exact bytes l h
    | _ => cases hl
  · by_cases hp : c = .powerOn
    · subst hp
      injection h with h
      subst h
      simp [State.planOrdered, State.reset]
    · obtain ⟨u, hu, -, hps⟩ := exec_keeps_setup_ps c s hp (Bool.eq_false_of_not_eq_true hl)
      rw [hu] at h
      injection h with h
      exact h ▸ State.planOrdered_congr hps hs

/-- Settles O13: the plan store changes only by what a request can do to it. -/
theorem stepKeepsPlanOrder : Obligations.StepKeepsPlanOrder := by
  intro s t hs h
  unfold step at h
  split at h
  case h_1 =>
    injection h with h
    exact h ▸ State.planOrdered_congr s.tick_ps hs
  case h_2 c rest _ =>
    have hrest : State.planOrdered { s with pending := rest } := State.planOrdered_congr (s := s) rfl hs
    exact exec_planOrdered hrest h

/-! ### What follows a command at once -/

@[simp] theorem State.settleOnce_kept (s : State) : s.settleOnce.kept = s.kept := by
  unfold State.settleOnce
  dsimp only
  split
  · split <;> simp
  · rfl

theorem State.settle_kept (s : State) : s.settle.kept = s.kept := repeatState_kept _ State.settleOnce_kept _ s

/-- A state in which a pass does nothing is settled. -/
theorem repeatState_fixed {f : State → State} {s : State} (h : f s = s) (n : Nat) : repeatState f n s = s := by
  induction n with
  | zero => rfl
  | succ n ih => rw [repeatState, h, ih]

theorem State.settle_rest (s : State) (h : s.ws.state.online = false) : s.settle = s :=
  repeatState_fixed (s.settleOnce_rest h) 8

/-- Settles O5: every field named is one of `Kept`, which a pass leaves alone. -/
theorem settlingFrame : Obligations.SettlingFrame := by
  refine ⟨fun s => ?_, fun s h => s.settle_rest ?_⟩
  · simpa only [State.kept, Kept.mk.injEq] using s.settle_kept
  · rcases h with h | h <;> simp [h, WorkState.online]

end Sys2Proof.Machine
end

section
/-! PROOFS. The merge tables of R13 to R20, row by row. -/

namespace Sys2Proof.Machine

/-! ### CLAIM and RELEASE (R13, R15) -/

/-- The rows of R13 for a drill claim. -/
theorem mergeEntry_claim_drill (k j : Nat) (e : HoleEntry) (c : Claim) (h : c.phase = .drill) :
    mergeEntry k j (.claim c) e =
      if e.state = .planned ∨ e.state = .drillClaimed then { e with state := .drillClaimed, claimant := some j }
      else { e with owed := true } := by
  cases hs : e.state <;> simp [mergeEntry, HoleEntry.claim, h, hs]

/-- The rows of R13 for a set claim. -/
theorem mergeEntry_claim_set (k j : Nat) (e : HoleEntry) (c : Claim) (h : c.phase = .set) :
    mergeEntry k j (.claim c) e =
      if e.state = .planned ∨ e.state = .drillClaimed then
        { e with state := .setClaimed, claimant := some j, drillWorker := some 0 }
      else if e.state = .drilled ∨ e.state = .setClaimed then { e with state := .setClaimed, claimant := some j }
      else { e with owed := true } := by
  cases hs : e.state <;> simp [mergeEntry, HoleEntry.claim, h, hs]

/-- The rows of R15. -/
theorem mergeEntry_release (k j : Nat) (e : HoleEntry) (c : Claim) :
    mergeEntry k j (.release c) e =
      if e.claimant = some j ∧ c.phase = .drill ∧ e.state = .drillClaimed then { e with state := .planned, claimant := none }
      else if e.claimant = some j ∧ c.phase = .set ∧ e.state = .setClaimed then { e with state := .drilled, claimant := none }
      else e := by
  show e.release j c.phase = _
  cases hp : c.phase <;> cases hs : e.state <;> simp [HoleEntry.release, HoleEntry.revert, hs]

/-! ### REPORT (R16, R17, R18) -/

/-- The rows of R16, and of a CORRECTION that asserts DRILLED. -/
theorem HoleEntry.reportDrilled_eq (w : Nat) (stack : Option Stack) (plies : Option Nat) (e : HoleEntry) :
    e.reportDrilled w stack plies =
      if e.state = .planned ∨ e.state = .drillClaimed then
        { e with state := .drilled, claimant := none, drillWorker := some w, stack := stack, plies := plies }
      else { e with drillWorker := if e.drillWorker.getD 0 = 0 then some w else e.drillWorker,
                    stack := if e.stack = none then stack else e.stack,
                    plies := if e.stack = none then plies else e.plies } := by
  cases hs : e.state <;> simp [HoleEntry.reportDrilled, hs]

/-- The rows of R17, and of a CORRECTION that asserts SET. -/
theorem HoleEntry.reportSet_eq (w : Nat) (stack : Option Stack) (plies grip : Option Nat) (squeeze : Option Squeeze) (e : HoleEntry) :
    e.reportSet w stack plies grip squeeze =
      if e.state = .set then e
      else { e with state := .set, claimant := none, setWorker := some w, grip := grip, squeeze := squeeze,
                    drillWorker := some (e.drillWorker.getD 0), reject := none,
                    stack := if stack = none then e.stack else stack,
                    plies := if stack = none then e.plies else plies } := by
  cases hs : e.state <;> cases stack <;> simp [HoleEntry.reportSet, hs]

/-- The rows of R18, and of a CORRECTION that asserts REJECTED. -/
theorem HoleEntry.reportRejected_eq (r : Reject) (e : HoleEntry) :
    e.reportRejected r =
      if e.state = .set ∨ e.state = .rejected then e
      else { e with state := .rejected, claimant := none, reject := some r } := by
  cases hs : e.state <;> simp [HoleEntry.reportRejected, hs]

/-! ### CORRECTION (R19, R20) -/

/-- The rows of R19 for a drill claim asserted. -/
theorem HoleEntry.claim_drill_getD (w : Nat) (e : HoleEntry) :
    (e.claim w .drill).getD e =
      if e.state = .planned ∨ e.state = .drillClaimed then { e with state := .drillClaimed, claimant := some w } else e := by
  cases hs : e.state <;> simp [HoleEntry.claim, hs]

/-- The rows of R19 for a set claim asserted. -/
theorem HoleEntry.claim_set_getD (w : Nat) (e : HoleEntry) :
    (e.claim w .set).getD e =
      if e.state = .planned ∨ e.state = .drillClaimed then
        { e with state := .setClaimed, claimant := some w, drillWorker := some 0 }
      else if e.state = .drilled ∨ e.state = .setClaimed then { e with state := .setClaimed, claimant := some w }
      else e := by
  cases hs : e.state <;> simp [HoleEntry.claim, hs]

/-- The rows of R20. -/
theorem HoleEntry.reworked_eq (st : HoleState) (e : HoleEntry) :
    e.reworked st =
      if e.state = .set then e
      else { state := st, drillWorker := if st = .drilled then some 0 else none, rework := min 3 (e.rework + 1), owed := e.owed } := by
  cases hs : e.state <;> simp [HoleEntry.reworked, HoleEntry.bare, hs, Config.reworkLimit]

/-! ### What every row keeps -/

/-- SET stays SET, REJECTED is left for SET or by a rework alone, and a claim enters by a CLAIM or a CORRECTION alone. -/
theorem mergeEntry_keeps (k j : Nat) (b : Body) (e : HoleEntry) :
    (e.state = .set → (mergeEntry k j b e).state = .set ∧ (mergeEntry k j b e).rework = e.rework)
    ∧ (e.state = .rejected → (mergeEntry k j b e).state = .rejected ∨ (mergeEntry k j b e).state = .set
        ∨ ∃ m, b = .correction m ∧ m.rework = true)
    ∧ ((mergeEntry k j b e).state.claimed = true → e.state.claimed = true
        ∨ (∃ c, b = .claim c) ∨ ∃ m, b = .correction m) := by
  cases b with
  | presence | datum | zone | draw | owed => exact ⟨fun h => ⟨h, rfl⟩, .inl, .inl⟩
  | claim c =>
    refine ⟨fun h => ?_, fun h => .inl ?_, fun _ => .inr (.inl ⟨c, rfl⟩)⟩ <;>
      cases hp : c.phase <;> simp [mergeEntry, HoleEntry.claim, hp, h]
  | release c =>
    rw [mergeEntry_release]
    refine ⟨fun h => by simp [h], fun h => by simp [h], ?_⟩
    split_ifs
    · exact fun h => by cases h
    · exact fun h => by cases h
    · exact .inl
  | report r =>
    cases ho : r.outcome with
    | drilled =>
      simp only [mergeEntry, ho, HoleEntry.reportDrilled_eq]
      refine ⟨fun h => by simp [h], fun h => by simp [h], ?_⟩
      by_cases hs : e.state = .planned ∨ e.state = .drillClaimed
      · rw [if_pos hs]
        exact fun h => by cases h
      · rw [if_neg hs]
        exact .inl
    | set =>
      simp only [mergeEntry, ho, HoleEntry.reportSet_eq]
      by_cases h : e.state = .set
      · rw [if_pos h]
        exact ⟨fun h => ⟨h, rfl⟩, .inl, .inl⟩
      · rw [if_neg h]
        exact ⟨fun hs => absurd hs h, fun _ => .inr (.inl rfl), fun h => by cases h⟩
    | rejected cause =>
      simp only [mergeEntry, ho, HoleEntry.reportRejected_eq]
      split_ifs with h
      · exact ⟨fun h => ⟨h, rfl⟩, .inl, .inl⟩
      · exact ⟨fun hs => absurd (.inl hs) h, fun _ => .inl rfl, fun h => by cases h⟩
  | correction m =>
    refine ⟨fun h => ?_, fun h => ?_, fun _ => .inr (.inr ⟨m, rfl⟩)⟩
    · cases hr : m.rework
      · cases ha : m.asserted <;>
          simp [mergeEntry, hr, ha, HoleEntry.claim_drill_getD, HoleEntry.claim_set_getD, HoleEntry.reportDrilled_eq,
            HoleEntry.reportSet_eq, HoleEntry.reportRejected_eq, h]
        cases m.reject <;> simp [h]
      · simp [mergeEntry, hr, HoleEntry.reworked_eq, h]
    · cases hr : m.rework
      · cases ha : m.asserted <;>
          simp [mergeEntry, hr, ha, HoleEntry.claim_drill_getD, HoleEntry.claim_set_getD, HoleEntry.reportDrilled_eq,
            HoleEntry.reportSet_eq, HoleEntry.reportRejected_eq, h]
        cases m.reject <;> simp [h]
      · exact .inr (.inr ⟨m, rfl, hr⟩)

/-- Settles O40: each row is a case of the equation of its frame. -/
theorem mergeTables : Obligations.MergeTables := by
  intro k j e
  refine ⟨fun c hc => ?_, fun c hc => ?_, fun c => ?_, fun r hr => ?_, fun r hr => ?_, fun r cause hr => ?_, fun m hm => ?_,
    fun m hm => ?_, fun b => mergeEntry_keeps k j b e⟩
  · rw [mergeEntry_claim_drill k j e c hc]
    exact ⟨fun h => if_pos h, fun h1 h2 => if_neg (by tauto)⟩
  · rw [mergeEntry_claim_set k j e c hc]
    exact ⟨fun h => if_pos h, fun h => by rcases h with h | h <;> simp [h], fun h => by rcases h with h | h <;> simp [h]⟩
  · rw [mergeEntry_release]
    exact ⟨fun hc hs hj => if_pos ⟨hj, hc, hs⟩, fun hc hs hj => by simp [hc, hs, hj],
      fun h => by rw [if_neg, if_neg] <;> rintro ⟨hj, hc, hs⟩ <;> simp_all⟩
  · simp only [mergeEntry, hr, HoleEntry.reportDrilled_eq, Report.stackOf, Report.pliesOf]
    exact ⟨fun h => by simp [h, Option.isSome_iff_ne_none], fun h1 h2 => by simp [h1, h2, Option.isSome_iff_ne_none]⟩
  · simp only [mergeEntry, hr, HoleEntry.reportSet_eq, Report.stackOf, Report.pliesOf]
    refine ⟨fun h => if_pos h, fun h => ?_⟩
    cases hst : r.stack <;> by_cases hp : r.plies = 0 <;> simp [h, hp]
  · simp only [mergeEntry, hr, HoleEntry.reportRejected_eq]
    exact ⟨fun h => if_pos h, fun h1 h2 => if_neg (by tauto)⟩
  · refine ⟨fun h => ?_, fun h hw => ?_, fun h h0 hk => ?_, fun h h0 hk => ?_, fun h hs => ?_, fun h h1 h2 => ?_, fun h hs => ?_,
      fun h hs => ?_, fun h hn => ?_, fun r h hn => ?_⟩
    · simp [mergeEntry, hm, h]
    · rcases h with h | h <;> simp [mergeEntry, hm, h, hw]
    · simp [mergeEntry, hm, h, h0, hk, HoleEntry.claim_drill_getD]
    · simp [mergeEntry, hm, h, h0, hk, HoleEntry.claim_set_getD]
    · simp [mergeEntry, hm, h, hs, HoleEntry.reportDrilled_eq]
    · simp [mergeEntry, hm, h, h1, h2, HoleEntry.reportDrilled_eq]
    · simp [mergeEntry, hm, h, hs, HoleEntry.reportSet_eq]
    · simp [mergeEntry, hm, h, hs, HoleEntry.reportSet_eq]
    · simp [mergeEntry, hm, h, hn]
    · simp [mergeEntry, hm, h, hn, HoleEntry.reportRejected_eq]
  · simp only [mergeEntry, hm, if_true, HoleEntry.reworked_eq]
    exact ⟨fun h => if_pos h, fun h => if_neg h⟩

end Sys2Proof.Machine
end

section
/-! PROOFS. A plan that passes the checks of COMMIT PLAN, and the visiting order of its groups. -/

namespace Sys2Proof.Machine

/-! ### Tables with rising keys -/

/-- In a table with rising keys an entry is found under its key, and only what is stored is found. -/
theorem lookupKey_eq_some_iff {α : Type} {l : List (Nat × α)} (h : (l.map (·.1)).Pairwise (· < ·)) (n : Nat) (a : α) :
    lookupKey n l = some a ↔ (n, a) ∈ l := by
  induction l with
  | nil => simp [lookupKey]
  | cons p l ih =>
    obtain ⟨m, b⟩ := p
    rw [List.map_cons, List.pairwise_cons] at h
    obtain ⟨hm, hl⟩ := h
    have later : (n, a) ∈ l → m < n := fun hmem => hm n (List.mem_map_of_mem (f := (·.1)) hmem)
    unfold lookupKey
    split_ifs with heq
    · subst heq
      simp only [Option.some.injEq, List.mem_cons, Prod.mk.injEq, true_and]
      exact ⟨fun h => .inl h.symm, fun h => h.elim Eq.symm fun h => absurd (later h) (Nat.lt_irrefl m)⟩
    · rw [ih hl, List.mem_cons, Prod.mk.injEq]
      exact ⟨.inr, fun h => h.elim (fun h => absurd h.1.symm heq) id⟩

/-- No number below a bound satisfies a test when the search for the least one finds none. -/
theorem leastBelow_eq_none_iff (n : Nat) (p : Nat → Bool) : leastBelow n p = none ↔ ∀ i, i < n → p i = false := by
  simp [leastBelow]

/-! ### The checks of R6 -/

/-- The nine checks of R6, each passed. -/
structure PlanStore.Whole (p : PlanStore) (h : PlanHeader) : Prop where
  header : p.header = some h
  groupsLoaded : ∀ n, n < h.groupCount → (lookupKey n p.groups).isSome = true
  holesLoaded : ∀ n, n < h.holeCount → (lookupKey n p.holes).isSome = true
  datums : h.datumsInRange = true
  positions : ∀ e ∈ p.holes, e.2.positionInRange = true
  apart : h.xA + 20000 ≤ h.xB
  sizes : ∀ e ∈ p.groups, e.2.sizeInRange = true
  modes : ∀ e ∈ p.groups, e.2.modeAgrees = true
  stackRanges : ∀ e ∈ p.holes, e.2.stackInRange = true
  filled : ∀ e ∈ p.groups, p.groupFilled e.1 e.2 = true
  check : crc16 p.bytes = h.check

/-- COMMIT PLAN finds no fault exactly where every check of R6 passes. -/
theorem PlanStore.whole_of_commitFault_none {p : PlanStore} (hp : p.commitFault = none) : ∃ h, p.Whole h := by
  unfold PlanStore.commitFault at hp
  split at hp
  · cases hp
  rename_i h hh
  dsimp only at hp
  split at hp
  · cases hp
  rename_i h1
  split at hp
  · cases hp
  rename_i h2
  split at hp
  · cases hp
  rename_i h3
  split at hp
  · cases hp
  rename_i h4
  split at hp
  · cases hp
  rename_i h5
  split at hp
  · cases hp
  rename_i h6
  split at hp
  · cases hp
  rename_i h7
  split at hp
  · cases hp
  rename_i h8
  split at hp
  case isFalse => cases hp
  rename_i h9
  simp only [leastBelow_eq_none_iff, Option.isNone_eq_false_iff] at h1 h2
  simp only [Bool.or_eq_true, Bool.not_eq_true', Option.isSome_map, List.find?_isSome, not_or, Bool.not_eq_false, not_exists,
    not_and] at h3
  simp only [Option.map_eq_none_iff, List.find?_eq_none, Bool.not_eq_true', Bool.not_eq_false] at h5 h6 h7 h8
  exact ⟨h, { header := hh, groupsLoaded := h1, holesLoaded := h2, datums := h3.1, positions := h3.2, apart := by omega,
              sizes := h5, modes := h6, stackRanges := h7, filled := h8, check := h9 }⟩

/-- Check 6: XOR INTERLEAVED goes with a size of 2, 4, 8 or 16. -/
theorem GroupEntry.modeAgrees_iff (g : GroupEntry) :
    g.modeAgrees = true ↔ (g.order = .xorInterleaved → g.size = 2 ∨ g.size = 4 ∨ g.size = 8 ∨ g.size = 16) := by
  unfold GroupEntry.modeAgrees
  cases g.order <;> simp

/-- Check 8: the indices of a group's holes are distinct, below its size, and as many. -/
theorem PlanStore.groupFilled_iff (p : PlanStore) (n : Nat) (g : GroupEntry) :
    p.groupFilled n g = true ↔
      (p.holes.filter fun x => x.2.group = n).length = g.size
      ∧ ((p.holes.filter fun x => x.2.group = n).map (·.2.index)).Nodup
      ∧ ∀ x ∈ p.holes, x.2.group = n → x.2.index < g.size := by
  simp only [PlanStore.groupFilled, Bool.and_eq_true, decide_eq_true_eq, List.length_map, List.all_eq_true, List.mem_map,
    List.mem_filter, forall_exists_index, and_imp, and_assoc]
  refine and_congr_right fun _ => and_congr_right fun _ => ?_
  exact ⟨fun h x hx hg => h x.2.index x hx hg rfl, fun h i x hx hg hi => hi ▸ h x hx hg⟩

/-! ### Group visiting order (R8) -/

/-- The visiting order of a group is formed as R8 has it: XOR INTERLEAVED only at a size that is a power of two. -/
def GroupEntry.orderly (g : GroupEntry) : Prop :=
  g.start < g.size ∧ (g.order = .ascendingWrap ∨ g.size = 2 ∨ g.size = 4 ∨ g.size = 8 ∨ g.size = 16)

theorem GroupEntry.orderly_of_checks {g : GroupEntry} (hs : g.sizeInRange = true) (hm : g.modeAgrees = true) : g.orderly := by
  simp only [GroupEntry.sizeInRange, Bool.and_eq_true, decide_eq_true_eq] at hs
  refine ⟨hs.2, ?_⟩
  rw [GroupEntry.modeAgrees_iff] at hm
  cases ho : g.order with
  | ascendingWrap => exact .inl rfl
  | xorInterleaved => exact .inr (hm ho)

/-- Below 2, 4, 8 or 16, two numbers' exclusive or stays below. -/
theorem xor_lt_size {a b n : Nat} (ha : a < n) (hb : b < n) (h : n = 2 ∨ n = 4 ∨ n = 8 ∨ n = 16) : Nat.xor a b < n := by
  obtain ⟨m, rfl⟩ : ∃ m, n = 2 ^ m := by
    rcases h with rfl | rfl | rfl | rfl
    exacts [⟨1, rfl⟩, ⟨2, rfl⟩, ⟨3, rfl⟩, ⟨4, rfl⟩]
  exact Nat.xor_lt_two_pow ha hb

section
variable {g : GroupEntry} (hg : g.orderly)
include hg

theorem GroupEntry.visitedAt_lt {p : Nat} (hp : p < g.size) : g.visitedAt p < g.size := by
  obtain ⟨hs, ho⟩ := hg
  unfold GroupEntry.visitedAt
  split
  · exact Nat.mod_lt _ (by omega)
  · rename_i hx
    exact xor_lt_size hs hp (by simpa [hx] using ho)

theorem GroupEntry.positionOf_lt {i : Nat} (hi : i < g.size) : g.positionOf i < g.size := by
  obtain ⟨hs, ho⟩ := hg
  unfold GroupEntry.positionOf
  split
  · exact Nat.mod_lt _ (by omega)
  · rename_i hx
    exact xor_lt_size hi hs (by simpa [hx] using ho)

theorem GroupEntry.positionOf_visitedAt {p : Nat} (hp : p < g.size) : g.positionOf (g.visitedAt p) = p := by
  obtain ⟨hs, -⟩ := hg
  unfold GroupEntry.positionOf GroupEntry.visitedAt
  cases g.order with
  | ascendingWrap =>
    dsimp only
    rw [Nat.mod_eq_of_lt hs]
    have hsum : g.start + p + (g.size - g.start) = p + g.size := by omega
    rw [Nat.mod_add_mod, hsum, Nat.add_mod_right, Nat.mod_eq_of_lt hp]
  | xorInterleaved =>
    show (g.start ^^^ p) ^^^ g.start = p
    rw [Nat.xor_comm g.start p, Nat.xor_assoc, Nat.xor_self, Nat.xor_zero]

theorem GroupEntry.visitedAt_positionOf {i : Nat} (hi : i < g.size) : g.visitedAt (g.positionOf i) = i := by
  obtain ⟨hs, -⟩ := hg
  unfold GroupEntry.positionOf GroupEntry.visitedAt
  cases g.order with
  | ascendingWrap =>
    dsimp only
    rw [Nat.mod_eq_of_lt hs]
    have hsum : g.start + (i + (g.size - g.start)) = i + g.size := by omega
    rw [Nat.add_mod_mod, hsum, Nat.add_mod_right, Nat.mod_eq_of_lt hi]
  | xorInterleaved =>
    show g.start ^^^ (i ^^^ g.start) = i
    rw [Nat.xor_comm i g.start, ← Nat.xor_assoc, Nat.xor_self, Nat.zero_xor]

/-- R8's position of an index, as it is written there. -/
theorem GroupEntry.positionOf_ascendingWrap (ho : g.order = .ascendingWrap) (p : Nat) :
    (g.positionOf p : Int) = ((p : Int) - g.start) % (g.size : Int) := by
  obtain ⟨hs, -⟩ := hg
  have hcast : ((p + (g.size - g.start) : Nat) : Int) = (p : Int) - g.start + g.size := by omega
  unfold GroupEntry.positionOf
  simp only [ho]
  rw [Nat.mod_eq_of_lt hs, Int.natCast_mod, hcast, Int.add_emod_right]

end

/-! ### Members and predecessor in a whole plan (R9) -/

section
variable {p : PlanStore} {n : Nat} {g : GroupEntry} (hrising : (p.holes.map (·.1)).Pairwise (· < ·))
  (hfilled : p.groupFilled n g = true)
include hrising hfilled

/-- In a filled group the hole with an index is the one hole of that group and index. -/
theorem PlanStore.holeWith_eq_some_iff (i m : Nat) :
    p.holeWith n i = some m ↔ ∃ x, lookupKey m p.holes = some x ∧ x.group = n ∧ x.index = i := by
  obtain ⟨-, hnodup, -⟩ := (p.groupFilled_iff n g).mp hfilled
  unfold PlanStore.holeWith
  rw [Option.map_eq_some_iff]
  constructor
  · rintro ⟨⟨m', x⟩, hfind, rfl⟩
    have hx := List.find?_some hfind
    simp only [Bool.and_eq_true, decide_eq_true_eq] at hx
    exact ⟨x, (lookupKey_eq_some_iff hrising m' x).mpr (List.mem_of_find?_eq_some hfind), hx⟩
  · rintro ⟨x, hx, hgroup, hindex⟩
    rw [lookupKey_eq_some_iff hrising] at hx
    cases hfind : p.holes.find? fun e => e.2.group = n && e.2.index = i with
    | none =>
      rw [List.find?_eq_none] at hfind
      exact absurd (by simp [hgroup, hindex]) (hfind _ hx)
    | some e =>
      have he := List.find?_some hfind
      simp only [Bool.and_eq_true, decide_eq_true_eq] at he
      have hmem := List.mem_of_find?_eq_some hfind
      have heq : e = (m, x) := List.inj_on_of_nodup_map hnodup
        (List.mem_filter.mpr ⟨hmem, by simpa using he.1⟩) (List.mem_filter.mpr ⟨hx, by simpa using hgroup⟩) (by simp [he.2, hindex])
      exact ⟨e, rfl, by rw [heq]⟩

/-- Every hole of a filled group has an index below the group's size. -/
theorem PlanStore.index_lt_of_lookup {m : Nat} {x : PlanHole} (hx : lookupKey m p.holes = some x) (hgroup : x.group = n) :
    x.index < g.size := by
  obtain ⟨-, -, hbelow⟩ := (p.groupFilled_iff n g).mp hfilled
  exact hbelow (m, x) ((lookupKey_eq_some_iff hrising m x).mp hx) hgroup

variable (hg : g.orderly)
include hg

/-- The holes visited over a group's order positions are the holes of the group. -/
theorem PlanStore.mem_visited_iff (m : Nat) :
    m ∈ (List.range g.size).filterMap (fun q => p.holeWith n (g.visitedAt q))
      ↔ ∃ x, lookupKey m p.holes = some x ∧ x.group = n := by
  simp only [List.mem_filterMap, List.mem_range, p.holeWith_eq_some_iff hrising hfilled]
  constructor
  · rintro ⟨q, -, x, hx, hgroup, -⟩
    exact ⟨x, hx, hgroup⟩
  · rintro ⟨x, hx, hgroup⟩
    have hi := p.index_lt_of_lookup hrising hfilled hx hgroup
    exact ⟨g.positionOf x.index, GroupEntry.positionOf_lt hg hi, x, hx, hgroup, (GroupEntry.visitedAt_positionOf hg hi).symm⟩

/-- The hole visited at an order position is the hole of the group whose index has that position. -/
theorem PlanStore.holeWith_visitedAt_iff {q : Nat} (hq : q < g.size) (m : Nat) :
    p.holeWith n (g.visitedAt q) = some m
      ↔ ∃ x, lookupKey m p.holes = some x ∧ x.group = n ∧ g.positionOf x.index = q := by
  rw [p.holeWith_eq_some_iff hrising hfilled]
  refine exists_congr fun x => and_congr_right fun hx => and_congr_right fun hgroup => ?_
  have hi := p.index_lt_of_lookup hrising hfilled hx hgroup
  constructor
  · intro h
    rw [h, GroupEntry.positionOf_visitedAt hg hq]
  · rintro rfl
    exact (GroupEntry.visitedAt_positionOf hg hi).symm

end

section
variable {p : PlanStore} {h : Nat} {hole : PlanHole} {g : GroupEntry} (hvalid : p.status = .valid)
  (hhole : lookupKey h p.holes = some hole) (hgroup : lookupKey hole.group p.groups = some g)
include hvalid hhole hgroup

theorem PlanStore.members_eq : p.members h = (List.range g.size).filterMap fun q => p.holeWith hole.group (g.visitedAt q) := by
  simp [PlanStore.members, hvalid, hhole, hgroup]

theorem PlanStore.predecessor_eq :
    p.predecessor h = if g.positionOf hole.index = 0 then none
      else p.holeWith hole.group (g.visitedAt (g.positionOf hole.index - 1)) := by
  unfold PlanStore.predecessor
  simp only [hvalid, ne_eq, not_true_eq_false, if_false, hhole, hgroup, Option.bind_eq_bind, Option.bind_some]
  cases g.positionOf hole.index <;> rfl

end

/-- Settles O31: each direction of the order undoes the other, and a filled group has one hole for each index. -/
theorem visitingOrderIsAPermutation : Obligations.VisitingOrderIsAPermutation := by
  refine ⟨fun g p hs hp ho => ?_, fun s h hole g hvalid hcommit hordered hhole hgroup => ?_⟩
  · have hg : g.orderly := ⟨hs, ho⟩
    refine ⟨fun h => ⟨by simp only [GroupEntry.visitedAt, h], GroupEntry.positionOf_ascendingWrap hg h p⟩,
      fun h => ⟨by simp only [GroupEntry.visitedAt, h], by simp only [GroupEntry.positionOf, h]⟩,
      GroupEntry.visitedAt_lt hg hp, GroupEntry.positionOf_visitedAt hg hp, GroupEntry.positionOf_lt hg hp,
      GroupEntry.visitedAt_positionOf hg hp⟩
  · obtain ⟨hd, hwhole⟩ := PlanStore.whole_of_commitFault_none hcommit
    obtain ⟨hgroups, hholes, -, -⟩ := hordered
    have hmem := (lookupKey_eq_some_iff hgroups hole.group g).mp hgroup
    have hfilled : s.ps.groupFilled hole.group g = true := hwhole.filled _ hmem
    have hg : g.orderly := GroupEntry.orderly_of_checks (hwhole.sizes _ hmem) (hwhole.modes _ hmem)
    refine ⟨fun m => ?_, fun m => ?_⟩
    · rw [PlanStore.members_eq hvalid hhole hgroup]
      exact PlanStore.mem_visited_iff hholes hfilled hg m
    · rw [PlanStore.predecessor_eq hvalid hhole hgroup]
      have hi : g.positionOf hole.index < g.size :=
        GroupEntry.positionOf_lt hg (PlanStore.index_lt_of_lookup hholes hfilled hhole rfl)
      cases hpos : g.positionOf hole.index with
      | zero => simp
      | succ n =>
        rw [if_neg (Nat.succ_ne_zero n), Nat.add_sub_cancel]
        simp only [Nat.add_right_cancel_iff]
        exact PlanStore.holeWith_visitedAt_iff hholes hfilled hg (by omega) m

end Sys2Proof.Machine
end

section
/-! PROOFS. Requests on the service line: read from their bytes, taken whole at the last of them; the plan requests and REWORK HOLE. -/

namespace Sys2Proof.Machine

open Sys2Proof (Byte Word Data Stamp Datum Side Instr)

/-! ### Fields of a payload -/

theorem field_append_left {a : List Byte} {i n : Nat} (h : i + n ≤ a.length) (b : List Byte) : field (a ++ b) i n = field a i n := by
  unfold field
  rw [List.drop_append_of_le_length (by omega), List.take_append_of_le_length (by rw [List.length_drop]; omega)]

theorem field_append_right {a : List Byte} {i : Nat} (h : a.length ≤ i) (b : List Byte) (n : Nat) :
    field (a ++ b) i n = field b (i - a.length) n := by
  unfold field
  rw [List.drop_append, List.drop_eq_nil_of_le h, List.nil_append]

theorem field_toBytes {n v : Nat} (h : v < 256 ^ n) : field (toBytes n v) 0 n = v := by
  unfold field
  rw [List.drop_zero, List.take_of_length_le (by simp), ofBytes_toBytes_of_lt h]

/-- A field of a frame's content, as a field of a payload. -/
theorem frameField_eq (c : List Byte) (a b : Nat) : frameField c a b = field c (a - 2) (b + 1 - a) := rfl

/-! ### A request read from its bytes (R177) -/

theorem requestBytes_eq (code : Nat) (payload : List Byte) :
    ∃ crc : List Byte, crc.length = 2 ∧ requestBytes code payload
      = startByte :: BitVec.ofNat 8 ((payload.length + 1) / 256) :: BitVec.ofNat 8 (payload.length + 1) :: BitVec.ofNat 8 code
          :: (payload ++ crc) :=
  ⟨_, crcBytes_length _, by simp [requestBytes, toBytes]; rfl⟩

@[simp] theorem requestCode_requestBytes (code : Nat) (payload : List Byte) :
    requestCode (requestBytes code payload) = BitVec.ofNat 8 code := by
  obtain ⟨crc, -, h⟩ := requestBytes_eq code payload
  simp [h, requestCode]

theorem requestBytes_length (code : Nat) (payload : List Byte) : (requestBytes code payload).length = payload.length + 6 := by
  obtain ⟨crc, hcrc, h⟩ := requestBytes_eq code payload
  simp [h, hcrc]

/-- The length field of a request. -/
theorem field_requestBytes_length (code : Nat) {payload : List Byte} (h : payload.length < 512) :
    field (requestBytes code payload) 1 2 = payload.length + 1 := by
  unfold requestBytes
  simp (disch := simp) only [List.append_assoc, field_append_right (a := [startByte]), field_append_left]
  exact field_toBytes (by omega)

/-- A request is read back when its payload has its code's length and decodes to it. -/
theorem parseRequest_bytes {r : Request} (hlen : payloadLength r.code = some r.payload.length)
    (hdec : decodeRequest r.code r.payload = some r) : parseRequest r.bytes = .ok r := by
  have hcode : (BitVec.ofNat 8 r.code).toNat = r.code := by cases r <;> rfl
  have hpayload : (r.bytes.drop 4).take (r.bytes.length - 6) = r.payload := by
    rw [Request.bytes, requestBytes_length]
    obtain ⟨crc, -, h⟩ := requestBytes_eq r.code r.payload
    simp [h]
  unfold parseRequest
  simp only [hpayload]
  simp [Request.bytes, hcode, hlen, hdec]

/-! ### A request taken (R176) -/

/-- The port RECEIVING, with bytes stored. -/
def State.receiving (l : List Byte) (s : State) : State :=
  { s with sp := { rx := .receiving, ignoring := false, buffer := l, answer := s.sp.answer, lastByte := s.clock } }

/-- The port ANSWERING, with the bytes of a complete request. -/
def State.taken (l : List Byte) (s : State) : State :=
  { s with sp := { rx := .answering, ignoring := false, buffer := l, answer := s.sp.answer, lastByte := s.clock } }

theorem State.hearByte_start {s : State} (h : s.sp.rx = .ready) : s.hearByte startByte = s.receiving [startByte] := by
  simp [State.hearByte, h, State.receiving]

/-- A byte that leaves a request incomplete, its length field in range, is stored. -/
theorem State.hearByte_stores {l : List Byte} {b : Byte}
    (h : (l ++ [b]).length < 3 ∨ ((l ++ [b]).length < field (l ++ [b]) 1 2 + 5
      ∧ 0 < field (l ++ [b]) 1 2 ∧ field (l ++ [b]) 1 2 ≤ Config.maxRequestLength)) (s : State) :
    (s.receiving l).hearByte b = s.receiving (l ++ [b]) := by
  unfold State.hearByte State.storeByte State.receiving
  simp only [Bool.false_eq_true, if_false]
  generalize l ++ [b] = bytes at h
  rcases h with h | ⟨hshort, hpos, hmax⟩
  · simp only [h, if_true]
  · by_cases hthree : bytes.length < 3
    · simp only [hthree, if_true]
    · have hlen : (field bytes 1 2 = 0 || decide (Config.maxRequestLength < field bytes 1 2)) = false := by
        simp only [Bool.or_eq_false_iff, decide_eq_false_iff_not]
        omega
      simp only [hthree, hlen, Bool.and_false, Nat.not_le_of_lt hshort, Bool.false_eq_true, if_false]

/-- The byte that completes a request has it taken. -/
theorem State.hearByte_takes {l : List Byte} {b : Byte} (h : (l ++ [b]).length = field (l ++ [b]) 1 2 + 5)
    (hpos : 0 < field (l ++ [b]) 1 2) (s : State) :
    (s.receiving l).hearByte b = (State.judgeRequest (l ++ [b]) (s.taken (l ++ [b]))).answered (requestCode (l ++ [b])) := by
  unfold State.hearByte State.storeByte State.receiving State.takeRequest State.taken
  simp only [Bool.false_eq_true, if_false]
  generalize l ++ [b] = bytes at h hpos
  have hthree : ¬ bytes.length < 3 := by omega
  have hnot : ¬ bytes.length = 3 := by omega
  simp only [hthree, hnot, decide_false, Bool.false_and, Bool.false_eq_true, if_false, h.symm.le, if_true]

/-- The rest of a request, begun and not yet complete, is stored byte by byte and the request taken at its end. -/
theorem State.hearBytes_rest {bytes : List Byte} (hlen : bytes.length = field bytes 1 2 + 5) (hpos : 0 < field bytes 1 2)
    (hmax : field bytes 1 2 ≤ Config.maxRequestLength) (s : State) (rest l : List Byte) (hl : l ++ rest = bytes) (hrest : rest ≠ []) :
    (s.receiving l).hearBytes rest = (State.judgeRequest bytes (s.taken bytes)).answered (requestCode bytes) := by
  induction rest generalizing l with
  | nil => exact absurd rfl hrest
  | cons b rest ih =>
    show ((s.receiving l).hearByte b).hearBytes rest = _
    by_cases hlast : rest = []
    · subst hlast hl
      exact State.hearByte_takes hlen hpos s
    · have hl' : (l ++ [b]) ++ rest = bytes := by simpa using hl
      have hshort : (l ++ [b]).length < bytes.length := by
        have hpositive := List.length_pos_iff.mpr hlast
        rw [← hl', List.length_append (bs := rest)]
        omega
      rw [State.hearByte_stores, ih (l ++ [b]) hl' hlast]
      by_cases hthree : (l ++ [b]).length < 3
      · exact .inl hthree
      · have hfield : field (l ++ [b]) 1 2 = field bytes 1 2 := by rw [← hl', field_append_left (by omega) rest]
        rw [hfield]
        exact .inr ⟨by omega, hpos, hmax⟩

/-- A whole request arriving in READY is taken at its last byte. -/
theorem State.hearBytes_requestBytes (code : Nat) {payload : List Byte} (h : payload.length < 512) {s : State}
    (hs : s.sp.rx = .ready) :
    s.hearBytes (requestBytes code payload)
      = (State.judgeRequest (requestBytes code payload) (s.taken (requestBytes code payload))).answered (BitVec.ofNat 8 code) := by
  have hlen := requestBytes_length code payload
  have hfield := field_requestBytes_length code h
  obtain ⟨crc, -, hbytes⟩ := requestBytes_eq code payload
  rw [← requestCode_requestBytes code payload]
  generalize hr : requestBytes code payload = bytes at *
  subst hbytes
  show (s.hearByte startByte).hearBytes _ = _
  rw [State.hearByte_start hs]
  exact State.hearBytes_rest (by omega) (by omega) (by rw [hfield]; exact h) s _ [startByte] rfl (List.cons_ne_nil _ _)

/-- A row of a request is the bytes that it carries. -/
theorem exec_requestRow_eq_hearBytes (r : Request) (s : State) : exec (requestRow r) s = .next (s.hearBytes r.bytes) := by
  cases r <;> rfl

/-- A request that reads back from its bytes is served and answered under its code. -/
theorem exec_requestRow {r : Request} (hlen : payloadLength r.code = some r.payload.length)
    (hdec : decodeRequest r.code r.payload = some r) {s : State} (hs : s.sp.rx = .ready) :
    exec (requestRow r) s = .next (Served.answered (BitVec.ofNat 8 r.code) ((s.taking r).serve r)) := by
  have hshort : r.payload.length < 512 := by
    cases r <;> simp only [Request.code, payloadLength, Option.some.injEq] at hlen <;> omega
  rw [exec_requestRow_eq_hearBytes, Request.bytes, State.hearBytes_requestBytes r.code hshort hs, State.judgeRequest, ← Request.bytes,
    parseRequest_bytes hlen hdec]
  rfl

/-! ### The plan requests and REWORK HOLE read back -/

theorem decodeRequest_loadPlanHeader {h : PlanHeader} (hf : headerFits h = true) :
    decodeRequest 3 (Request.loadPlanHeader h).payload = some (.loadPlanHeader h) := by
  simp only [headerFits, Bool.and_eq_true, decide_eq_true_eq] at hf
  obtain ⟨⟨⟨⟨⟨⟨hft, hhc⟩, hgc⟩, hxA⟩, hyA⟩, hxB⟩, hyB⟩ := hf
  simp (disch := simp) only [decodeRequest, Request.payload, PlanHeader.bytes16, List.append_assoc, field_append_left, field_append_right,
    toBytes_length, Nat.reduceSub]
  rw [field_toBytes hft, field_toBytes hhc, field_toBytes hgc, field_toBytes hxA, field_toBytes hyA, field_toBytes hxB,
    field_toBytes hyB, field_toBytes h.check.isLt, BitVec.ofNat_toNat, BitVec.setWidth_eq]

theorem decodeRequest_loadPlanGroup {n : Nat} {g : GroupEntry} (hf : groupFits n g = true) :
    decodeRequest 4 (Request.loadPlanGroup n g).payload = some (.loadPlanGroup n g) := by
  simp only [groupFits, Bool.and_eq_true, decide_eq_true_eq] at hf
  obtain ⟨⟨hn, hsize⟩, hstart⟩ := hf
  have hcode : g.order.code < 256 ^ 1 := by cases g.order <;> decide
  obtain ⟨size, order, start⟩ := g
  simp (disch := simp) only [decodeRequest, Request.payload, groupBytes, List.append_assoc, field_append_left, field_append_right,
    toBytes_length, Nat.reduceSub]
  rw [field_toBytes hcode, field_toBytes hn, field_toBytes hsize, field_toBytes hstart]
  cases order <;> rfl

theorem decodeRequest_loadPlanHole {n : Nat} {h : PlanHole} (hf : holeFits n h = true) :
    decodeRequest 5 (Request.loadPlanHole n h).payload = some (.loadPlanHole n h) := by
  simp only [holeFits, Bool.and_eq_true, decide_eq_true_eq] at hf
  obtain ⟨⟨⟨⟨⟨⟨⟨hn, hx⟩, hy⟩, hgroup⟩, hindex⟩, hnom⟩, htol⟩, hplies⟩ := hf
  simp (disch := simp) only [decodeRequest, Request.payload, holeBytes, List.append_assoc, field_append_left, field_append_right,
    toBytes_length, Nat.reduceSub]
  rw [field_toBytes hn, field_toBytes hx, field_toBytes hy, field_toBytes hgroup, field_toBytes hindex, field_toBytes hnom,
    field_toBytes htol, field_toBytes hplies]

theorem decodeRequest_reworkHole {n : Nat} (hn : n < 65536) (target : ReworkTarget) :
    decodeRequest 13 (Request.reworkHole n target).payload = some (.reworkHole n target) := by
  have hcode : target.code < 256 ^ 1 := by cases target <;> decide
  simp (disch := simp) only [decodeRequest, Request.payload, field_append_left, field_append_right, toBytes_length, Nat.reduceSub]
  rw [field_toBytes hcode, field_toBytes hn]
  cases target <;> rfl

end Sys2Proof.Machine
end

section
/-! PROOFS. What LC's and ZC's operations can do: their own records, HT's owed marks and WS's retest, and nothing else. -/

namespace Sys2Proof.Machine

open Sys2Proof (Byte Word Data Stamp Datum Side Instr)

/-- An entry without its owed correction (R10). -/
def HoleEntry.unowed (e : HoleEntry) : HoleEntry := { e with owed := false }

/-- From s to t only LC's and ZC's records, WS's retest and corrections owed by entries have changed, and those only to be owed no
longer (R14, R49). -/
structure State.LinkStep (s t : State) : Prop where
  frame : t = { s with lc := t.lc, zc := t.zc, ht := t.ht, ws.retest := t.ws.retest }
  entries : ∀ n : Nat, t.ht[n]? = s.ht[n]? ∨ t.ht[n]? = (s.ht[n]?).map HoleEntry.unowed

namespace State.LinkStep

theorem refl (s : State) : LinkStep s s := ⟨rfl, fun _ => .inl rfl⟩

theorem trans {s t u : State} (h : LinkStep s t) (h' : LinkStep t u) : LinkStep s u := by
  refine ⟨?_, fun n => ?_⟩
  · rw [h'.frame, h.frame]
  · rcases h.entries n with ht | ht <;> rcases h'.entries n with hu | hu
    · exact .inl (hu.trans ht)
    · exact .inr (by rw [hu, ht])
    · exact .inr (hu.trans ht)
    · refine .inr ?_
      rw [hu, ht, Option.map_map]
      rfl

theorem repeatState {f : State → State} (h : ∀ s, LinkStep s (f s)) (n : Nat) (s : State) :
    LinkStep s (Machine.repeatState f n s) := by
  induction n generalizing s with
  | zero => exact refl s
  | succ n ih => exact (h s).trans (ih (f s))

section
variable {s t : State} (h : LinkStep s t)
include h

theorem clock : t.clock = s.clock := by rw [h.frame]
theorem ps : t.ps = s.ps := by rw [h.frame]
theorem setup : t.setup = s.setup := by rw [h.frame]
theorem pu : t.pu = s.pu := by rw [h.frame]
theorem pt : t.pt = s.pt := by rw [h.frame]
theorem work : t.ws.state = s.ws.state := by rw [h.frame]
theorem cs : t.cs = s.cs := by rw [h.frame]
theorem ep : t.ep = s.ep := by rw [h.frame]
theorem eu : t.eu = s.eu := by rw [h.frame]

/-- But for corrections owed the entries are as they were. -/
theorem unowed_ht : t.ht.map HoleEntry.unowed = s.ht.map HoleEntry.unowed := by
  apply List.ext_getElem?
  intro n
  rw [List.getElem?_map, List.getElem?_map]
  rcases h.entries n with hn | hn <;> rw [hn]
  rw [Option.map_map]
  rfl

/-- Where no correction is owed the entries are as they were. -/
theorem ht_of_none_owed (hs : ∀ e ∈ s.ht, e.owed = false) : t.ht = s.ht := by
  apply List.ext_getElem?
  intro n
  rcases h.entries n with hn | hn
  · exact hn
  · rw [hn]
    cases he : s.ht[n]? with
    | none => rfl
    | some e =>
      have hown : e.unowed = e := by rw [HoleEntry.unowed, ← hs e (List.mem_of_getElem? he)]
      rw [Option.map_some, hown]

end

end State.LinkStep

namespace State

open LinkStep

/-! ### LC (R49 to R52) -/

theorem linkStep_lc (s : State) (lc : LinkController) : LinkStep s { s with lc := lc } := ⟨rfl, fun _ => .inl rfl⟩

theorem queueOwed_linkStep (h : Nat) (s : State) : LinkStep s (s.queueOwed h) := by
  unfold State.queueOwed
  split
  · exact .refl s
  · rename_i e he
    dsimp only
    refine (linkStep_lc s _).trans ⟨by rw [State.putEntry_eq], fun n => ?_⟩
    rw [State.putEntry_ht, List.getElem?_set]
    obtain ⟨hlen, -⟩ := List.getElem?_eq_some_iff.mp he
    split_ifs with hn
    · subst hn
      exact .inr (by rw [he]; rfl)
    · exact .inl rfl

theorem admitOne_linkStep (s : State) : LinkStep s s.admitOne := by
  unfold State.admitOne
  split
  · split
    · exact .refl s
    · dsimp only
      split
      · split
        · exact (linkStep_lc s _).trans (queueOwed_linkStep _ _)
        · exact linkStep_lc s _
      · exact linkStep_lc s _
  · exact .refl s

theorem admitHeld_linkStep (s : State) : LinkStep s s.admitHeld := .repeatState admitOne_linkStep _ s

theorem offerOwed_linkStep (s : State) : LinkStep s s.offerOwed := by
  unfold State.offerOwed
  dsimp only
  generalize hu : Machine.repeatState _ s.ht.length s = u
  have hk : LinkStep s u := by
    rw [← hu]
    refine .repeatState (fun t => ?_) _ s
    split
    · split
      · exact queueOwed_linkStep _ t
      · exact .refl t
    · exact .refl t
  split
  · exact hk.trans (linkStep_lc u _)
  · split
    · exact hk
    · exact hk.trans (linkStep_lc u _)

theorem offer_linkStep (o : Owner) (b : Body) (s : State) : LinkStep s (s.offer o b) := by
  rw [State.offer_eq]
  exact linkStep_lc s _

theorem removeFrame_linkStep (id : Nat) (s : State) : LinkStep s (s.removeFrame id) := by
  unfold State.removeFrame
  split
  · exact .refl s
  · exact (linkStep_lc s _).trans (admitHeld_linkStep _)

theorem replaceFrame_linkStep (id : Nat) (b : Body) (s : State) : LinkStep s (s.replaceFrame id b) := by
  unfold State.replaceFrame
  split
  · exact .refl s
  · exact linkStep_lc s _

theorem voidInFlight_linkStep (p : Body → Bool) (s : State) : LinkStep s (s.voidInFlight p) := by
  unfold State.voidInFlight
  repeat' split
  · exact linkStep_lc s _
  · exact .refl s
  · exact .refl s

theorem linkFrameStart_linkStep (s : State) : LinkStep s s.linkFrameStart := by
  unfold State.linkFrameStart
  exact (voidInFlight_linkStep _ s).trans ((linkStep_lc _ _).trans (admitHeld_linkStep _))

/-! ### ZC (ch. 4) -/

theorem putZone_linkStep (side : Side) (z : ZoneRecord) (s : State) : LinkStep s (s.putZone side z) := by
  cases side <;> exact ⟨rfl, fun _ => .inl rfl⟩

theorem onZone_linkStep (side : Side) (f : ZoneRecord → ZoneRecord) (s : State) : LinkStep s (s.onZone side f) :=
  putZone_linkStep side _ s

theorem sendOutstanding_linkStep (side : Side) (o : Outstanding) (a : ZoneAction) (s : State) :
    LinkStep s (s.sendOutstanding side o a) := by
  unfold State.sendOutstanding State.offerZone
  exact (offer_linkStep .zc _ s).trans (onZone_linkStep side _ _)

theorem dropOutstanding_linkStep (side : Side) (s : State) : LinkStep s (s.dropOutstanding side) := by
  unfold State.dropOutstanding
  dsimp only
  split
  · exact .refl s
  · split
    · exact .refl s
    · exact (removeFrame_linkStep _ s).trans (onZone_linkStep side _ _)

theorem seizeToRequest_linkStep (side : Side) (s : State) : LinkStep s (s.seizeToRequest side) := by
  unfold State.seizeToRequest
  dsimp only
  split
  · exact (replaceFrame_linkStep _ _ s).trans (onZone_linkStep side _ _)
  · exact .refl s

theorem tidyOutstanding_linkStep (side : Side) (st : ZoneState) (s : State) : LinkStep s (s.tidyOutstanding side st) := by
  unfold State.tidyOutstanding
  split
  case h_4 | h_6 => exact .refl s
  all_goals exact dropOutstanding_linkStep side s

theorem zoneTo_linkStep (side : Side) (st : ZoneState) (s : State) : LinkStep s (s.zoneTo side st) := by
  unfold State.zoneTo
  dsimp only
  split
  · exact onZone_linkStep side _ s
  · exact (tidyOutstanding_linkStep side st s).trans (onZone_linkStep side _ _)

theorem applyBlock_linkStep (side : Side) (s : State) : LinkStep s (s.applyBlock side) := by
  have block : LinkStep s (if s.blocks side then s.zoneTo side .blocked else s) := by
    split
    · exact zoneTo_linkStep side _ s
    · exact .refl s
  unfold State.applyBlock
  split
  case h_1 | h_2 | h_3 => exact .refl s
  all_goals exact block

theorem zoneChange_linkStep (side : Side) (st : ZoneState) (s : State) : LinkStep s (s.zoneChange side st) :=
  (zoneTo_linkStep side st s).trans (applyBlock_linkStep side _)

theorem rebound_linkStep (side : Side) (s : State) : LinkStep s (s.rebound side) := by
  unfold State.rebound
  split
  · split
    · exact .refl s
    · exact (dropOutstanding_linkStep side s).trans (putZone_linkStep side _ _)
  · split
    · exact (putZone_linkStep side _ s).trans (zoneTo_linkStep side _ _)
    · split
      · exact .refl s
      · exact onZone_linkStep side _ s

theorem seizeRequested_linkStep (side : Side) (s : State) : LinkStep s (s.seizeRequested side) := by
  unfold State.seizeRequested
  dsimp only
  split
  · exact (onZone_linkStep side _ s).trans (sendOutstanding_linkStep side _ _ _)
  · exact onZone_linkStep side _ s

theorem hearRelease_linkStep (side : Side) (s : State) : LinkStep s (s.hearRelease side) := by
  unfold State.hearRelease
  split
  case h_1 => exact zoneChange_linkStep side _ s
  case h_2 =>
    split
    · exact zoneChange_linkStep side _ s
    · split
      · exact onZone_linkStep side _ s
      · exact seizeRequested_linkStep side s
  all_goals exact .refl s

theorem dualHold_linkStep (side : Side) (s : State) : LinkStep s (s.dualHold side) := by
  unfold State.dualHold
  split
  · exact .refl s
  · exact onZone_linkStep side _ s

/-- What a PRESENCE does to the zone it shares (R84). -/
theorem reconcileZone_linkStep (side : Side) (s : State) : LinkStep s (s.reconcileZone side) := by
  have change := fun st => zoneChange_linkStep side st s
  have dual : ∀ held : Bool, LinkStep s (if held then s.dualHold side else s) := by
    rintro (_ | _)
    · exact .refl s
    · exact dualHold_linkStep side s
  unfold State.reconcileZone
  split
  · exact .refl s
  · split
    · exact applyBlock_linkStep side s
    · split
      case h_1 | h_4 | h_6 | h_13 | h_17 => exact .refl s
      case h_2 => exact (seizeToRequest_linkStep side s).trans (zoneChange_linkStep side _ _)
      case h_5 =>
        dsimp only
        split
        · exact (dual _).trans (onZone_linkStep side _ _)
        · exact dual _
      case h_9 =>
        split
        · exact seizeRequested_linkStep side s
        · exact .refl s
      case h_11 => exact hearRelease_linkStep side s
      all_goals exact change _

theorem resetZone_linkStep (side : Side) (s : State) : LinkStep s (s.resetZone side) := by
  unfold State.resetZone
  dsimp only
  split
  · exact .refl s
  · exact putZone_linkStep side _ s

theorem resetZones_linkStep (s : State) : LinkStep s s.resetZones :=
  (resetZone_linkStep .left s).trans (resetZone_linkStep .right _)

theorem noZones_linkStep (s : State) : LinkStep s s.noZones :=
  (putZone_linkStep .left _ s).trans (putZone_linkStep .right _ _)

end State

end Sys2Proof.Machine
end

section
/-! PROOFS. The plan requests and REWORK HOLE: refused without effect, or accepted with what they store. -/

namespace Sys2Proof.Machine

open Sys2Proof (Byte Word Data Stamp Datum Side Instr)

/-! ### Frame cycle start and the passage to IDLE (R87, R88) -/

theorem PlanStore.freshTable_not_owed (p : PlanStore) : ∀ e ∈ p.freshTable, e.owed = false := by
  intro e he
  rw [List.eq_of_mem_replicate he]

/-- A frame cycle start builds the hole table afresh and takes the station to WAITING. -/
theorem State.frameCycleStart_table (s : State) :
    s.frameCycleStart.ht = s.ps.freshTable ∧ s.frameCycleStart.ws.state = .waiting := by
  unfold State.frameCycleStart
  dsimp only
  generalize ha : State.linkFrameStart _ = a
  have hlink := ha ▸ State.linkFrameStart_linkStep { s.setWork .waiting with ht := s.ps.freshTable }
  have hatable : a.ht = s.ps.freshTable := hlink.ht_of_none_owed s.ps.freshTable_not_owed
  generalize hb : State.setProber _ _ _ a.dropDatums = b
  have hbtable : b.ht = s.ps.freshTable := by rw [← hb, State.setProber_ht]; exact hatable
  have hbwork : b.ws.state = .waiting := by rw [← hb, State.setProber_ws]; exact hlink.work
  have hzones := State.resetZones_linkStep b
  constructor
  · show b.resetZones.ht = _
    rw [hzones.ht_of_none_owed (hbtable ▸ s.ps.freshTable_not_owed), hbtable]
  · show b.resetZones.ws.state = _
    rw [hzones.work, hbwork]

/-- The passage from UNCONFIGURED: to WAITING by a frame cycle start where the jig is closed, else to IDLE. -/
theorem State.passToIdle_work (s : State) : s.passToIdle.ws.state = if s.lines.jigClosed then .waiting else .idle := by
  unfold State.passToIdle
  dsimp only
  have hlines : s.toIdle.linkStart.lines.jigClosed = s.lines.jigClosed := rfl
  rw [hlines]
  split
  · exact (State.frameCycleStart_table _).2
  · rfl

theorem State.passToIdle_ht (s : State) (h : s.ht = s.ps.freshTable) : s.passToIdle.ht = s.ps.freshTable := by
  unfold State.passToIdle
  dsimp only
  split
  · exact (State.frameCycleStart_table _).1
  · exact h

/-- A station with a VALID plan is passed to IDLE where it was UNCONFIGURED and has its setup. -/
theorem State.configured_work (s : State) (hvalid : s.ps.status = .valid) :
    s.configured.ws.state = if s.ws.state = .unconfigured ∧ s.setup ≠ none then
      if s.lines.jigClosed then .waiting else .idle else s.ws.state := by
  have hcond : (decide (s.ws.state = .unconfigured) && s.setup.isSome && decide (s.ps.status = .valid)) = true
      ↔ s.ws.state = .unconfigured ∧ s.setup ≠ none := by
    simp [hvalid, Option.isSome_iff_ne_none]
  simp only [State.configured, hcond]
  split
  · exact s.passToIdle_work
  · rfl

theorem State.configured_ht (s : State) (h : s.ht = s.ps.freshTable) : s.configured.ht = s.ps.freshTable := by
  unfold State.configured
  split
  · exact s.passToIdle_ht h
  · exact h

/-- An UNCONFIGURED station has no hole table (R11, R87). -/
theorem State.enterUnconfigured_table (s : State) :
    s.enterUnconfigured.ws.state = .unconfigured ∧ s.enterUnconfigured.ht = [] := by
  refine ⟨rfl, ?_⟩
  show (State.forgetPeers _).ht = []
  unfold State.forgetPeers State.evalConflict
  dsimp only
  split <;> rfl

/-! ### LOAD PLAN HEADER, GROUP and HOLE (R1 to R5) -/

theorem PlanHeader.payload_length (h : PlanHeader) :
    payloadLength 3 = some (Request.loadPlanHeader h).payload.length := by
  simp [payloadLength, Request.payload, PlanHeader.bytes16]

theorem exec_loadPlanHeader {h : PlanHeader} (hf : headerFits h = true) {s : State} (hs : s.sp.rx = .ready) :
    exec (requestRow (.loadPlanHeader h)) s = .next (Served.answered 3#8 ((s.taking (.loadPlanHeader h)).serveHeader h)) :=
  exec_requestRow (r := .loadPlanHeader h) h.payload_length (decodeRequest_loadPlanHeader hf) hs

theorem exec_loadPlanGroup {n : Nat} {g : GroupEntry} (hf : groupFits n g = true) {s : State} (hs : s.sp.rx = .ready) :
    exec (requestRow (.loadPlanGroup n g)) s = .next (Served.answered 4#8 ((s.taking (.loadPlanGroup n g)).serveGroup n g)) :=
  exec_requestRow (r := .loadPlanGroup n g) (by simp [Request.code, payloadLength, Request.payload, groupBytes])
    (decodeRequest_loadPlanGroup hf) hs

theorem exec_loadPlanHole {n : Nat} {h : PlanHole} (hf : holeFits n h = true) {s : State} (hs : s.sp.rx = .ready) :
    exec (requestRow (.loadPlanHole n h)) s = .next (Served.answered 5#8 ((s.taking (.loadPlanHole n h)).serveHole n h)) :=
  exec_requestRow (r := .loadPlanHole n h) (by simp [Request.code, payloadLength, Request.payload, holeBytes])
    (decodeRequest_loadPlanHole hf) hs

theorem exec_commitPlan {s : State} (hs : s.sp.rx = .ready) :
    exec (requestRow .commitPlan) s = .next (Served.answered 6#8 (s.taking .commitPlan).serveCommit) :=
  exec_requestRow (r := .commitPlan) rfl rfl hs

theorem exec_reworkHole {n : Nat} (hn : n < 65536) (target : ReworkTarget) {s : State} (hs : s.sp.rx = .ready) :
    exec (requestRow (.reworkHole n target)) s
      = .next (Served.answered 13#8 ((s.taking (.reworkHole n target)).serveRework n target)) :=
  exec_requestRow (r := .reworkHole n target) (by simp [Request.code, payloadLength, Request.payload])
    (decodeRequest_reworkHole hn target) hs

/-- What LOAD PLAN HEADER comes to (R1, R4). -/
theorem loadPlanHeader_answers {h : PlanHeader} (hf : headerFits h = true) {s : State} (hs : s.sp.rx = .ready) :
    (s.settingOut = false → exec (requestRow (.loadPlanHeader h)) s = .next (s.answering (.loadPlanHeader h) .wrongState []))
    ∧ (s.settingOut = true → h.holeCount = 0 ∨ 2048 < h.holeCount ∨ h.groupCount = 0 ∨ 256 < h.groupCount →
        exec (requestRow (.loadPlanHeader h)) s = .next (s.answering (.loadPlanHeader h) .range []))
    ∧ (s.settingOut = true → 1 ≤ h.holeCount → h.holeCount ≤ 2048 → 1 ≤ h.groupCount → h.groupCount ≤ 256 →
        ∃ t : State, exec (requestRow (.loadPlanHeader h)) s = .next t ∧ t.sp.answer = answerBytes 3#8 .accepted []
          ∧ t.ps = { status := .loading, header := some h, groups := [], holes := [] } ∧ t.setup = s.setup
          ∧ (s.ps.status = .valid → t.ws.state = .unconfigured ∧ t.ht = [])) := by
  rw [exec_loadPlanHeader hf hs]
  have hout : (s.taking (.loadPlanHeader h)).settingOut = s.settingOut := rfl
  unfold State.serveHeader
  rw [hout]
  refine ⟨fun h1 => ?_, fun h1 h2 => ?_, fun h1 h2 h3 h4 h5 => ?_⟩
  · rw [h1]
    rfl
  · have hrange : (decide (h.holeCount = 0) || decide (2048 < h.holeCount) || decide (h.groupCount = 0)
        || decide (256 < h.groupCount)) = true := by
      simp only [Bool.or_eq_true, decide_eq_true_eq]
      tauto
    simp only [h1, hrange]
    rfl
  · have hrange : (decide (h.holeCount = 0) || decide (2048 < h.holeCount) || decide (h.groupCount = 0)
        || decide (256 < h.groupCount)) = false := by
      simp only [Bool.or_eq_false_iff, decide_eq_false_iff_not]
      omega
    simp only [h1, hrange, Bool.not_true, Bool.false_eq_true, if_false]
    refine ⟨_, rfl, rfl, ?_⟩
    simp only [Served.answered, State.accept]
    split
    · rename_i hvalid
      generalize hu : State.enterUnconfigured _ = u
      obtain ⟨hwork, hht⟩ : u.ws.state = .unconfigured ∧ u.ht = [] := hu ▸ State.enterUnconfigured_table _
      have hbase : u.base = State.base { s.taking (.loadPlanHeader h) with ps := PlanStore.withHeader h } :=
        hu ▸ State.enterUnconfigured_base _
      have hrest : u.settle = u := u.settle_rest (by rw [hwork]; rfl)
      rw [hrest]
      exact ⟨congrArg Base.ps hbase, congrArg Base.setup hbase, fun _ => ⟨hwork, hht⟩⟩
    · rename_i hvalid
      exact ⟨State.settle_ps _, State.settle_setup _, fun h => absurd h hvalid⟩

/-- What LOAD PLAN GROUP comes to (R2, R5). -/
theorem loadPlanGroup_answers {n : Nat} {g : GroupEntry} (hf : groupFits n g = true) {s : State} (hs : s.sp.rx = .ready) :
    (s.loadingOpen = false → exec (requestRow (.loadPlanGroup n g)) s = .next (s.answering (.loadPlanGroup n g) .wrongState []))
    ∧ (s.loadingOpen = true → s.ps.groupCount ≤ n →
        exec (requestRow (.loadPlanGroup n g)) s = .next (s.answering (.loadPlanGroup n g) .range []))
    ∧ (s.loadingOpen = true → n < s.ps.groupCount →
        ∃ t : State, exec (requestRow (.loadPlanGroup n g)) s = .next t ∧ t.sp.answer = answerBytes 4#8 .accepted []
          ∧ t.ps = { s.ps with groups := insertKey n g s.ps.groups } ∧ t.setup = s.setup) := by
  rw [exec_loadPlanGroup hf hs]
  have hopen : (s.taking (.loadPlanGroup n g)).loadingOpen = s.loadingOpen := rfl
  have hcount : (s.taking (.loadPlanGroup n g)).ps = s.ps := rfl
  unfold State.serveGroup
  rw [hopen, hcount]
  refine ⟨fun h1 => ?_, fun h1 h2 => ?_, fun h1 h2 => ?_⟩
  · rw [h1]
    rfl
  · simp only [h1, h2, if_true]
    rfl
  · simp only [h1, Nat.not_le_of_lt h2, Bool.not_true, Bool.false_eq_true, if_false]
    exact ⟨_, rfl, rfl, State.settle_ps _, State.settle_setup _⟩

/-- What LOAD PLAN HOLE comes to (R3, R5). -/
theorem loadPlanHole_answers {n : Nat} {h : PlanHole} (hf : holeFits n h = true) {s : State} (hs : s.sp.rx = .ready) :
    (s.loadingOpen = false → exec (requestRow (.loadPlanHole n h)) s = .next (s.answering (.loadPlanHole n h) .wrongState []))
    ∧ (s.loadingOpen = true → s.ps.holeCount ≤ n ∨ s.ps.groupCount ≤ h.group →
        exec (requestRow (.loadPlanHole n h)) s = .next (s.answering (.loadPlanHole n h) .range []))
    ∧ (s.loadingOpen = true → n < s.ps.holeCount → h.group < s.ps.groupCount →
        ∃ t : State, exec (requestRow (.loadPlanHole n h)) s = .next t ∧ t.sp.answer = answerBytes 5#8 .accepted []
          ∧ t.ps = { s.ps with holes := insertKey n h s.ps.holes } ∧ t.setup = s.setup) := by
  rw [exec_loadPlanHole hf hs]
  have hopen : (s.taking (.loadPlanHole n h)).loadingOpen = s.loadingOpen := rfl
  have hcount : (s.taking (.loadPlanHole n h)).ps = s.ps := rfl
  unfold State.serveHole
  rw [hopen, hcount]
  refine ⟨fun h1 => ?_, fun h1 h2 => ?_, fun h1 h2 h3 => ?_⟩
  · rw [h1]
    rfl
  · have hrange : (decide (s.ps.holeCount ≤ n) || decide (s.ps.groupCount ≤ h.group)) = true := by simpa using h2
    simp only [h1, hrange]
    rfl
  · have hrange : (decide (s.ps.holeCount ≤ n) || decide (s.ps.groupCount ≤ h.group)) = false := by simp [h2, h3]
    simp only [h1, hrange, Bool.not_true, Bool.false_eq_true, if_false]
    exact ⟨_, rfl, rfl, State.settle_ps _, State.settle_setup _⟩

/-- Settles O29: request by request, each check in its order. -/
theorem planLoading : Obligations.PlanLoading := by
  intro s hs
  refine ⟨fun h hf => (loadPlanHeader_answers hf hs).1, fun h hf => (loadPlanHeader_answers hf hs).2.1,
    fun h hf => (loadPlanHeader_answers hf hs).2.2, fun n g hf => (loadPlanGroup_answers hf hs).1,
    fun n g hf => (loadPlanGroup_answers hf hs).2.1, fun n g hf => (loadPlanGroup_answers hf hs).2.2,
    fun n h hf => (loadPlanHole_answers hf hs).1, fun n h hf => (loadPlanHole_answers hf hs).2.1,
    fun n h hf => (loadPlanHole_answers hf hs).2.2⟩

/-! ### COMMIT PLAN (R6, R7) -/

/-- What COMMIT PLAN comes to. -/
theorem commitPlan_answers {s : State} (hs : s.sp.rx = .ready) :
    (s.loadingOpen = false → exec (requestRow .commitPlan) s = .next (s.answering .commitPlan .wrongState []))
    ∧ (∀ f, s.loadingOpen = true → s.ps.commitFault = some f →
        exec (requestRow .commitPlan) s = .next (s.answering .commitPlan f.status (num1 f.check ++ optional num2 f.number)))
    ∧ (s.loadingOpen = true → s.ps.commitFault = none →
        ∃ u : State, exec (requestRow .commitPlan) s = .next (Served.answered 6#8 u.accept)
          ∧ u.ps = { s.ps with status := .valid } ∧ u.ht = List.replicate s.ps.holeCount {} ∧ u.setup = s.setup
          ∧ u.ws.state = (if s.ws.state = .unconfigured ∧ s.setup ≠ none then
              if s.lines.jigClosed then .waiting else .idle
            else s.ws.state)) := by
  rw [exec_commitPlan hs]
  have hopen : (s.taking .commitPlan).loadingOpen = s.loadingOpen := rfl
  have hfault : (s.taking .commitPlan).ps.commitFault = s.ps.commitFault := rfl
  unfold State.serveCommit
  rw [hopen, hfault]
  refine ⟨fun h1 => ?_, fun f h1 h2 => ?_, fun h1 h2 => ?_⟩
  · rw [h1]
    rfl
  · simp only [h1, h2]
    rfl
  · simp only [h1, h2, Bool.not_true, Bool.false_eq_true, if_false]
    have hbase := State.configured_base { s.taking .commitPlan with ps.status := .valid, ht := s.ps.freshTable }
    exact ⟨_, rfl, congrArg Base.ps hbase, State.configured_ht _ rfl, congrArg Base.setup hbase, State.configured_work _ rfl⟩

/-- Settles O30: the checks of R6 in their order, and what they leave of a plan that passes them all. -/
theorem commitPlanRules : Obligations.CommitPlanRules := by
  refine ⟨fun s hs => commitPlan_answers hs, fun p hp => ?_⟩
  obtain ⟨h, hw⟩ := PlanStore.whole_of_commitFault_none hp
  have hdatums := hw.datums
  simp only [PlanHeader.datumsInRange, Bool.and_eq_true, decide_eq_true_eq] at hdatums
  obtain ⟨⟨⟨-, hxB⟩, hyA⟩, hyB⟩ := hdatums
  refine ⟨h, hw.header, hw.groupsLoaded, hw.holesLoaded, hw.apart, hxB, hyA, hyB, fun e he => ?_, fun e he => ?_, hw.check⟩
  · obtain ⟨hlength, hnodup, hindex⟩ := (p.groupFilled_iff e.1 e.2).mp (hw.filled e he)
    have hsize := hw.sizes e he
    simp only [GroupEntry.sizeInRange, Bool.and_eq_true, decide_eq_true_eq] at hsize
    obtain ⟨⟨hone, hsixteen⟩, hstart⟩ := hsize
    exact ⟨hone, hsixteen, hstart, e.2.modeAgrees_iff.mp (hw.modes e he), hnodup, hindex, hlength⟩
  · have hpos := hw.positions e he
    have hstack := hw.stackRanges e he
    simp only [PlanHole.positionInRange, Bool.and_eq_true, decide_eq_true_eq] at hpos
    simp only [PlanHole.stackInRange, Bool.and_eq_true, decide_eq_true_eq] at hstack
    obtain ⟨⟨⟨⟨hlow, hhigh⟩, htlow⟩, hthigh⟩, hplies⟩ := hstack
    exact ⟨hpos.1, hpos.2, hlow, hhigh, htlow, hthigh, hplies⟩

/-! ### REWORK HOLE (R22) -/

/-- Settles O34: the checks of R22 in their order, the limit before the station state. -/
theorem reworkRules : Obligations.ReworkRules := by
  intro n target s hn hs
  rw [exec_reworkHole hn target hs]
  have hps : (s.taking (.reworkHole n target)).ps = s.ps := rfl
  have hht : (s.taking (.reworkHole n target)).ht = s.ht := rfl
  have hws : (s.taking (.reworkHole n target)).ws = s.ws := rfl
  simp only [State.serveRework, hps, hht, hws, Config.reworkLimit]
  refine ⟨fun h1 => ?_, fun h1 h2 => ?_, fun e h1 h2 h3 => ?_, fun e h1 h2 h3 h4 => ?_, fun e h1 h2 h3 h4 h5 => ?_,
    fun e h1 h2 h3 h4 h5 => ?_⟩
  · rw [if_pos h1]
    rfl
  · simp only [h1, h2, ne_eq, not_true_eq_false, if_false]
    rfl
  · simp only [h1, h2, h3, ne_eq, not_true_eq_false, not_false_eq_true, if_false, if_true]
    rfl
  · simp only [h1, h2, h3, h4, ne_eq, not_true_eq_false, if_false, if_true]
    rfl
  · simp only [h1, h2, h3, Nat.not_le_of_lt h4, h5, Bool.false_eq_true, ne_eq, not_true_eq_false, if_false]
    rfl
  · simp only [h1, h2, h3, Nat.not_le_of_lt h4, h5, ne_eq, not_true_eq_false, if_false, if_true]
    refine ⟨_, rfl, ?_⟩
    cases target <;> rfl

end Sys2Proof.Machine
end

section
/-! PROOFS. Frames read back from their bytes, and a frame heard from its row to its block. -/

namespace Sys2Proof.Machine

open Sys2Proof (Byte Word Data Stamp Datum Side Instr)

/-! ### A frame split (R42, R55) -/

theorem frameBytes_eq (k : Nat) (b : Body) :
    ∃ crc : List Byte, crc.length = 2 ∧ frameBytes k b = BitVec.ofNat 8 (16 * b.kind + k % 16) :: (b.content ++ crc) :=
  ⟨_, crcBytes_length _, by simp [frameBytes, toBytes]; rfl⟩

theorem Body.kind_le (b : Body) : b.kind ≤ 8 := by cases b <;> simp [Body.kind]

theorem splitFrame_frameBytes {k : Nat} (hk : k < 16) {b : Body} (hb : b ≠ .owed) :
    splitFrame (frameBytes k b) = some { kind := b.kind, sender := k, content := b.content } := by
  have hkind := b.kind_le
  obtain ⟨crc, hcrc, h⟩ := frameBytes_eq k b
  have hhead : (BitVec.ofNat 8 (16 * b.kind + k % 16)).toNat = 16 * b.kind + k := by
    rw [BitVec.toNat_ofNat]
    omega
  have hdiv : (16 * b.kind + k) / 16 = b.kind := by omega
  have hmod : (16 * b.kind + k) % 16 = k := by omega
  simp [h, splitFrame, hhead, hdiv, hmod, hcrc, content_length b hb]

/-! ### Bits of a field -/

/-- One bit of a number, in arithmetic. -/
theorem testBit_eq (v i : Nat) : v.testBit i = decide (v / 2 ^ i % 2 = 1) := Nat.testBit_eq_decide_div_mod_eq

theorem Phase.ofBit_code (p : Phase) : Phase.ofBit (decide (p.code = 1)) = p := by cases p <;> rfl

theorem Phase.code_lt (p : Phase) : p.code < 2 := by cases p <;> decide

theorem flagNat_lt (b : Bool) : flagNat b < 2 := by cases b <;> decide

theorem flagNat_eq_one (b : Bool) : decide (flagNat b = 1) = b := by cases b <;> rfl

/-- A hole word reads back (ch. 12). -/
theorem holeWord_reads {hole top : Nat} (hh : hole ≤ Config.holeMax) (ht : top < 2) :
    holeWord hole top < 65536 ∧ holeWord hole top % 2048 = hole ∧ (holeWord hole top).testBit 15 = decide (top = 1) := by
  have hmax : hole ≤ 2047 := hh
  have hdiv : (hole % 2048 + 32768 * (top % 2)) / 2 ^ 15 % 2 = top := by omega
  refine ⟨?_, ?_, ?_⟩
  · unfold holeWord
    omega
  · unfold holeWord
    omega
  · rw [testBit_eq, holeWord, hdiv]

theorem decodeClaim_holeWord {hole : Nat} (hh : hole ≤ Config.holeMax) (p : Phase) :
    decodeClaim (holeWord hole p.code) = { hole := hole, phase := p } := by
  obtain ⟨-, hmod, hbit⟩ := holeWord_reads hh p.code_lt
  rw [decodeClaim, hmod, hbit, Phase.ofBit_code]

theorem atMost_of_le {v hi : Nat} (h : v ≤ hi) : atMost v hi = some v := if_pos h

/-! ### Contents read back (ch. 12, 12.1) -/

/-- The code and flag bytes of a PRESENCE. -/
theorem presenceFlags_read (a b c d : Bool) :
    let v := flagNat a + 2 * flagNat b + 4 * flagNat c + 8 * flagNat d
    v < 256 ^ 1 ∧ v.testBit 0 = a ∧ v.testBit 1 = b ∧ v.testBit 2 = c ∧ v.testBit 3 = d := by
  revert a b c d
  decide

theorem datumStatuses_read (a b : DatumStatus) :
    let v := a.code + 4 * b.code
    v < 256 ^ 1 ∧ DatumStatus.ofCode (bits v 1 0) = some a ∧ DatumStatus.ofCode (bits v 3 2) = some b := by
  cases a <;> cases b <;> decide

theorem WorkState.ofCode_code {w : WorkState} (h : sentState w = true) : w.code < 256 ^ 1 ∧ WorkState.ofCode w.code = some w := by
  revert h
  cases w <;> decide

theorem presenceClaimWord_reads {c : Option Claim} (h : (c.map claimFits).getD true = true) :
    presenceClaimWord c < 256 ^ 2
    ∧ (if (presenceClaimWord c).testBit 14 then some (decodeClaim (presenceClaimWord c)) else none) = c := by
  cases c with
  | none => decide
  | some c =>
    obtain ⟨hole, phase⟩ := c
    have hole_le : hole ≤ 2047 := of_decide_eq_true h
    have hp := phase.code_lt
    have hbit14 : (hole % 2048 + 32768 * (phase.code % 2) + 16384) / 2 ^ 14 % 2 = 1 := by omega
    have hbit15 : (hole % 2048 + 32768 * (phase.code % 2) + 16384) / 2 ^ 15 % 2 = phase.code := by omega
    have hmod : (hole % 2048 + 32768 * (phase.code % 2) + 16384) % 2048 = hole := by omega
    refine ⟨?_, ?_⟩
    · simp only [presenceClaimWord, claimWord, holeWord]
      omega
    · simp only [presenceClaimWord, claimWord, holeWord, decodeClaim, testBit_eq, hbit14, hbit15, hmod, decide_true, if_true,
        Phase.ofBit_code]

theorem decodePresence_encodePresence {p : Presence} (h : presenceFits p = true) : decodePresence (encodePresence p) = some p := by
  simp only [presenceFits, Bool.and_eq_true, decide_eq_true_eq] at h
  obtain ⟨⟨⟨⟨⟨hstate, hpos⟩, htarget⟩, hlow⟩, hhigh⟩, hclaim⟩ := h
  obtain ⟨hslt, hscode⟩ := WorkState.ofCode_code hstate
  obtain ⟨hflt, hf0, hf1, hf2, hf3⟩ := presenceFlags_read p.heldLeft p.heldRight p.requestedLeft p.requestedRight
  obtain ⟨hdlt, hdA, hdB⟩ := datumStatuses_read p.datumA p.datumB
  obtain ⟨hclt, hcword⟩ := presenceClaimWord_reads hclaim
  have fits : ∀ {v : Nat}, v ≤ Config.railMax → v < 256 ^ 3 := fun h => Nat.lt_of_le_of_lt h (by decide)
  simp (disch := simp) only [decodePresence, frameField_eq, encodePresence, List.append_assoc, field_append_left, field_append_right,
    toBytes_length, Nat.reduceSub, Nat.reduceAdd]
  rw [field_toBytes hslt, field_toBytes hflt, field_toBytes hdlt, field_toBytes (fits hpos), field_toBytes (fits htarget),
    field_toBytes (fits hlow), field_toBytes (fits hhigh), field_toBytes hclt, field_toBytes p.check.isLt, hscode, hf0, hf1, hf2, hf3,
    hdA, hdB, atMost_of_le hpos, atMost_of_le htarget, atMost_of_le hlow, atMost_of_le hhigh, hcword, BitVec.ofNat_toNat,
    BitVec.setWidth_eq]
  rfl

theorem decodeDatum_content {d : Datum} {r q : Nat} (hr : r ≤ Config.railMax) (hq : q ≤ Config.crossMax) (check : Word) :
    decodeDatum (Body.datum d r q check).content = some (.datum d r q check) := by
  have hd : datumCode d < 256 ^ 1 := by cases d <;> decide
  have hrlt : r < 256 ^ 3 := Nat.lt_of_le_of_lt hr (by decide)
  have hqlt : q < 256 ^ 2 := Nat.lt_of_le_of_lt hq (by decide)
  simp (disch := simp) only [decodeDatum, frameField_eq, Body.content, List.append_assoc, field_append_left, field_append_right,
    toBytes_length, Nat.reduceSub, Nat.reduceAdd]
  rw [field_toBytes hd, field_toBytes hrlt, field_toBytes hqlt, field_toBytes check.isLt, atMost_of_le hr, atMost_of_le hq,
    BitVec.ofNat_toNat, BitVec.setWidth_eq]
  cases d <;> rfl

/-- The outcome of a REPORT fits its byte. -/
theorem ReportOutcome.code_lt (o : ReportOutcome) : o.code < 256 ^ 1 := by
  cases o with
  | drilled => decide
  | set => decide
  | rejected c => cases c <;> decide

/-- The flag, ply and grip byte of a REPORT. -/
theorem reportByte7_reads (present : Bool) {plies grip : Nat} (hp : plies < 8) (hg : grip < 8) :
    let v := 128 * flagNat present + 16 * (plies % 8) + grip % 8
    v < 256 ^ 1 ∧ v.testBit 7 = present ∧ bits v 6 4 = plies ∧ bits v 2 0 = grip := by
  have hf := flagNat_lt present
  have hdiv : (128 * flagNat present + 16 * (plies % 8) + grip % 8) / 2 ^ 7 % 2 = flagNat present := by omega
  refine ⟨by omega, ?_, ?_, ?_⟩
  · rw [testBit_eq, hdiv, flagNat_eq_one]
  · simp only [bits, Nat.reduceAdd, Nat.reduceSub]
    omega
  · simp only [bits, Nat.reduceAdd, Nat.reduceSub]
    omega

theorem decodeReport_encodeReport {r : Report} (h : reportFits r = true) : decodeReport (encodeReport r) = some r := by
  obtain ⟨hole, phase, outcome, stack, plies, grip, peak, stroke⟩ := r
  simp only [reportFits, Bool.and_eq_true, decide_eq_true_eq] at h
  obtain ⟨⟨⟨⟨⟨hhole, hstack⟩, hplies⟩, hgrip⟩, hpeak⟩, hstroke⟩ := h
  obtain ⟨hwlt, -, -⟩ := holeWord_reads hhole phase.code_lt
  obtain ⟨hblt, hb7, hb64, hb20⟩ := reportByte7_reads stack.isSome hplies hgrip
  have hslt : stack.getD 0 < 256 ^ 2 := by
    cases stack with
    | none => decide
    | some v => exact of_decide_eq_true hstack
  have hplt : peak % 4096 * 4096 + stroke % 4096 < 256 ^ 3 := by omega
  have hpk : (peak % 4096 * 4096 + stroke % 4096) / 4096 = peak := by omega
  have hst : (peak % 4096 * 4096 + stroke % 4096) % 4096 = stroke := by omega
  simp (disch := simp) only [decodeReport, frameField_eq, encodeReport, List.append_assoc, field_append_left, field_append_right,
    toBytes_length, Nat.reduceSub, Nat.reduceAdd]
  rw [field_toBytes outcome.code_lt, field_toBytes hwlt, field_toBytes hslt, field_toBytes hblt, field_toBytes hplt, decodeClaim_holeWord hhole, hb7,
    hb64, hb20, hpk, hst]
  have hstack' : (if stack.isSome = true then some (stack.getD 0) else none) = stack := by cases stack <;> rfl
  rw [hstack']
  cases outcome with
  | drilled | set => rfl
  | rejected c => cases c <;> rfl

/-- The state and worker byte of a CORRECTION. -/
theorem correctionByte4_reads (st : HoleState) {worker : Nat} (hw : worker ≤ 8) :
    let v := 32 * st.code + worker % 16
    v < 256 ^ 1 ∧ HoleState.ofCode (bits v 7 5) = some st ∧ bits v 3 0 = worker := by
  have hc : st.code ≤ 5 := by cases st <;> decide
  have hst : bits (32 * st.code + worker % 16) 7 5 = st.code := by
    simp only [bits, Nat.reduceAdd, Nat.reduceSub]
    omega
  refine ⟨by omega, ?_, ?_⟩
  · rw [hst]
    cases st <;> rfl
  · simp only [bits, Nat.reduceAdd, Nat.reduceSub]
    omega

/-- The stack and grip byte of a CORRECTION. -/
theorem correctionByte7_reads (stack : Option Stack) {grip : Option Nat} (hg : (grip.map (fun g => decide (g < 8))).getD true = true) :
    let v := 128 * flagNat stack.isSome + 64 * ((stack.map (·.source.code)).getD 0) + 8 * flagNat grip.isSome + grip.getD 0 % 8
    v < 256 ^ 1 ∧ v.testBit 7 = stack.isSome ∧ v.testBit 6 = decide ((stack.map (·.source.code)).getD 0 = 1)
      ∧ (if v.testBit 3 then some (bits v 2 0) else none) = grip := by
  have hs := flagNat_lt stack.isSome
  have hgf := flagNat_lt grip.isSome
  have hsource : (stack.map (·.source.code)).getD 0 < 2 := by
    rcases stack with _ | ⟨v, _ | _⟩
    · exact Nat.zero_lt_two
    · exact Nat.zero_lt_two
    · exact Nat.one_lt_two
  have hgrip : grip.getD 0 < 8 := by
    cases grip with
    | none => decide
    | some g => exact of_decide_eq_true hg
  generalize hsc : (stack.map (·.source.code)).getD 0 = sc at *
  generalize hgd : grip.getD 0 = gd at *
  intro v
  have h7 : v / 2 ^ 7 % 2 = flagNat stack.isSome := by omega
  have h6 : v / 2 ^ 6 % 2 = sc := by omega
  have h3 : v / 2 ^ 3 % 2 = flagNat grip.isSome := by omega
  have h0 : bits v 2 0 = gd := by
    simp only [bits, Nat.reduceAdd, Nat.reduceSub]
    omega
  refine ⟨by omega, ?_, ?_, ?_⟩
  · rw [testBit_eq, h7, flagNat_eq_one]
  · rw [testBit_eq, h6]
  · rw [testBit_eq, h3, flagNat_eq_one, h0, ← hgd]
    cases grip <;> rfl

/-- The reject byte of a CORRECTION. -/
theorem correctionByte8_reads (r : Reject) :
    128 * r.phase.code + r.cause.code < 256 ^ 1
    ∧ (RejectCause.ofCode ((128 * r.phase.code + r.cause.code) % 16)).map
        (fun cause => some ({ cause, phase := Phase.ofBit ((128 * r.phase.code + r.cause.code).testBit 7) } : Reject)) = some (some r) := by
  obtain ⟨cause, phase⟩ := r
  cases cause <;> cases phase <;> decide

theorem decodeCorrection_encodeCorrection {m : CorrectionMsg} (h : correctionFits m = true) :
    decodeCorrection (encodeCorrection m) = some m := by
  obtain ⟨hole, rework, asserted, worker, stack, grip, reject⟩ := m
  simp only [correctionFits, Bool.and_eq_true, decide_eq_true_eq, beq_iff_eq] at h
  obtain ⟨⟨⟨⟨⟨hhole, hworker⟩, hstack⟩, hgrip⟩, hreject⟩, hrework⟩ := h
  obtain ⟨hwlt, hwmod, hwbit⟩ := holeWord_reads hhole (flagNat_lt rework)
  obtain ⟨h4lt, h4state, h4worker⟩ := correctionByte4_reads asserted hworker
  obtain ⟨h7lt, h7stack, h7source, h7grip⟩ := correctionByte7_reads stack hgrip
  have hslt : (stack.map (·.value)).getD 0 < 256 ^ 2 := by
    cases stack with
    | none => decide
    | some v => exact of_decide_eq_true hstack
  have hstack' : (if stack.isSome = true then
      some ({ value := (stack.map (·.value)).getD 0,
              source := if decide ((stack.map (·.source.code)).getD 0 = 1) then .gauge else .drill } : Stack) else none) = stack := by
    rcases stack with _ | ⟨v, _ | _⟩ <;> rfl
  rw [flagNat_eq_one] at hwbit
  simp (disch := simp) only [decodeCorrection, frameField_eq, encodeCorrection, List.append_assoc, field_append_left, field_append_right,
    toBytes_length, Nat.reduceSub, Nat.reduceAdd]
  rw [field_toBytes h4lt, field_toBytes hwlt, field_toBytes hslt, field_toBytes h7lt, hwmod, hwbit, h4state, h4worker, h7stack, h7source,
    h7grip, hstack', atMost_of_le hworker]
  have hguard : (rework && asserted != .planned && asserted != .drilled) = false := by
    simp only [Bool.or_eq_true, Bool.not_eq_true', decide_eq_true_eq] at hrework
    rcases hrework with (rfl | rfl) | rfl <;> simp
  simp only [Option.bind_eq_bind, Option.bind_some, hguard, Bool.false_eq_true, if_false]
  cases reject with
  | none =>
    have hne : asserted ≠ .rejected := by simpa using hreject
    rw [if_neg hne]
  | some r =>
    have heq : asserted = .rejected := by simpa using hreject
    obtain ⟨h8lt, h8⟩ := correctionByte8_reads r
    rw [if_pos heq]
    simp only [field_toBytes h8lt, h8, Option.bind_some]

theorem decodeZone_content (side : Side) (a : ZoneAction) : decodeZone (Body.zone side a).content = some (.zone side a) := by
  have hread : 128 * sideCode side + a.code < 256 ^ 1 ∧ (128 * sideCode side + a.code) % 4 = a.code
      ∧ (128 * sideCode side + a.code).testBit 7 = decide (side = .right) := by
    cases side <;> cases a <;> decide
  obtain ⟨hlt, hmod, hbit⟩ := hread
  have hfield : frameField (toBytes 1 (128 * sideCode side + a.code)) 2 2 = 128 * sideCode side + a.code := field_toBytes hlt
  unfold decodeZone Body.content
  simp only [hfield, hmod, hbit]
  cases side <;> cases a <;> simp [ZoneAction.code]

theorem decodeDraw_content (a : DrawAction) {amount hole : Nat} (ha : amount < 256) (hh : hole ≤ Config.holeMax) :
    decodeDraw (Body.draw a amount hole).content = some (.draw a amount hole) := by
  have hcode : a.code < 256 ^ 1 := by cases a <;> decide
  have hlt : hole < 256 ^ 2 := Nat.lt_of_le_of_lt hh (by decide)
  simp (disch := simp) only [decodeDraw, frameField_eq, Body.content, List.append_assoc, field_append_left, field_append_right,
    toBytes_length, Nat.reduceSub, Nat.reduceAdd]
  rw [field_toBytes hlt, atMost_of_le hh, field_toBytes hcode, field_toBytes (n := 1) ha]
  cases a <;> rfl

/-- Every content that the wire can carry is read back from its bytes. -/
theorem decodeBody_content {b : Body} (h : bodyFits b = true) : decodeBody b.kind b.content = some b := by
  cases b with
  | presence p => exact congrArg (Option.map Body.presence) (decodePresence_encodePresence h)
  | datum d r q c =>
    simp only [bodyFits, Bool.and_eq_true, decide_eq_true_eq] at h
    exact decodeDatum_content h.1 h.2 c
  | claim c | release c =>
    have hh : c.hole ≤ Config.holeMax := of_decide_eq_true h
    obtain ⟨hlt, -, -⟩ := holeWord_reads hh c.phase.code_lt
    simp only [decodeBody, Body.kind, Body.content, frameField_eq, claimWord]
    rw [field_toBytes hlt, decodeClaim_holeWord hh]
  | report r => exact congrArg (Option.map Body.report) (decodeReport_encodeReport h)
  | correction m => exact congrArg (Option.map Body.correction) (decodeCorrection_encodeCorrection h)
  | zone side a => exact decodeZone_content side a
  | draw a amount hole =>
    simp only [bodyFits, Bool.and_eq_true, decide_eq_true_eq] at h
    exact decodeDraw_content a h.1 h.2
  | owed => cases h

/-! ### A frame heard, from its row to its block (R55 to R59) -/

/-- Every row of a frame heard is the frame that it carries. -/
theorem exec_heardRow (b : Body) (frame : List Byte) (s : State) : exec (heardRow b frame) s = .next (s.hearFrame frame).settle := by
  cases b with
  | report r => cases ho : r.outcome <;> simp only [heardRow, ho] <;> rfl
  | correction m => cases hr : m.rework <;> simp only [heardRow, hr] <;> rfl
  | zone side a => cases a <;> rfl
  | draw a amount hole => cases a <;> rfl
  | _ => rfl

/-- A whole frame of another station on the line is dispatched by what it says, stamped first. -/
theorem State.hearFrame_frameBytes {s : State} {j : Nat} {b : Body} (hb : bodyFits b = true) (hs : s.ws.state.online = true)
    (hj : s.otherOnLine j) : s.hearFrame (frameBytes j b) = (s.heard (frameBytes j b)).dispatch j b := by
  obtain ⟨hone, height, hline, hother⟩ := hj
  have howed : b ≠ .owed := by rintro rfl; cases hb
  have hstamp : State.takeStamp { s with lc.rxBuffer := frameBytes j b, lc.quiet := some Config.frameEndRest }
      = s.heard (frameBytes j b) := rfl
  have honline : (s.heard (frameBytes j b)).ws.state.online = true := hs
  have hcfg : (s.heard (frameBytes j b)).cfg = s.cfg := rfl
  have hk : (s.heard (frameBytes j b)).k = s.k := rfl
  have hsender : (decide (j = 0) || decide (s.cfg.stations < j)) = false := by
    simp only [Bool.or_eq_false_iff, decide_eq_false_iff_not]
    omega
  unfold State.hearFrame
  simp only [crcChecks_frameBytes, Bool.not_true, Bool.false_eq_true, if_false, hstamp, honline, if_true]
  unfold State.receive
  simp only [splitFrame_frameBytes (show j < 16 by omega) howed, hcfg, hk, hsender, Bool.false_eq_true, if_false, hother,
    decodeBody_content hb]

/-! ### Frames on a hole (R12) -/

/-- A frame on a hole, from a station working to this plan, is HT's (R57, R58). -/
theorem State.dispatch_hole {s : State} {j n : Nat} {b : Body} (hn : b.hole? = some n) (hs : s.dispatches j) :
    s.dispatch j b = s.hearHole { sender := j, body := b, stamp := s.lc.stamp } := by
  obtain ⟨hactive, -, i, hi, hcheck⟩ := hs
  cases b with
  | presence | datum | zone | draw | owed => cases hn
  | claim | release | report | correction =>
    simp only [State.dispatch, State.planFilter, hi, hactive, hcheck, decide_true, Bool.and_self, if_true, State.dispatchKind]

theorem WorkState.online_of_active {w : WorkState} (h : w.active = true) : w.online = true := by
  revert h
  cases w <;> decide

/-- A frame on a hole heard from a station whose frames are dispatched comes to HT, stamped. -/
theorem exec_holeFrame {s : State} {j n : Nat} {b : Body} (hn : b.hole? = some n) (hb : bodyFits b = true) (hs : s.dispatches j) :
    exec (heardRow b (frameBytes j b)) s
      = .next ((s.heard (frameBytes j b)).hearHole { sender := j, body := b, stamp := s.lc.stamp + 1 }).settle := by
  have hs' : (s.heard (frameBytes j b)).dispatches j := hs
  rw [exec_heardRow, State.hearFrame_frameBytes hb (WorkState.online_of_active hs.1) hs.2.1, State.dispatch_hole hn hs']
  rfl

/-- Settles O39: HT applies the frame to the entry it names, or finds none. -/
theorem holeFramesMerge : Obligations.HoleFramesMerge := by
  intro j n b s hn hb hs
  rw [exec_holeFrame hn hb hs]
  have hk : (s.heard (frameBytes j b)).k = s.k := rfl
  refine ⟨fun e he hfree => ?_, fun he => ?_⟩
  · simp only [State.hearHole, State.applyToEntry, hn, State.heard_ht, he, hk, hfree, Bool.false_eq_true, if_false]
  · simp only [State.hearHole, hn, State.heard_ht, he]

end Sys2Proof.Machine
end

section
/-! PROOFS. What a PRESENCE leads to: the peer entry, demand, the configuration, the clearance checks, the claims. -/

namespace Sys2Proof.Machine

open Sys2Proof (Byte Word Data Stamp Datum Side Instr)

/-! ### What the passage to HALTED leaves alone -/

/-- The prober, and the CONFIG CONFLICT source: what no operation of the passage to HALTED touches. -/
def State.probeAndConflict (s : State) : Option Prober × Option SourceRecord := (s.pu.prober, s.eu.sources[13]?)

@[simp] theorem State.probeAndConflict_mk (s : State) (q : List Instr) (n fc : Nat) (l : Lines) (ps : PlanStore) (c : Option Setup)
    (ht : List HoleEntry) (lc : LinkController) (pt : PeerTable) (zc : ZoneController) (ws : WorkSelector) (cs : CycleSequencer)
    (ep : EffectorPort) (sa : StackAnalyser) (du : DrawUnit) (sp : ServicePort) :
    State.probeAndConflict ⟨q, n, fc, l, ps, c, ht, s.pu, lc, pt, zc, ws, cs, ep, sa, du, s.eu, sp⟩ = s.probeAndConflict := rfl

theorem State.LinkStep.probeAndConflict {s t : State} (h : s.LinkStep t) : t.probeAndConflict = s.probeAndConflict := by
  rw [State.probeAndConflict, h.pu, h.eu, State.probeAndConflict]

@[simp] theorem State.putEntry_probeAndConflict (n : Nat) (e : HoleEntry) (s : State) :
    (s.putEntry n e).probeAndConflict = s.probeAndConflict := by
  rw [State.putEntry_eq, State.probeAndConflict_mk]

@[simp] theorem State.offer_probeAndConflict (o : Owner) (b : Body) (s : State) :
    (s.offer o b).probeAndConflict = s.probeAndConflict := (State.offer_linkStep o b s).probeAndConflict

/-- A source other than CONFIG CONFLICT is raised. -/
theorem State.raise_probeAndConflict {e : EventSource} (he : e ≠ .configConflict) (s : State) :
    (s.raise e).probeAndConflict = s.probeAndConflict := by
  have hindex : e.index ≠ 13 := by
    revert he
    cases e <;> decide
  simp [State.probeAndConflict, State.raise_sources, hindex]

@[simp] theorem State.applyToEntry_probeAndConflict (h : Heard) (s : State) :
    (s.applyToEntry h).probeAndConflict = s.probeAndConflict := by
  unfold State.applyToEntry
  repeat' split
  all_goals simp

@[simp] theorem State.writeOutcome_probeAndConflict (c : Claim) (o : CycleOutcome) (frame : Bool) (s : State) :
    (s.writeOutcome c o frame).probeAndConflict = s.probeAndConflict := by
  have raised := @State.raise_probeAndConflict .holeRejected (by decide)
  unfold State.writeOutcome
  dsimp only
  repeat' split
  all_goals simp [raised]

@[simp] theorem State.endCycle_probeAndConflict (s : State) : s.endCycle.probeAndConflict = s.probeAndConflict := by
  have left : ∀ (l : List Heard) (t : State), (l.foldl (fun t h => t.applyToEntry h) t).probeAndConflict = t.probeAndConflict := by
    intro l
    induction l with
    | nil => exact fun t => rfl
    | cons h l ih => exact fun t => (ih _).trans (t.applyToEntry_probeAndConflict h)
  unfold State.endCycle
  dsimp only
  repeat' split
  all_goals simp [left]

@[simp] theorem State.haltCycle_probeAndConflict (s : State) : s.haltCycle.probeAndConflict = s.probeAndConflict := by
  have revert : ∀ n (t : State), (t.revertOwn n).probeAndConflict = t.probeAndConflict := by
    intro n t
    unfold State.revertOwn
    repeat' split
    all_goals simp
  unfold State.haltCycle
  dsimp only
  repeat' split
  all_goals simp [revert]

@[simp] theorem State.haltPort_probeAndConflict (s : State) : s.haltPort.probeAndConflict = s.probeAndConflict := by
  have lowered : ∀ t : State, t.lowerFlag.probeAndConflict = t.probeAndConflict := fun t => by rw [State.lowerFlag_eq]; rfl
  have placed : ∀ t : State, t.placeHalt.probeAndConflict = t.probeAndConflict := fun t => rfl
  unfold State.haltPort
  dsimp only
  split <;> simp [lowered, placed]

/-- Entry into HALTED (R170, R171) from any state but UNCONFIGURED leaves the station HALTED. -/
theorem State.enterHalted_work (src : FaultSource) (s : State) (h : s.ws.state ≠ .unconfigured) :
    (s.enterHalted src).ws.state = .halted := by
  unfold State.enterHalted
  split
  · assumption
  · exact absurd ‹_› h
  all_goals exact (State.offerOwed_linkStep _).work

@[simp] theorem State.enterHalted_probeAndConflict (src : FaultSource) (s : State) :
    (s.enterHalted src).probeAndConflict = s.probeAndConflict := by
  have owed := fun t => (State.offerOwed_linkStep t).probeAndConflict
  have zones := fun t => (State.noZones_linkStep t).probeAndConflict
  have cause : ∀ t : State, (t.recordCause src).probeAndConflict = t.probeAndConflict := fun t => rfl
  have link : ∀ t : State, t.linkHalt.probeAndConflict = t.probeAndConflict := fun t => rfl
  have work : ∀ w (t : State), (t.setWork w).probeAndConflict = t.probeAndConflict := fun w t => rfl
  unfold State.enterHalted
  dsimp only
  repeat' split
  all_goals simp [owed, zones, cause, link, work]

@[simp] theorem State.clearanceHalt_probeAndConflict (c : HaltCheck) (s : State) :
    (s.clearanceHalt c).probeAndConflict = s.probeAndConflict := by
  rw [State.clearanceHalt, State.enterHalted_probeAndConflict, State.raise_probeAndConflict (by decide)]

/-! ### Demand (R28) -/

theorem State.setProber_eq (st : ProberStatus) (t : Option Nat) (m : Option (Nat × Nat)) (s : State) :
    s.setProber st t m = { s with pu.prober := (s.setProber st t m).pu.prober } := by
  unfold State.setProber
  split <;> rfl

theorem State.proberDue_eq (s : State) : s.proberDue = { s with pu.prober := s.proberDue.pu.prober } := by
  unfold State.proberDue
  split
  · exact s.setProber_eq _ _ _
  · rfl

/-- Demand makes the prober due, or does nothing. -/
theorem State.demand_cases (p : Presence) (s : State) : s.demand p = s.proberDue ∨ s.demand p = s := by
  unfold State.demand
  split
  · exact ite_eq_or_eq _ _ _
  · exact .inr rfl

theorem State.demand_eq (p : Presence) (s : State) : s.demand p = { s with pu.prober := (s.demand p).pu.prober } := by
  rcases s.demand_cases p with h | h <;> rw [h]
  exact s.proberDue_eq

/-- A CURRENT prober becomes DUE, and every other one stays. -/
theorem State.proberDue_prober (s : State) :
    (s.proberStatus = some .current → s.proberDue.proberStatus = some .due)
    ∧ (s.proberStatus ≠ some .current → s.proberDue = s) := by
  refine ⟨fun h => ?_, fun h => if_neg h⟩
  rw [State.proberDue, if_pos h]
  unfold State.setProber
  split
  · rename_i hnone
    rw [State.proberStatus, hnone] at h
    cases h
  · rfl

/-- The datum of a prober that a PRESENCE shows the status of. -/
def Presence.datum (p : Presence) : Datum → DatumStatus
  | .a => p.datumA
  | .b => p.datumB

/-- Demand on a prober whose own record is held. -/
theorem State.demand_of_record {s : State} {d : Datum} {st : DatumStatus} {f : DatumFix} (hd : s.cfg.role.datum = some d)
    (hr : s.ownRecord = some ⟨st, some f⟩) (p : Presence) :
    s.demand p = if p.check = s.planCheck ∧ (p.state = .waiting ∨ p.state = .working) ∧ p.datum d ≠ .valid
      ∧ Config.probeRetry ≤ s.clock - f.time then s.proberDue else s := by
  have hcond : ∀ d' : DatumStatus, (decide (p.check = s.planCheck) && (p.state == .waiting || p.state == .working) && d' != .valid
      && decide (Config.probeRetry ≤ s.clock - f.time)) = true
      ↔ p.check = s.planCheck ∧ (p.state = .waiting ∨ p.state = .working) ∧ d' ≠ .valid
        ∧ Config.probeRetry ≤ s.clock - f.time := by
    simp [and_assoc]
  unfold State.demand
  rw [hd, hr]
  cases d <;> exact if_congr (hcond _) rfl rfl

theorem State.demand_of_no_record {s : State} (hr : s.ownRecord.bind (·.fix) = none) (p : Presence) : s.demand p = s := by
  unfold State.demand
  split
  · rename_i hsome
    rw [hsome] at hr
    cases hr
  · rfl

/-! ### The configuration (R63) -/

theorem State.evalConflict_conflict (s : State) :
    s.evalConflict.pt.conflict = (s.setup.isSome && (s.shortStretch || s.nonAdjacentOverlap)) := by
  unfold State.evalConflict
  dsimp only
  split <;> rfl

theorem State.evalConflict_eq (s : State) :
    s.evalConflict = { s with pt.conflict := s.evalConflict.pt.conflict, eu := s.evalConflict.eu } := by
  unfold State.evalConflict
  dsimp only
  split <;> rfl

/-- A conflict that begins raises CONFIG CONFLICT, once. -/
theorem State.evalConflict_source {s : State} {x : SourceRecord} (hx : s.eu.sources[13]? = some x) :
    s.evalConflict.eu.sources[13]? = some
      (if s.evalConflict.pt.conflict = true ∧ s.pt.conflict = false then x.raised (s.levels.getD 13 0) else x) := by
  rw [s.evalConflict_conflict]
  unfold State.evalConflict
  dsimp only
  generalize (s.setup.isSome && (s.shortStretch || s.nonAdjacentOverlap)) = now
  split_ifs with hraise hcond hcond
  · rw [State.raise_sources, List.getElem?_modify]
    simp [EventSource.index, hx]
    rfl
  · exact absurd (by simpa using hraise) hcond
  · exact absurd (by simpa using hcond) hraise
  · exact hx

/-- The stretch is short where its bounds, or the limits in their place, lie closer than the minimum gap. -/
theorem State.shortStretch_iff {s : State} {lower upper : Int} (hl : ∀ b, s.boundsNow .left = some b → lower = b.2)
    (hl' : s.boundsNow .left = none → lower = s.cfg.low) (hu : ∀ b, s.boundsNow .right = some b → upper = b.1)
    (hu' : s.boundsNow .right = none → upper = s.cfg.high) : s.shortStretch = true ↔ upper - lower < s.cfg.gap := by
  have hlower : ((s.boundsNow .left).map fun b => (b.2 : Int)).getD s.cfg.low = lower := by
    cases h : s.boundsNow .left with
    | none => exact (hl' h).symm
    | some b => exact (hl b h).symm
  have hupper : ((s.boundsNow .right).map fun b => (b.1 : Int)).getD s.cfg.high = upper := by
    cases h : s.boundsNow .right with
    | none => exact (hu' h).symm
    | some b => exact (hu b h).symm
  rw [State.shortStretch, ← hlower, ← hupper, decide_eq_true_eq]

theorem State.nonAdjacentOverlap_iff (s : State) :
    s.nonAdjacentOverlap = true ↔ ∃ j i, 1 ≤ j ∧ j ≤ 8 ∧ (j + 1 < s.k ∨ s.k + 1 < j) ∧ (s.peer j).info = some i
      ∧ i.low ≤ s.cfg.high ∧ s.cfg.low ≤ i.high := by
  unfold State.nonAdjacentOverlap
  simp only [List.any_eq_true, List.mem_range, Bool.and_eq_true, Bool.or_eq_true, decide_eq_true_eq]
  constructor
  · rintro ⟨n, hn, hfar, hover⟩
    cases hi : (s.peer (n + 1)).info with
    | none =>
      rw [hi] at hover
      cases hover
    | some i =>
      rw [hi, Bool.and_eq_true, decide_eq_true_eq, decide_eq_true_eq] at hover
      exact ⟨n + 1, i, by omega, by omega, hfar, hi, hover⟩
  · rintro ⟨j, i, hone, height, hfar, hi, hover⟩
    obtain ⟨n, rfl⟩ : ∃ n, j = n + 1 := ⟨j - 1, by omega⟩
    refine ⟨n, by omega, hfar, ?_⟩
    rw [hi, Bool.and_eq_true, decide_eq_true_eq, decide_eq_true_eq]
    exact hover

theorem State.cfg_congr {s t : State} (hsetup : t.setup = s.setup) : t.cfg = s.cfg := by rw [State.cfg, hsetup, State.cfg]

theorem State.peer_congr {s t : State} (hpeers : t.pt.peers = s.pt.peers) (j : Nat) : t.peer j = s.peer j := by
  rw [State.peer, hpeers, State.peer]

section
variable {s t : State} (hpeers : t.pt.peers = s.pt.peers) (hsetup : t.setup = s.setup)
include hpeers hsetup

theorem State.boundsNow_congr (side : Side) : t.boundsNow side = s.boundsNow side := by
  have hside : t.sideInfo side = s.sideInfo side := by
    simp only [State.sideInfo, State.cfg_congr hsetup, State.peer_congr hpeers]
  unfold State.boundsNow
  rw [hside, State.cfg_congr hsetup]

/-- The configuration conflicts by the limits, the peers and the setup alone (R63). -/
theorem State.conflict_congr : (t.shortStretch || t.nonAdjacentOverlap) = (s.shortStretch || s.nonAdjacentOverlap) := by
  have hshort : t.shortStretch = s.shortStretch := by
    rw [State.shortStretch, State.boundsNow_congr hpeers hsetup, State.boundsNow_congr hpeers hsetup, State.cfg_congr hsetup,
      State.shortStretch]
  have hover : t.nonAdjacentOverlap = s.nonAdjacentOverlap := by
    rw [Bool.eq_iff_iff, State.nonAdjacentOverlap_iff, State.nonAdjacentOverlap_iff]
    simp only [State.k, State.cfg_congr hsetup, State.peer_congr hpeers]
  rw [hshort, hover]

end

end Sys2Proof.Machine
end

section
/-! PROOFS. A PRESENCE heard: the clearance checks (R66, R67), the claims (R21), and the whole of what it does. -/

namespace Sys2Proof.Machine

open Sys2Proof (Byte Word Data Stamp Datum Side Instr)

/-! ### Clearance (R64 to R67) -/

theorem Setup.mem_neighbours_of_sideOf {c : Setup} {j : Nat} {side : Side} (h : c.sideOf j = some side) : j ∈ c.neighbours := by
  unfold Setup.sideOf at h
  split at h
  · simp [Setup.neighbours, *]
  · split at h
    · simp [Setup.neighbours, *]
    · cases h

/-- A neighbour too near or out of order fails the hard check. -/
theorem State.hardCheck_of_fails {s : State} {j : Nat} (hj : j ∈ s.cfg.neighbours)
    (h : s.hardGapFails j = true ∨ s.orderFails j = true) : ∃ c, s.hardCheck = some c := by
  unfold State.hardCheck
  split
  · exact ⟨_, rfl⟩
  · rename_i hnone
    rw [List.find?_eq_none] at hnone
    have horder := h.resolve_left (hnone j hj)
    cases hfind : s.cfg.neighbours.find? s.orderFails with
    | none => exact absurd horder (List.find?_eq_none.mp hfind j hj)
    | some i => exact ⟨_, rfl⟩

/-- The two hard checks against a neighbour that has been heard (R67). -/
theorem State.hardChecks_iff {s : State} {j : Nat} {i : PeerInfo} (hi : (s.peer j).info = some i) :
    (s.hardGapFails j = true ↔ max i.position s.own - min i.position s.own < s.cfg.hardGap)
    ∧ (s.orderFails j = true ↔ if j < s.k then s.own ≤ i.position else i.position ≤ s.own) := by
  constructor
  · rw [State.hardGapFails, hi, decide_eq_true_eq]
  · unfold State.orderFails
    rw [hi]
    dsimp only
    split_ifs <;> rw [decide_eq_true_eq]

/-- PT does not permit a path too near a neighbour that has been heard (R64, R65). -/
theorem State.not_permitted {s : State} {j : Nat} {i : PeerInfo} (hj : j ∈ s.cfg.neighbours) (hi : (s.peer j).info = some i) {t : Nat}
    (h : intervalGap (min s.own t, max s.own t) i.interval < s.cfg.gap) : s.permitted t = false := by
  rw [State.permitted, State.pathClear, List.all_eq_false]
  exact ⟨j, hj, by rw [hi]; simpa using h⟩

theorem State.permitted_congr {s t : State} (hpeers : t.pt.peers = s.pt.peers) (hsetup : t.setup = s.setup) (hep : t.ep = s.ep)
    (x : Nat) : t.permitted x = s.permitted x := by
  have hcfg := State.cfg_congr hsetup
  have hown : t.own = s.own := by rw [State.own, hcfg, hep, State.own]
  unfold State.permitted State.pathClear
  rw [hown, hcfg]
  exact congrArg (List.all _) (funext fun j => by rw [State.peer_congr hpeers])

/-- PT's checks of a TRAVEL change what CS holds of it and its interjection, and nothing else (R66). -/
theorem State.stopCycleTravel_eq (s : State) : s.stopCycleTravel = { s with cs := s.stopCycleTravel.cs } := by
  unfold State.stopCycleTravel
  split
  · split <;> rfl
  · rfl

theorem State.stopLoneTravel_eq (s : State) : s.stopLoneTravel = { s with cs := s.stopLoneTravel.cs } := by
  unfold State.stopLoneTravel
  split
  · split <;> rfl
  · rfl

theorem State.clearanceStop_eq (s : State) : s.clearanceStop = { s with cs := s.clearanceStop.cs } := by
  rw [State.clearanceStop, State.stopLoneTravel_eq, State.stopCycleTravel_eq]

/-- The check of a cycle's TRAVEL: stopped, once, where its path is not permitted. -/
theorem State.stopCycleTravel_stops {s : State} {cy : Cycle} {t : Nat} (hcy : s.cs.cycle = some cy) (ht : s.cycleTravel = some t)
    (he : cy.ending = none) (ha : cy.stopAsked = false) (hp : s.permitted t = false) :
    s.stopCycleTravel = { s with cs.cycle := some { cy with stopAsked := true }, cs.interject := some .stopMotion } := by
  simp [State.stopCycleTravel, hcy, ht, he, ha, hp]

theorem State.stopCycleTravel_rests {s : State}
    (h : ∀ cy t, s.cs.cycle = some cy → s.cycleTravel = some t → cy.ending ≠ none ∨ cy.stopAsked = true ∨ s.permitted t = true) :
    s.stopCycleTravel = s := by
  unfold State.stopCycleTravel
  split
  · rename_i cy t hcy ht
    have hcond : ¬ (cy.ending.isNone && !cy.stopAsked && !s.permitted t) = true := by
      rcases h cy t hcy ht with h | h | h <;> simp [h]
    rw [if_neg hcond]
  · rfl

theorem State.loneTravel_eq_some_iff {s : State} {l : Lone} (hl : s.cs.lone = some l) (t : Nat) :
    s.loneTravel = some t ↔ l.placed = true ∧ l.target = t := by
  rw [State.loneTravel, hl]
  simp

theorem State.stopLoneTravel_stops {s : State} {l : Lone} (hl : s.cs.lone = some l) (hplaced : l.placed = true)
    (he : l.ending = none) (ha : l.stopAsked = false) (hp : s.permitted l.target = false) :
    s.stopLoneTravel = { s with cs.lone := some { l with stopAsked := true }, cs.interject := some .stopMotion } := by
  have ht : s.loneTravel = some l.target := (State.loneTravel_eq_some_iff hl _).mpr ⟨hplaced, rfl⟩
  simp [State.stopLoneTravel, hl, ht, he, ha, hp]

theorem State.stopLoneTravel_rests {s : State}
    (h : ∀ l, s.cs.lone = some l → l.placed = true → l.ending ≠ none ∨ l.stopAsked = true ∨ s.permitted l.target = true) :
    s.stopLoneTravel = s := by
  unfold State.stopLoneTravel
  split
  · rename_i l t hl ht
    obtain ⟨hplaced, rfl⟩ := (State.loneTravel_eq_some_iff hl t).mp ht
    have hcond : ¬ (l.ending.isNone && !l.stopAsked && !s.permitted l.target) = true := by
      rcases h l hl hplaced with h | h | h <;> simp [h]
    rw [if_neg hcond]
  · rfl

/-- The cycle's check leaves the lone motion alone, and the lone motion's the cycle. -/
theorem State.stopCycleTravel_lone (s : State) : s.stopCycleTravel.cs.lone = s.cs.lone := by
  unfold State.stopCycleTravel
  split
  · split <;> rfl
  · rfl

theorem State.stopLoneTravel_cycle (s : State) : s.stopLoneTravel.cs.cycle = s.cs.cycle ∧
    (s.stopLoneTravel.cs.interject = s.cs.interject ∨ s.stopLoneTravel.cs.interject = some .stopMotion) := by
  unfold State.stopLoneTravel
  split
  · split
    · exact ⟨rfl, .inr rfl⟩
    · exact ⟨rfl, .inl rfl⟩
  · exact ⟨rfl, .inl rfl⟩

theorem State.stopCycleTravel_permitted (s : State) (x : Nat) : s.stopCycleTravel.permitted x = s.permitted x := by
  rw [State.stopCycleTravel_eq]
  exact State.permitted_congr rfl rfl rfl x

/-- A cycle's TRAVEL too near a neighbour is to be stopped (R66). -/
theorem State.clearanceStop_cycle {s : State} {cy : Cycle} {t : Nat} (hcy : s.cs.cycle = some cy) (ht : s.cycleTravel = some t)
    (he : cy.ending = none) (ha : cy.stopAsked = false) (hp : s.permitted t = false) :
    s.clearanceStop.cs.interject = some .stopMotion ∧ s.clearanceStop.cs.cycle = some { cy with stopAsked := true } := by
  obtain ⟨hcycle, hinterject⟩ := s.stopCycleTravel.stopLoneTravel_cycle
  rw [State.stopCycleTravel_stops hcy ht he ha hp] at hcycle hinterject
  rw [State.clearanceStop, State.stopCycleTravel_stops hcy ht he ha hp]
  exact ⟨hinterject.elim id id, hcycle⟩

/-- A lone motion's TRAVEL too near a neighbour is to be stopped (R66). -/
theorem State.clearanceStop_lone {s : State} {l : Lone} (hl : s.cs.lone = some l) (hplaced : l.placed = true)
    (he : l.ending = none) (ha : l.stopAsked = false) (hp : s.permitted l.target = false) :
    s.clearanceStop.cs.interject = some .stopMotion ∧ s.clearanceStop.cs.lone = some { l with stopAsked := true } := by
  have hl' : s.stopCycleTravel.cs.lone = some l := s.stopCycleTravel_lone.trans hl
  have hp' : s.stopCycleTravel.permitted l.target = false := (s.stopCycleTravel_permitted _).trans hp
  rw [State.clearanceStop, State.stopLoneTravel_stops hl' hplaced he ha hp']
  exact ⟨rfl, rfl⟩

/-- Travels that are ended, stopped already or permitted go on (R66). -/
theorem State.clearanceStop_rests {s : State}
    (hc : ∀ cy t, s.cs.cycle = some cy → s.cycleTravel = some t → cy.ending ≠ none ∨ cy.stopAsked = true ∨ s.permitted t = true)
    (hl : ∀ l, s.cs.lone = some l → l.placed = true → l.ending ≠ none ∨ l.stopAsked = true ∨ s.permitted l.target = true) :
    s.clearanceStop = s := by
  rw [State.clearanceStop, State.stopCycleTravel_rests hc, State.stopLoneTravel_rests hl]

/-! ### Claims (R21) -/

/-- What R21 makes of an entry: it reverts when its claimant j no longer names it. -/
def HoleEntry.reconciled (j : Nat) (claim : Option Claim) (n : Nat) (e : HoleEntry) : HoleEntry :=
  if e.claimedBy j && claim.map (·.hole) != some n then e.revert else e

/-- One entry's part in the reconciliation of claims. -/
def State.reconcileClaim (j : Nat) (claim : Option Claim) (s : State) (n : Nat) : State :=
  match s.ht[n]? with
  | none => s
  | some e => if e.claimedBy j && claim.map (·.hole) != some n then s.putEntry n e.revert else s

theorem State.reconcileClaims_eq (j : Nat) (claim : Option Claim) (s : State) :
    s.reconcileClaims j claim
      = if s.beyondPlan claim then s else (List.range s.ht.length).foldl (State.reconcileClaim j claim) s := rfl

theorem State.reconcileClaim_ht (j : Nat) (claim : Option Claim) (s : State) (n m : Nat) :
    (s.reconcileClaim j claim n).ht[m]? = if m = n then (s.ht[m]?).map (HoleEntry.reconciled j claim m) else s.ht[m]? := by
  unfold State.reconcileClaim
  cases he : s.ht[n]? with
  | none =>
    split_ifs with hm
    · rw [hm, he]
      rfl
    · rfl
  | some e =>
    obtain ⟨hlen, -⟩ := List.getElem?_eq_some_iff.mp he
    by_cases hm : m = n
    · subst hm
      rw [if_pos rfl, he, Option.map_some, HoleEntry.reconciled]
      dsimp only
      split_ifs
      · rw [State.putEntry_ht, List.getElem?_set_self hlen]
      · exact he
    · rw [if_neg hm]
      dsimp only
      split_ifs
      · rw [State.putEntry_ht, List.getElem?_set_ne (Ne.symm hm)]
      · rfl

theorem State.reconcileClaim_eq (j : Nat) (claim : Option Claim) (s : State) (n : Nat) :
    s.reconcileClaim j claim n
      = { s with ht := (s.reconcileClaim j claim n).ht, ws.retest := (s.reconcileClaim j claim n).ws.retest } := by
  unfold State.reconcileClaim
  split
  · rfl
  · split
    · rw [State.putEntry_eq]
    · rfl

theorem State.reconcileClaims_foldl (j : Nat) (claim : Option Claim) (l : List Nat) (hl : l.Nodup) (s : State) :
    (∀ m, (l.foldl (State.reconcileClaim j claim) s).ht[m]?
      = if m ∈ l then (s.ht[m]?).map (HoleEntry.reconciled j claim m) else s.ht[m]?)
    ∧ l.foldl (State.reconcileClaim j claim) s
      = { s with ht := (l.foldl (State.reconcileClaim j claim) s).ht,
                 ws.retest := (l.foldl (State.reconcileClaim j claim) s).ws.retest } := by
  induction l generalizing s with
  | nil => exact ⟨fun m => rfl, rfl⟩
  | cons n l ih =>
    obtain ⟨hn, hl⟩ := List.nodup_cons.mp hl
    obtain ⟨hht, heq⟩ := ih hl (s.reconcileClaim j claim n)
    refine ⟨fun m => ?_, ?_⟩
    · rw [List.foldl_cons, hht, State.reconcileClaim_ht]
      by_cases hm : m = n
      · subst hm
        simp [hn]
      · simp [hm]
    · rw [List.foldl_cons, heq, State.reconcileClaim_eq]

/-- The claims a PRESENCE keeps: with its claim a hole of the plan or none, every entry is reconciled. -/
theorem State.reconcileClaims_ht {s : State} {claim : Option Claim} (h : ∀ c, claim = some c → c.hole < s.ht.length) (j n : Nat) :
    (s.reconcileClaims j claim).ht[n]? = (s.ht[n]?).map (HoleEntry.reconciled j claim n) := by
  have hbeyond : s.beyondPlan claim = false := by
    cases claim with
    | none => rfl
    | some c => simpa [State.beyondPlan] using h c rfl
  rw [State.reconcileClaims_eq, hbeyond, if_neg Bool.false_ne_true,
    (State.reconcileClaims_foldl j claim _ List.nodup_range s).1]
  split_ifs with hn
  · rfl
  · rw [List.getElem?_eq_none (by simpa using hn)]
    rfl

/-- A claim on a hole that the plan does not have leaves HT as it is (R12). -/
theorem State.reconcileClaims_beyond {s : State} {c : Claim} (h : s.ht.length ≤ c.hole) (j : Nat) :
    s.reconcileClaims j (some c) = s := if_pos (by simpa [State.beyondPlan] using h)

theorem State.reconcileClaims_frame (j : Nat) (claim : Option Claim) (s : State) :
    s.reconcileClaims j claim = { s with ht := (s.reconcileClaims j claim).ht, ws.retest := (s.reconcileClaims j claim).ws.retest } := by
  rw [State.reconcileClaims_eq]
  split
  · rfl
  · exact (State.reconcileClaims_foldl j claim _ List.nodup_range s).2

/-- An entry equal to another but for its owed correction is reconciled to the same state and claimant. -/
theorem HoleEntry.reconciled_state {e e' : HoleEntry} (h : e'.unowed = e.unowed) (j n : Nat) (claim : Option Claim) :
    (e.claimedBy j = true → claim.map (·.hole) ≠ some n →
      (e'.reconciled j claim n).state = e.revert.state ∧ (e'.reconciled j claim n).claimant = none)
    ∧ (e.claimedBy j = false ∨ claim.map (·.hole) = some n →
      (e'.reconciled j claim n).state = e.state ∧ (e'.reconciled j claim n).claimant = e.claimant) := by
  have hstate : e'.unowed.state = e.unowed.state := congrArg HoleEntry.state h
  have hclaimant : e'.unowed.claimant = e.unowed.claimant := congrArg HoleEntry.claimant h
  simp only [HoleEntry.unowed] at hstate hclaimant
  have hclaimed : e'.claimedBy j = e.claimedBy j := by rw [HoleEntry.claimedBy, hstate, hclaimant, HoleEntry.claimedBy]
  unfold HoleEntry.reconciled
  rw [hclaimed]
  refine ⟨fun hby hne => ?_, fun hnot => ?_⟩
  · have hcond : (e.claimedBy j && claim.map (·.hole) != some n) = true := by simp [hby, hne]
    have hform : e.state = .drillClaimed ∨ e.state = .setClaimed := by
      rw [HoleEntry.claimedBy, Bool.and_eq_true] at hby
      cases hs : e.state <;> simp_all [HoleState.claimed]
    rw [if_pos hcond]
    rcases hform with hs | hs <;> simp [HoleEntry.revert, hstate, hs]
  · have hcond : ¬ (e.claimedBy j && claim.map (·.hole) != some n) = true := by
      rcases hnot with h | h <;> simp [h]
    rw [if_neg hcond]
    exact ⟨hstate, hclaimant⟩

end Sys2Proof.Machine
end

section
/-! PROOFS. A PRESENCE heard, as a whole. -/

namespace Sys2Proof.Machine

open Sys2Proof (Byte Word Data Stamp Datum Side Instr)

/-! ### Up to the clearance checks -/

/-- A PRESENCE at PT and at PU (R57, R60, R28). -/
def State.presenceHeard (j : Nat) (p : Presence) (s : State) : State :=
  ((s.planMismatch j p).setPeer j (peerOf p (s.planMismatch j p).clock)).demand p

/-- Then at ZC's bounds, and the configuration evaluated (R68, R63): the station as the clearance checks find it. -/
def State.presenceApplied (j : Nat) (p : Presence) (s : State) : State :=
  State.evalConflict (match s.cfg.sideOf j with
    | some side => (s.presenceHeard j p).rebound side
    | none => s.presenceHeard j p)

theorem State.planMismatch_eq (j : Nat) (p : Presence) (s : State) :
    s.planMismatch j p = { s with eu := (s.planMismatch j p).eu }
    ∧ (s.planMismatch j p).eu.sources[13]? = s.eu.sources[13]? := by
  unfold State.planMismatch
  dsimp only
  split
  · exact ⟨rfl, congrArg Prod.snd (State.raise_probeAndConflict (e := .planMismatch) (by decide) s)⟩
  · exact ⟨rfl, rfl⟩

/-- What the station is as the clearance checks find it, beside the station before. -/
structure State.PresenceApplied (j : Nat) (p : Presence) (s t : State) : Prop where
  clock : t.clock = s.clock
  ps : t.ps = s.ps
  setup : t.setup = s.setup
  work : t.ws.state = s.ws.state
  cs : t.cs = s.cs
  ep : t.ep = s.ep
  peers : t.pt.peers = s.pt.peers.set (j - 1) (peerOf p s.clock)
  conflict : t.pt.conflict = (s.setup.isSome && (t.shortStretch || t.nonAdjacentOverlap))
  prober : t.pu.prober = (s.demand p).pu.prober
  source : ∀ x, s.eu.sources[13]? = some x → t.eu.sources[13]? = some
    (if t.pt.conflict = true ∧ s.pt.conflict = false then x.raised (s.levels.getD 13 0) else x)
  unowed_ht : t.ht.map HoleEntry.unowed = s.ht.map HoleEntry.unowed

theorem State.proberDue_prober_congr {s t : State} (hpu : t.pu.prober = s.pu.prober) :
    t.proberDue.pu.prober = s.proberDue.pu.prober := by
  unfold State.proberDue State.setProber State.proberStatus
  rw [hpu]
  split_ifs
  · split <;> simp_all
  · exact hpu

/-- Demand sees the prober, the records, the setup, the plan check and the clock alone. -/
theorem State.demand_prober_congr {s t : State} (hpu : t.pu = s.pu) (hsetup : t.setup = s.setup) (hps : t.ps = s.ps)
    (hclock : t.clock = s.clock) (p : Presence) : (t.demand p).pu.prober = (s.demand p).pu.prober := by
  have hcfg := State.cfg_congr hsetup
  have hrecord : t.ownRecord = s.ownRecord := by
    unfold State.ownRecord
    rw [hcfg, hpu]
  have hprober : t.pu.prober = s.pu.prober := congrArg _ hpu
  cases hd : s.cfg.role.datum with
  | none =>
    have hr : s.ownRecord.bind (·.fix) = none := by rw [State.ownRecord, hd]; rfl
    rw [State.demand_of_no_record hr, State.demand_of_no_record (by rw [hrecord, hr]), hprober]
  | some d =>
    have hr : s.ownRecord = some (s.pu.record d) := by rw [State.ownRecord, hd]; rfl
    obtain ⟨st, fix, hrec⟩ : ∃ st fix, s.pu.record d = ⟨st, fix⟩ := ⟨_, _, rfl⟩
    rw [hrec] at hr
    cases fix with
    | none =>
      have hnone : s.ownRecord.bind (·.fix) = none := by rw [hr]; rfl
      rw [State.demand_of_no_record hnone, State.demand_of_no_record (by rw [hrecord, hnone]), hprober]
    | some f =>
      have hcheck : t.planCheck = s.planCheck := by rw [State.planCheck, hps, State.planCheck]
      rw [State.demand_of_record hd hr, State.demand_of_record (hcfg ▸ hd) (hrecord.trans hr), hcheck, hclock]
      split_ifs
      · exact State.proberDue_prober_congr hprober
      · exact hprober

/-- The station after PT and PU have had a PRESENCE. -/
theorem State.presenceHeard_eq (j : Nat) (p : Presence) (s : State) :
    s.presenceHeard j p
      = { s with eu := (s.planMismatch j p).eu
                 pt.peers := s.pt.peers.set (j - 1) (peerOf p s.clock)
                 pu.prober := (s.demand p).pu.prober } := by
  rw [State.presenceHeard, State.demand_eq, (s.planMismatch_eq j p).1,
    State.demand_prober_congr (s := s) (by rfl) (by rfl) (by rfl) (by rfl)]
  rfl

theorem State.evalConflict_applied {j : Nat} {p : Presence} {s d : State} {eu : EventUnit}
    (hsrc : eu.sources[13]? = s.eu.sources[13]?)
    (h : State.LinkStep
      { s with eu := eu
               pt.peers := s.pt.peers.set (j - 1) (peerOf p s.clock)
               pu.prober := (s.demand p).pu.prober } d) : s.PresenceApplied j p d.evalConflict := by
  have heq := d.evalConflict_eq
  have hpeers : d.evalConflict.pt.peers = d.pt.peers := by rw [heq]
  have hsetup : d.evalConflict.setup = d.setup := by rw [heq]
  have hconflict : d.pt.conflict = s.pt.conflict := by rw [h.pt]
  have hlevels : d.levels = s.levels := by rw [State.levels, h.setup, State.levels]
  constructor
  · rw [heq]; exact h.clock
  · rw [heq]; exact h.ps
  · exact hsetup.trans h.setup
  · rw [heq]; exact h.work
  · rw [heq]; exact h.cs
  · rw [heq]; exact h.ep
  · rw [hpeers, h.pt]
  · rw [State.conflict_congr hpeers hsetup, State.evalConflict_conflict, h.setup]
  · rw [heq]
    dsimp only
    rw [h.pu]
  · intro x hx
    rw [State.evalConflict_source (by rw [h.eu, hsrc, hx]), hconflict, hlevels]
  · rw [heq]; exact h.unowed_ht

theorem State.presenceApplied_spec (j : Nat) (p : Presence) (s : State) : s.PresenceApplied j p (s.presenceApplied j p) := by
  rw [State.presenceApplied, State.presenceHeard_eq]
  refine State.evalConflict_applied (s.planMismatch_eq j p).2 ?_
  split
  · exact State.rebound_linkStep _ _
  · exact .refl _

end Sys2Proof.Machine
end

section
/-! PROOFS. What a PRESENCE leads to, clause by clause. -/

namespace Sys2Proof.Machine

open Sys2Proof (Byte Word Data Stamp Datum Side Instr)

/-! ### The clearance checks, and what follows them -/

/-- The clearance checks of a PRESENCE are made of a neighbour alone (R66, R67). -/
def State.presenceChecked (j : Nat) (p : Presence) (s : State) : State :=
  if (s.cfg.sideOf j).isSome then (s.presenceApplied j p).clearanceChecks else s.presenceApplied j p

theorem State.presenceHeard_cfg (j : Nat) (p : Presence) (s : State) : (s.presenceHeard j p).cfg = s.cfg := by
  rw [State.presenceHeard_eq]
  rfl

/-- A PRESENCE ends with the checks where they halt the station, else with ZC's zone and HT's claims (R84, R21). -/
theorem State.hearPresence_eq (j : Nat) (p : Presence) (s : State) :
    ((s.presenceChecked j p).ws.state = .halted → s.hearPresence j p = s.presenceChecked j p)
    ∧ ((s.presenceChecked j p).ws.state ≠ .halted → ∃ g, State.LinkStep (s.presenceChecked j p) g
        ∧ s.hearPresence j p = if s.planFilter j (.presence p) then g.reconcileClaims j p.claim else g) := by
  have hheard : ((s.planMismatch j p).setPeer j (peerOf p (s.planMismatch j p).clock)).demand p = s.presenceHeard j p := rfl
  have hcfg := s.presenceHeard_cfg j p
  have happlied : (s.presenceApplied j p).cfg = s.cfg := State.cfg_congr (s.presenceApplied_spec j p).setup
  have hchecked : (s.presenceApplied j p).clearanceChecks.cfg = s.cfg :=
    (State.cfg_congr (State.setup_of_base (State.clearanceChecks_base _))).trans happlied
  unfold State.hearPresence State.presenceChecked
  rw [State.presenceApplied] at happlied hchecked ⊢
  dsimp only
  rw [hheard, hcfg]
  cases hside : s.cfg.sideOf j with
  | none =>
    simp only [hside] at happlied
    simp only [happlied, hside, Option.isSome_none, Bool.false_eq_true, if_false]
    exact ⟨fun h => if_pos h, fun h => ⟨_, .refl _, if_neg h⟩⟩
  | some side =>
    simp only [hside] at happlied hchecked
    simp only [happlied, hchecked, hside, Option.isSome_some, if_true]
    refine ⟨fun h => if_pos h, fun h => ⟨_, ?_, if_neg h⟩⟩
    split
    · exact .refl _
    · exact State.reconcileZone_linkStep side _

theorem State.presenceApplied_work_online {s : State} (hs : s.ws.state.online = true) (j : Nat) (p : Presence) :
    (s.presenceApplied j p).ws.state ≠ .unconfigured ∧ (s.presenceApplied j p).ws.state ≠ .halted := by
  rw [(s.presenceApplied_spec j p).work]
  constructor <;> rintro h <;> rw [h] at hs <;> cases hs

/-- What a PRESENCE ends in: the halt of a hard check; or the clearance stop of a neighbour's PRESENCE, ZC's zone, HT's claims. -/
theorem State.hearPresence_ends {s : State} (hs : s.ws.state.online = true) (j : Nat) (p : Presence) :
    (∃ c, s.hearPresence j p = (s.presenceApplied j p).clearanceHalt c ∧ (s.hearPresence j p).ws.state = .halted)
    ∨ ((s.hearPresence j p).ws.state ≠ .halted
      ∧ ((s.cfg.sideOf j).isSome → s.ws.state.active = true → (s.presenceApplied j p).hardCheck = none)
      ∧ ∃ g, State.LinkStep (if (s.cfg.sideOf j).isSome then (s.presenceApplied j p).clearanceStop else s.presenceApplied j p) g
        ∧ s.hearPresence j p = if s.planFilter j (.presence p) then g.reconcileClaims j p.claim else g) := by
  obtain ⟨hset, hrun⟩ := State.presenceApplied_work_online hs j p
  have hwork := (s.presenceApplied_spec j p).work
  have hgo : ∀ e, e.ws.state ≠ .halted → s.presenceChecked j p = e → (s.hearPresence j p).ws.state ≠ .halted
      ∧ ∃ g, State.LinkStep e g ∧ s.hearPresence j p = if s.planFilter j (.presence p) then g.reconcileClaims j p.claim else g := by
    rintro e he rfl
    obtain ⟨g, hg, hu⟩ := (s.hearPresence_eq j p).2 he
    refine ⟨?_, g, hg, hu⟩
    rw [hu]
    split
    · rw [State.reconcileClaims_frame]
      exact hg.work ▸ he
    · exact hg.work ▸ he
  have hstop : (s.presenceApplied j p).clearanceStop.ws.state ≠ .halted := by
    rw [State.clearanceStop_eq]
    exact hrun
  cases hside : (s.cfg.sideOf j).isSome with
  | false =>
    obtain ⟨hnot, hg⟩ := hgo _ hrun (by rw [State.presenceChecked, hside]; rfl)
    exact .inr ⟨hnot, fun h => absurd h Bool.false_ne_true, hg⟩
  | true =>
    have hchecked : s.presenceChecked j p = (s.presenceApplied j p).clearanceChecks := by rw [State.presenceChecked, hside]; rfl
    cases hcheck : (if (s.presenceApplied j p).ws.state.active then (s.presenceApplied j p).hardCheck else none) with
    | some c =>
      have hhalt : s.presenceChecked j p = (s.presenceApplied j p).clearanceHalt c := by
        rw [hchecked, State.clearanceChecks, hcheck]
      have hhalted : (s.presenceChecked j p).ws.state = .halted := by
        rw [hhalt]
        exact State.enterHalted_work _ _ hset
      have hu := (s.hearPresence_eq j p).1 hhalted
      exact .inl ⟨c, hu.trans hhalt, by rw [hu, hhalted]⟩
    | none =>
      obtain ⟨hnot, hg⟩ := hgo _ hstop (by rw [hchecked, State.clearanceChecks, hcheck])
      refine .inr ⟨hnot, fun _ hactive => ?_, hg⟩
      rw [hwork, hactive] at hcheck
      exact hcheck

/-! ### What stands at the end as the configuration check left it -/

/-- A station that the checks have not halted has its cycle, its zones, its entries and its retest changed since the configuration
check, and nothing else. -/
theorem State.hearPresence_runs {b b' : Bool} {j : Nat} {claim : Option Claim} {e g u : State}
    (hg : State.LinkStep (if b then e.clearanceStop else e) g) (hu : u = if b' then g.reconcileClaims j claim else g) :
    u = { e with lc := u.lc, zc := u.zc, ht := u.ht, ws.retest := u.ws.retest, cs := u.cs }
    ∧ u.cs = (if b then e.clearanceStop else e).cs := by
  have hchecked : (if b then e.clearanceStop else e) = { e with cs := (if b then e.clearanceStop else e).cs } := by
    split
    · exact e.clearanceStop_eq
    · rfl
  have hclaims : u = { g with ht := u.ht, ws.retest := u.ws.retest } := by
    rw [hu]
    split
    · exact State.reconcileClaims_frame j claim g
    · rfl
  have hcs : u.cs = (if b then e.clearanceStop else e).cs := by
    rw [hclaims]
    exact hg.cs
  refine ⟨?_, hcs⟩
  rw [hclaims, hg.frame, hchecked]

theorem State.hearPresence_after {s : State} (hs : s.ws.state.online = true) (j : Nat) (p : Presence) :
    (s.hearPresence j p).probeAndConflict = (s.presenceApplied j p).probeAndConflict
    ∧ (s.hearPresence j p).pt.peers = (s.presenceApplied j p).pt.peers
    ∧ (s.hearPresence j p).pt.conflict = (s.presenceApplied j p).pt.conflict
    ∧ (s.hearPresence j p).setup = (s.presenceApplied j p).setup := by
  rcases State.hearPresence_ends hs j p with ⟨c, hu, -⟩ | ⟨-, -, g, hg, hu⟩
  · rw [hu]
    have hkept := State.clearanceHalt_kept c (s.presenceApplied j p)
    exact ⟨State.clearanceHalt_probeAndConflict c _, congrArg Kept.peers hkept, congrArg Kept.conflict hkept,
      congrArg Kept.setup hkept⟩
  · rw [(State.hearPresence_runs hg hu).1]
    exact ⟨rfl, rfl, rfl, rfl⟩

section
variable {s : State} (hs : s.ws.state.online = true) (j : Nat) (p : Presence)
include hs

/-- The configuration is evaluated anew (R63). -/
theorem State.hearPresence_conflict (hset : s.setup ≠ none) :
    (s.hearPresence j p).pt.conflict = ((s.hearPresence j p).shortStretch || (s.hearPresence j p).nonAdjacentOverlap) := by
  obtain ⟨-, hpeers, hconflict, hsetup⟩ := State.hearPresence_after hs j p
  rw [hconflict, (s.presenceApplied_spec j p).conflict, State.conflict_congr hpeers hsetup, Option.isSome_iff_ne_none.mpr hset,
    Bool.true_and]

/-- A conflict that begins raises CONFIG CONFLICT, and nothing else does (R63). -/
theorem State.hearPresence_source {x : SourceRecord} (hx : s.eu.sources[13]? = some x) :
    (s.hearPresence j p).eu.sources[13]? = if (s.hearPresence j p).pt.conflict = true ∧ s.pt.conflict = false then
      some (x.raised (s.levels.getD 13 0)) else some x := by
  obtain ⟨hpc, -, hconflict, -⟩ := State.hearPresence_after hs j p
  have hsource : (s.hearPresence j p).eu.sources[13]? = (s.presenceApplied j p).eu.sources[13]? := congrArg Prod.snd hpc
  rw [hsource, (s.presenceApplied_spec j p).source x hx, hconflict]
  split_ifs <;> rfl

/-- The prober is what demand makes of it (R28). -/
theorem State.hearPresence_prober : (s.hearPresence j p).pu.prober = (s.demand p).pu.prober :=
  (congrArg Prod.fst (State.hearPresence_after hs j p).1).trans (s.presenceApplied_spec j p).prober

/-- Demand on a prober that has its own record (R28). -/
theorem State.hearPresence_demand {d : Datum} {st : DatumStatus} {f : DatumFix} (hd : s.cfg.role.datum = some d)
    (hr : s.ownRecord = some ⟨st, some f⟩) :
    (s.proberStatus = some .current → p.check = s.planCheck → p.state = .waiting ∨ p.state = .working → p.datum d ≠ .valid →
      10000 ≤ s.clock - f.time → (s.hearPresence j p).proberStatus = some .due)
    ∧ (s.proberStatus ≠ some .current ∨ p.check ≠ s.planCheck ∨ s.clock - f.time < 10000 ∨ p.datum d = .valid
        ∨ (p.state ≠ .waiting ∧ p.state ≠ .working) → (s.hearPresence j p).pu.prober = s.pu.prober) := by
  obtain ⟨hdue, hkept⟩ := s.proberDue_prober
  have hprober := State.hearPresence_prober hs j p
  rw [State.demand_of_record hd hr] at hprober
  have hretry : Config.probeRetry = 10000 := rfl
  constructor
  · intro hcurrent hcheck hstate hlacks hage
    rw [if_pos ⟨hcheck, hstate, hlacks, hage⟩] at hprober
    rw [← hdue hcurrent, State.proberStatus, hprober, State.proberStatus]
  · intro hnot
    rw [hprober]
    split_ifs with hcond
    · obtain ⟨hcheck, hstate, hlacks, hage⟩ := hcond
      have hother : s.proberStatus ≠ some .current := by
        rcases hnot with h | h | h | h | ⟨hwait, hwork⟩
        · exact h
        · exact absurd hcheck h
        · omega
        · exact absurd h hlacks
        · exact absurd hstate (not_or_intro hwait hwork)
      rw [hkept hother]
    · rfl

theorem State.hearPresence_no_demand (hr : s.ownRecord.bind (·.fix) = none) : (s.hearPresence j p).pu.prober = s.pu.prober := by
  rw [State.hearPresence_prober hs, State.demand_of_no_record hr]

end

/-! ### Clearance -/

theorem State.cycleTravel_congr {s t : State} (hcs : t.cs = s.cs) : t.cycleTravel = s.cycleTravel := by
  unfold State.cycleTravel
  rw [hcs]

/-- What the checks compare: the sender's entry, the own position and the setup. -/
theorem State.presenceApplied_view {j : Nat} {s : State} (htables : s.tablesWhole) (hj : j ≤ 8) (hone : 1 ≤ j) (p : Presence) :
    ((s.presenceApplied j p).peer j).info = (peerOf p s.clock).info ∧ (s.presenceApplied j p).cfg = s.cfg
    ∧ (s.presenceApplied j p).own = s.own := by
  have hspec := s.presenceApplied_spec j p
  have hcfg := State.cfg_congr hspec.setup
  refine ⟨?_, hcfg, by rw [State.own, hcfg, hspec.ep, State.own]⟩
  have hpeers : (s.presenceApplied j p).pt.peers = (s.setPeer j (peerOf p s.clock)).pt.peers := hspec.peers
  rw [State.peer_congr hpeers, State.setPeer_peer _ _ _ (by rw [htables.1]; omega)]

section
variable {s : State} {j : Nat} (hs : s.ws.state.online = true) (htables : s.tablesWhole) (hj : s.otherOnLine j)
  {side : Side} (hside : s.cfg.sideOf j = some side) {p : Presence}
include hs htables hj hside

/-- A neighbour too near or out of order halts the station (R67). -/
theorem State.hearPresence_halts (hactive : s.ws.state.active = true)
    (h : max p.position s.own - min p.position s.own < s.cfg.hardGap ∨ (j < s.k ∧ s.own ≤ p.position)
      ∨ (s.k < j ∧ p.position ≤ s.own)) : (s.hearPresence j p).ws.state = .halted := by
  obtain ⟨hone, height, -, -⟩ := hj
  obtain ⟨hinfo, hcfg, hown⟩ := State.presenceApplied_view htables height hone p
  rcases State.hearPresence_ends hs j p with ⟨c, -, hhalted⟩ | ⟨-, hclear, -⟩
  · exact hhalted
  · obtain ⟨hgap, horder⟩ := State.hardChecks_iff hinfo
    have hmem : j ∈ (s.presenceApplied j p).cfg.neighbours := by
      rw [hcfg]
      exact Setup.mem_neighbours_of_sideOf hside
    obtain ⟨c, hc⟩ := State.hardCheck_of_fails hmem (by
      have hk : (s.presenceApplied j p).k = s.k := congrArg Setup.station hcfg
      rw [hgap, horder, hown, hcfg, hk]
      rcases h with h | ⟨hlow, h⟩ | ⟨hhigh, h⟩
      · exact .inl h
      · exact .inr (by rw [if_pos hlow]; exact h)
      · exact .inr (by rw [if_neg (Nat.lt_asymm hhigh)]; exact h))
    rw [hclear (by rw [hside]; rfl) hactive] at hc
    cases hc

/-- The clearance stop stands at the end, made of the sender's new entry (R66). -/
theorem State.hearPresence_stop (hrun : (s.hearPresence j p).ws.state ≠ .halted) :
    (s.hearPresence j p).cs = (s.presenceApplied j p).clearanceStop.cs
    ∧ ∀ t, intervalGap (min s.own t, max s.own t) (min p.position p.target, max p.position p.target) < s.cfg.gap →
        (s.presenceApplied j p).permitted t = false := by
  obtain ⟨hone, height, -, -⟩ := hj
  obtain ⟨hinfo, hcfg, hown⟩ := State.presenceApplied_view htables height hone p
  constructor
  · rcases State.hearPresence_ends hs j p with ⟨c, -, hhalted⟩ | ⟨-, -, g, hg, hu⟩
    · exact absurd hhalted hrun
    · rw [(State.hearPresence_runs hg hu).2, hside]
      rfl
  · intro t ht
    refine State.not_permitted (j := j) ?_ hinfo ?_
    · rw [hcfg]
      exact Setup.mem_neighbours_of_sideOf hside
    · rw [hown, hcfg]
      exact ht

/-- A cycle's TRAVEL too near is to be stopped, once (R66). -/
theorem State.hearPresence_stops_cycle (hrun : (s.hearPresence j p).ws.state ≠ .halted) {t : Nat} {cy : Cycle}
    (ht : s.cycleTravel = some t) (hcy : s.cs.cycle = some cy) (hending : cy.ending = none) (hasked : cy.stopAsked = false)
    (hnear : intervalGap (min s.own t, max s.own t) (min p.position p.target, max p.position p.target) < s.cfg.gap) :
    (s.hearPresence j p).cs.interject = some .stopMotion
    ∧ (s.hearPresence j p).cs.cycle = some { cy with stopAsked := true } := by
  obtain ⟨hcs, hclose⟩ := State.hearPresence_stop hs htables hj hside hrun
  have hkept := (s.presenceApplied_spec j p).cs
  rw [hcs]
  exact State.clearanceStop_cycle (hkept ▸ hcy) ((State.cycleTravel_congr hkept).trans ht) hending hasked (hclose t hnear)

/-- A lone motion's TRAVEL too near is to be stopped, once (R66). -/
theorem State.hearPresence_stops_lone (hrun : (s.hearPresence j p).ws.state ≠ .halted) {l : Lone} (hl : s.cs.lone = some l)
    (hplaced : l.placed = true) (hending : l.ending = none) (hasked : l.stopAsked = false)
    (hnear : intervalGap (min s.own l.target, max s.own l.target) (min p.position p.target, max p.position p.target) < s.cfg.gap) :
    (s.hearPresence j p).cs.interject = some .stopMotion
    ∧ (s.hearPresence j p).cs.lone = some { l with stopAsked := true } := by
  obtain ⟨hcs, hclose⟩ := State.hearPresence_stop hs htables hj hside hrun
  rw [hcs]
  exact State.clearanceStop_lone ((s.presenceApplied_spec j p).cs ▸ hl) hplaced hending hasked (hclose _ hnear)

end

/-- Where every travel in progress may go on, CS is as it was. -/
theorem State.hearPresence_rests {s : State} (hs : s.ws.state.online = true) (j : Nat) (p : Presence)
    (hrun : (s.hearPresence j p).ws.state ≠ .halted)
    (hcycle : ∀ cy t, s.cs.cycle = some cy → s.cycleTravel = some t →
      cy.ending ≠ none ∨ cy.stopAsked = true ∨ (s.hearPresence j p).permitted t = true)
    (hlone : ∀ l, s.cs.lone = some l → l.placed = true →
      l.ending ≠ none ∨ l.stopAsked = true ∨ (s.hearPresence j p).permitted l.target = true) :
    (s.hearPresence j p).cs = s.cs := by
  rcases State.hearPresence_ends hs j p with ⟨c, -, hhalted⟩ | ⟨-, -, g, hg, hu⟩
  · exact absurd hhalted hrun
  · have hspec := s.presenceApplied_spec j p
    obtain ⟨hframe, hcs⟩ := State.hearPresence_runs hg hu
    have hpermitted : ∀ t, (s.hearPresence j p).permitted t = (s.presenceApplied j p).permitted t := by
      refine State.permitted_congr ?_ ?_ ?_ <;> rw [hframe]
    have hrests : (s.presenceApplied j p).clearanceStop = s.presenceApplied j p := by
      refine State.clearanceStop_rests ?_ ?_
      · rw [hspec.cs, State.cycleTravel_congr hspec.cs]
        exact fun cy t hcy ht => (hpermitted t) ▸ hcycle cy t hcy ht
      · rw [hspec.cs]
        exact fun l hl hplaced => (hpermitted _) ▸ hlone l hl hplaced
    rw [hcs, hrests, ite_self, hspec.cs]

/-! ### Claims -/

/-- Entries alike but for corrections owed: one for one. -/
theorem HoleEntry.unowed_entry {l l' : List HoleEntry} (h : l'.map HoleEntry.unowed = l.map HoleEntry.unowed) {n : Nat} {e : HoleEntry}
    (he : l[n]? = some e) : ∃ e', l'[n]? = some e' ∧ e'.unowed = e.unowed := by
  have hn : (l'.map HoleEntry.unowed)[n]? = (l.map HoleEntry.unowed)[n]? := by rw [h]
  rw [List.getElem?_map, List.getElem?_map, he, Option.map_some, Option.map_eq_some_iff] at hn
  exact hn

/-- A PRESENCE passes to HT where the plan check held for its sender is this station's, or none is held and it carries this
station's (R57). -/
theorem State.planFilter_presence {s : State} {j : Nat} {p : Presence} (hnone : (s.peer j).info = none → p.check = s.planCheck)
    (hsome : ∀ i, (s.peer j).info = some i → i.check = s.planCheck) : s.planFilter j (.presence p) = true := by
  unfold State.planFilter
  split
  · rename_i p' hinfo hp
    cases hp
    exact decide_eq_true (hnone hinfo)
  · rename_i hp
    cases hp
  · rename_i hp _
    exact absurd rfl (hp p)
  · exact decide_eq_true (hsome _ ‹_›)

section
variable {s : State} (hs : s.ws.state.online = true) {j : Nat} {p : Presence} (hrun : (s.hearPresence j p).ws.state ≠ .halted)
include hs hrun

/-- HT has the claim of a PRESENCE that passes the plan filter, its entries as they were but for corrections owed. -/
theorem State.hearPresence_claims : ∃ g : State, g.ht.map HoleEntry.unowed = s.ht.map HoleEntry.unowed
    ∧ s.hearPresence j p = if s.planFilter j (.presence p) then g.reconcileClaims j p.claim else g := by
  rcases State.hearPresence_ends hs j p with ⟨c, -, hhalted⟩ | ⟨-, -, g, hg, hu⟩
  · exact absurd hhalted hrun
  · refine ⟨g, ?_, hu⟩
    rw [hg.unowed_ht, ← (s.presenceApplied_spec j p).unowed_ht]
    split
    · rw [State.clearanceStop_eq]
    · rfl

/-- The sender keeps only the hole it names claimed (R21). -/
theorem State.hearPresence_reconciles (hfilter : s.planFilter j (.presence p) = true)
    (hclaim : ∀ c, p.claim = some c → c.hole < s.ht.length) {n : Nat} {e : HoleEntry} (he : s.ht[n]? = some e) :
    ∃ e', (s.hearPresence j p).ht[n]? = some e'
      ∧ (e.claimedBy j = true → p.claim.map (·.hole) ≠ some n → e'.state = e.revert.state ∧ e'.claimant = none)
      ∧ (e.claimedBy j = false ∨ p.claim.map (·.hole) = some n → e'.state = e.state ∧ e'.claimant = e.claimant) := by
  obtain ⟨g, hg, hu⟩ := State.hearPresence_claims hs hrun
  obtain ⟨e', he', hlike⟩ := HoleEntry.unowed_entry hg he
  have hlength : g.ht.length = s.ht.length := by simpa using congrArg List.length hg
  rw [hu, if_pos hfilter, State.reconcileClaims_ht (hlength ▸ hclaim), he']
  exact ⟨_, rfl, HoleEntry.reconciled_state hlike j n p.claim⟩

/-- A claim on a hole the plan does not have leaves the entries, but for corrections owed (R12). -/
theorem State.hearPresence_beyond {c : Claim} (hc : p.claim = some c) (hbeyond : s.ht.length ≤ c.hole) :
    (s.hearPresence j p).ht.map HoleEntry.unowed = s.ht.map HoleEntry.unowed := by
  obtain ⟨g, hg, hu⟩ := State.hearPresence_claims hs hrun
  have hlength : g.ht.length = s.ht.length := by simpa using congrArg List.length hg
  rw [hu, hc, State.reconcileClaims_beyond (hlength ▸ hbeyond), ite_self, hg]

end

/-! ### The whole -/

/-- A PRESENCE from a station on the line is heard whole, stamped first. -/
theorem exec_presenceReceived {s : State} {j : Nat} {p : Presence} (hp : presenceFits p = true) (hs : s.ws.state.online = true)
    (hj : s.otherOnLine j) : exec (.presenceReceived (frameBytes j (.presence p))) s
      = .next ((s.heard (frameBytes j (.presence p))).hearPresence j p).settle := by
  have hfits : bodyFits (.presence p) = true := hp
  have hrow := exec_heardRow (.presence p) (frameBytes j (.presence p)) s
  rw [State.hearFrame_frameBytes hfits hs hj] at hrow
  exact hrow

/-- Settles O37: a PRESENCE's parts, each after what its block makes of it. -/
theorem presenceActs : Obligations.PresenceActs := by
  refine ⟨fun j p s hp hs hj => ⟨_, exec_presenceReceived hp hs hj, ?_⟩, fun s => ⟨?_, s.nonAdjacentOverlap_iff⟩⟩
  · have hs' : (s.heard (frameBytes j (.presence p))).ws.state.online = true := hs
    have hj' : (s.heard (frameBytes j (.presence p))).otherOnLine j := hj
    refine ⟨?_, ?_, ?_, ?_, ?_, ?_, ?_, ?_, ?_, ?_⟩
    · exact fun hnone hsome hrun hclaim n e he =>
        State.hearPresence_reconciles hs' hrun (State.planFilter_presence hnone hsome) hclaim he
    · exact fun c hc hbeyond hrun => State.hearPresence_beyond hs' hrun hc hbeyond
    · intro d st f hd hr
      have hdemand := State.hearPresence_demand hs' j p hd hr
      cases d <;> exact hdemand
    · exact State.hearPresence_no_demand hs' j p
    · exact State.hearPresence_conflict hs' j p
    · exact fun x hx => State.hearPresence_source hs' j p hx
    · exact fun side htables hside hactive => State.hearPresence_halts hs' htables hj' hside hactive
    · exact fun side t cy htables hside hrun => State.hearPresence_stops_cycle hs' htables hj' hside hrun
    · exact fun side l htables hside hrun => State.hearPresence_stops_lone hs' htables hj' hside hrun
    · exact State.hearPresence_rests hs' j p
  · exact fun lower upper hl hl' hu hu' => State.shortStretch_iff hl hl' hu hu'

end Sys2Proof.Machine
end

section
/-! PROOFS. Targets under a correction, rounded (R35, R36). -/

namespace Sys2Proof.Machine

/-- A quotient rounded is q where the remainder n − d·q is at most half of d, and a half only where d·q lies beyond n. -/
theorem roundDiv_spec {n d : Int} (hd : 0 < d) :
    2 * (n - d * roundDiv n d).natAbs ≤ d.natAbs
    ∧ (2 * (n - d * roundDiv n d).natAbs = d.natAbs → n.natAbs < (d * roundDiv n d).natAbs) := by
  have hquot := Int.mul_ediv_add_emod (2 * n.natAbs + d.natAbs) (2 * d.natAbs)
  have hrem := Int.emod_nonneg (2 * n.natAbs + d.natAbs : Int) (b := 2 * d.natAbs) (by omega)
  have hlt := Int.emod_lt_of_pos (2 * n.natAbs + d.natAbs : Int) (b := 2 * d.natAbs) (by omega)
  unfold roundDiv
  dsimp only
  generalize (2 * (n.natAbs : Int) + d.natAbs) / (2 * d.natAbs) = q at *
  generalize (2 * (n.natAbs : Int) + d.natAbs) % (2 * d.natAbs) = r at *
  rw [Int.natAbs_of_nonneg hd.le, mul_assoc] at hquot
  split
  · rw [mul_neg]
    generalize d * q = m at *
    omega
  · generalize d * q = m at *
    omega

/-- Settles O32: the target of a plan hole is the correction's, and there is none without a correction. -/
theorem targetsUnderCorrection : Obligations.TargetsUnderCorrection := by
  refine ⟨fun n m h s hm hh => ?_, fun n s hnone => ?_, fun n d hd => roundDiv_spec hd⟩
  · simp [State.target?, hm, hh, Correction.target]
  · simp [State.target?, hnone]

end Sys2Proof.Machine
end

section
/-! PROOFS. One millisecond of the station clock, and the timers then due (log entries 1 and 12). -/

namespace Sys2Proof.Machine

open Sys2Proof (Byte Word Data Stamp Datum Side Instr)

/-- The timers' commands, in the order in which those due in one millisecond are queued (log entry 1). -/
def timers : List Instr :=
  [Instr.presenceIntervalExpiry] ++ [Instr.datumExpiry .a] ++ [Instr.datumExpiry .b] ++ [Instr.proberAgeDue] ++ [Instr.retryDeadline]
  ++ ((List.range 8).map (· + 1)).map Instr.peerSilent ++ ((List.range 8).map (· + 1)).map Instr.peerLost
  ++ [Instr.selfLapse .left] ++ [Instr.selfLapse .right] ++ [Instr.yieldDeadline .left] ++ [Instr.yieldDeadline .right]
  ++ ((List.range 8).map (· + 1)).map Instr.drawEntryExpiry
  ++ [Instr.settleDeadline] ++ [Instr.waitDeadline] ++ [Instr.nextPoll] ++ [Instr.pressureWaitLimit] ++ [Instr.ownIntentRenewal]
  ++ [Instr.clampSettleExpiry] ++ [Instr.ramRecoveryExpiry] ++ [Instr.responseTimeout] ++ [Instr.completionDeadline]
  ++ [Instr.serviceByteGap] ++ [Instr.serviceLineQuiet]

/-- A timer's command is due now. -/
def State.timerDue (s : State) : Instr → Bool
  | .presenceIntervalExpiry => s.isDue s.presenceDueAt
  | .datumExpiry d => s.isDue (s.datumDueAt d)
  | .proberAgeDue => s.isDue s.proberDueAt
  | .retryDeadline => s.isDue s.retryDueAt
  | .peerSilent j => s.isDue (s.silentDueAt j)
  | .peerLost j => s.isDue (s.lostDueAt j)
  | .selfLapse side => s.isDue (s.lapseDueAt side)
  | .yieldDeadline side => s.isDue (s.yieldDueAt side)
  | .drawEntryExpiry j => s.isDue (s.drawDueAt j)
  | .settleDeadline => s.isDue s.settleDueAt
  | .waitDeadline => s.isDue s.waitDueAt
  | .nextPoll => s.isDue s.pollDueAt
  | .pressureWaitLimit => s.isDue s.limitDueAt
  | .ownIntentRenewal => s.isDue s.renewalDueAt
  | .clampSettleExpiry => s.clampDueAt = some s.clock
  | .ramRecoveryExpiry => s.ramDueAt = some s.clock
  | .responseTimeout => s.isDue s.ep.responseDeadline
  | .completionDeadline => s.isDue s.completionDueAt
  | .serviceByteGap => s.isDue s.gapDueAt
  | .serviceLineQuiet => s.isDue s.quietDueAt
  | _ => false

/-- Each timer stands once in the list, in the order of its place. -/
theorem timers_ordered : timers.Pairwise fun a b => timerPlace a < timerPlace b := by decide

/-- The timers a station has for each of the others that are due. -/
theorem filter_map_timerDue (s : State) (f : Nat → Instr) (l : List Nat) :
    (l.map f).filter s.timerDue = l.flatMap fun j => if s.timerDue (f j) then [f j] else [] := by
  induction l with
  | nil => rfl
  | cons j l ih =>
    rw [List.map_cons, List.filter_cons, List.flatMap_cons, ih]
    split <;> rfl

/-- The timers that have come due are those of the list that are due. -/
theorem State.dueTimers_eq (s : State) : s.dueTimers = timers.filter s.timerDue := by
  unfold State.dueTimers timers
  simp only [List.filter_append, filter_map_timerDue, List.filter_cons, List.filter_nil]
  repeat' apply congrArg₂ HAppend.hAppend
  all_goals rfl

theorem State.isDue_iff (s : State) (due : Option Nat) : s.isDue due = true ↔ ∃ t, due = some t ∧ t ≤ s.clock := by
  cases due <;> simp [State.isDue]

theorem WorkState.online_iff (w : WorkState) : w.online = true ↔ w ≠ .unconfigured ∧ w ≠ .halted := by cases w <;> decide

theorem State.presenceDue_iff (s : State) : s.isDue s.presenceDueAt = true
    ↔ s.ws.state ≠ .unconfigured ∧ s.ws.state ≠ .halted ∧ ∃ t, s.lc.timer = some t ∧ t ≤ s.clock := by
  simp [State.isDue_iff, State.presenceDueAt, WorkState.online_iff, and_assoc]

theorem State.datumDue_iff (s : State) (d : Datum) : s.isDue (s.datumDueAt d) = true
    ↔ ∃ f, s.pu.record d = ⟨.valid, some f⟩ ∧ f.time + s.cfg.datumLife < s.clock := by
  unfold State.datumDueAt
  split <;> simp_all [State.isDue]

theorem ceilDiv_le_iff {n d : Nat} (hd : 0 < d) (m : Nat) : ceilDiv n d ≤ m ↔ n ≤ d * m := by
  rw [ceilDiv, ← Nat.lt_succ_iff, Nat.div_lt_iff_lt_mul hd, Nat.succ_mul, Nat.mul_comm m d]
  omega

theorem State.proberDue_iff (s : State) : s.isDue s.proberDueAt = true
    ↔ s.proberStatus = some .current
      ∧ ∃ f, s.ownRecord = some ⟨.valid, some f⟩ ∧ 4 * f.time + 3 * s.cfg.datumLife ≤ 4 * s.clock := by
  unfold State.proberDueAt
  split
  case h_1 f hstatus hrecord =>
    have hage := ceilDiv_le_iff (n := 3 * s.cfg.datumLife) (d := 4) (by decide) (s.clock - f.time)
    have hpos := ceilDiv_le_iff (n := 3 * s.cfg.datumLife) (d := 4) (by decide) 0
    simp only [State.isDue, decide_eq_true_eq, hstatus, hrecord, Option.some.injEq, DatumRecord.mk.injEq, true_and,
      exists_eq_left']
    omega
  case h_2 => simp_all [State.isDue]

theorem State.retryDue_iff (s : State) : s.isDue s.retryDueAt = true
    ↔ ∃ t m, s.pu.prober = some ⟨.retryWait, some t, m⟩ ∧ t ≤ s.clock := by
  unfold State.retryDueAt
  split <;> simp_all [State.isDue]

theorem State.otherStation_iff (s : State) (j : Nat) : s.otherStation j = true ↔ 1 ≤ j ∧ j ≤ 8 ∧ j ≠ s.k := by
  simp [State.otherStation, and_assoc]

/-- Where the timers of a peer run: at a station that hears it (R61). -/
theorem State.peerTimersRun_iff (s : State) (j : Nat) : (s.ws.state.online && s.otherStation j) = true
    ↔ s.ws.state ≠ .unconfigured ∧ s.ws.state ≠ .halted ∧ 1 ≤ j ∧ j ≤ 8 ∧ j ≠ s.k := by
  rw [Bool.and_eq_true, WorkState.online_iff, State.otherStation_iff, and_assoc]

theorem State.silentDue_iff (s : State) (j : Nat) : s.isDue (s.silentDueAt j) = true
    ↔ ∃ i, s.ws.state ≠ .unconfigured ∧ s.ws.state ≠ .halted ∧ 1 ≤ j ∧ j ≤ 8 ∧ j ≠ s.k
        ∧ s.peer j = ⟨.heard, some i⟩ ∧ i.time + s.cfg.holdPeriod ≤ s.clock := by
  unfold State.silentDueAt
  have hruns := s.peerTimersRun_iff j
  split
  case isTrue => split <;> simp_all [State.isDue]
  case isFalse h =>
    rw [hruns] at h
    exact iff_of_false (by simp [State.isDue]) (by tauto)

theorem State.lostDue_iff (s : State) (j : Nat) : s.isDue (s.lostDueAt j) = true
    ↔ ∃ i, s.ws.state ≠ .unconfigured ∧ s.ws.state ≠ .halted ∧ 1 ≤ j ∧ j ≤ 8 ∧ j ≠ s.k
        ∧ (s.peer j = ⟨.heard, some i⟩ ∨ s.peer j = ⟨.silent, some i⟩) ∧ i.time + s.cfg.lossPeriod ≤ s.clock := by
  unfold State.lostDueAt
  have hruns := s.peerTimersRun_iff j
  split
  case isTrue => split <;> simp_all [State.isDue]
  case isFalse h =>
    rw [hruns] at h
    exact iff_of_false (by simp [State.isDue]) (by tauto)

theorem State.drawDue_iff (s : State) (j : Nat) : s.isDue (s.drawDueAt j) = true
    ↔ ∃ e, s.ws.state ≠ .halted ∧ 1 ≤ j ∧ j ≤ 8 ∧ j ≠ s.k ∧ s.drawEntry j = some e ∧ e.time + s.cfg.drawLife ≤ s.clock := by
  simp [State.isDue_iff, State.drawDueAt, State.otherStation_iff, and_assoc]

theorem State.lapseDue_iff (s : State) (side : Side) : s.isDue (s.lapseDueAt side) = true
    ↔ (s.zone side).state = .heldOwn ∧ s.presenceTime + (s.cfg.holdPeriod - s.cfg.lapseMargin) < s.clock := by
  simp [State.isDue_iff, State.lapseDueAt]

theorem State.yieldDue_iff (s : State) (side : Side) : s.isDue (s.yieldDueAt side) = true
    ↔ ∃ t, (s.zone side).state = .yielding ∧ (s.zone side).yieldDeadline = some t ∧ t ≤ s.clock := by
  simp [State.isDue_iff, State.yieldDueAt, and_assoc]

theorem State.settleDue_iff (s : State) : s.isDue s.settleDueAt = true
    ↔ s.du.own.state = .settling ∧ ∃ t, s.du.own.settleDeadline = some t ∧ t ≤ s.clock := by
  simp [State.isDue_iff, State.settleDueAt, and_assoc]

theorem State.waitDue_iff (s : State) : s.isDue s.waitDueAt = true
    ↔ s.du.own.state = .waiting ∧ ∃ t, s.du.own.waitDeadline = some t ∧ t ≤ s.clock := by
  simp [State.isDue_iff, State.waitDueAt, and_assoc]

theorem State.pollDue_iff (s : State) : s.isDue s.pollDueAt = true
    ↔ s.du.own.state = .supplyCheck ∧ s.du.own.pollAsked = false ∧ s.readingPressure = false
      ∧ ∃ t, s.du.own.nextPoll = some t ∧ t ≤ s.clock := by
  simp [State.isDue_iff, State.pollDueAt, and_assoc]

theorem State.limitDue_iff (s : State) : s.isDue s.limitDueAt = true
    ↔ s.du.own.state = .supplyCheck ∧ s.du.own.lastBelow = true ∧ s.readingPressure = false
      ∧ ∃ t, s.du.own.supplyStart = some t ∧ t + s.cfg.pressureWait ≤ s.clock := by
  simp [State.isDue_iff, State.limitDueAt, and_assoc]

theorem State.renewalDue_iff (s : State) : s.isDue s.renewalDueAt = true
    ↔ (s.du.own.state = .supplyCheck ∨ s.du.own.state = .allowed) ∧ s.du.own.readBack + s.cfg.drawLife ≤ s.clock := by
  simp [State.isDue_iff, State.renewalDueAt]

theorem State.clampDue_iff (s : State) : s.clampDueAt = some s.clock
    ↔ s.cs.cycle ≠ none ∧ ∃ t, s.cs.lastClamp = some t ∧ t + s.cfg.clampSettle = s.clock := by
  simp [State.clampDueAt, Option.isSome_iff_ne_none]

theorem State.ramDue_iff (s : State) : s.ramDueAt = some s.clock
    ↔ s.cs.cycle ≠ none ∧ ∃ t, s.cs.lastSqueeze = some t ∧ t + s.cfg.ramRecovery = s.clock := by
  simp [State.ramDueAt, Option.isSome_iff_ne_none]

theorem State.completionDue_iff (s : State) : s.isDue s.completionDueAt = true
    ↔ s.ep.stream ≠ none ∧ ∃ t, s.ep.deadline = some t ∧ t ≤ s.clock := by
  simp [State.isDue_iff, State.completionDueAt, Option.isSome_iff_ne_none, and_assoc]

theorem State.gapDue_iff (s : State) : s.isDue s.gapDueAt = true
    ↔ s.sp.rx = .receiving ∧ s.sp.ignoring = false ∧ s.sp.lastByte + 10 ≤ s.clock := by
  simp [State.isDue_iff, State.gapDueAt, Config.serviceGap, and_assoc]

theorem State.quietDue_iff (s : State) : s.isDue s.quietDueAt = true
    ↔ s.sp.rx = .receiving ∧ s.sp.ignoring = true ∧ s.sp.lastByte + 10 ≤ s.clock := by
  simp [State.isDue_iff, State.quietDueAt, Config.serviceGap, and_assoc]

theorem stationTimer_mem {f : Nat → Instr} {j : Nat} (h1 : 1 ≤ j) (h8 : j ≤ 8) : f j ∈ ((List.range 8).map (· + 1)).map f :=
  List.mem_map_of_mem (List.mem_map.mpr ⟨j - 1, List.mem_range.mpr (by omega), by omega⟩)

/-- A timer that is due stands in the list of timers. -/
theorem State.mem_timers_of_due {s : State} {c : Instr} (h : s.timerDue c = true) : c ∈ timers := by
  unfold timers
  simp only [List.mem_append, List.mem_singleton]
  cases c with
  | peerSilent j =>
    obtain ⟨i, -, -, h1, h8, -⟩ := (s.silentDue_iff j).mp h
    simp only [stationTimer_mem h1 h8, or_true, true_or]
  | peerLost j =>
    obtain ⟨i, -, -, h1, h8, -⟩ := (s.lostDue_iff j).mp h
    simp only [stationTimer_mem h1 h8, or_true, true_or]
  | drawEntryExpiry j =>
    obtain ⟨e, -, h1, h8, -⟩ := (s.drawDue_iff j).mp h
    simp only [stationTimer_mem h1 h8, or_true, true_or]
  | datumExpiry d => cases d <;> simp only [or_true, true_or]
  | selfLapse side | yieldDeadline side => cases side <;> simp only [or_true, true_or]
  | presenceIntervalExpiry | proberAgeDue | retryDeadline | settleDeadline | waitDeadline | nextPoll | pressureWaitLimit
  | ownIntentRenewal | clampSettleExpiry | ramRecoveryExpiry | responseTimeout | completionDeadline | serviceByteGap
  | serviceLineQuiet => simp only [or_true, true_or]
  | _ => cases h

/-- Settles O2: the timers that have come due stand in the order of the list of timers, and are those whose time has come. -/
theorem emptyQueueTicks : Obligations.EmptyQueueTicks := by
  refine ⟨fun s hs => ?_, fun s => ⟨?_, fun c => ?_⟩⟩
  · simp only [step, hs, State.tick]
  · rw [State.dueTimers_eq]
    exact timers_ordered.filter _
  · rw [State.dueTimers_eq, List.mem_filter, and_iff_right_of_imp State.mem_timers_of_due]
    cases c <;>
      simp only [reduceCtorEq, Bool.false_eq_true, decide_eq_true_eq, false_and, true_and, exists_false, or_false, false_or,
        exists_and_left, exists_eq_left', Instr.datumExpiry.injEq, Instr.peerSilent.injEq, Instr.peerLost.injEq,
        Instr.selfLapse.injEq, Instr.yieldDeadline.injEq, Instr.drawEntryExpiry.injEq, State.timerDue, State.presenceDue_iff,
        State.datumDue_iff, State.proberDue_iff, State.retryDue_iff, State.silentDue_iff, State.lostDue_iff, State.lapseDue_iff,
        State.yieldDue_iff, State.drawDue_iff, State.settleDue_iff, State.waitDue_iff, State.pollDue_iff, State.limitDue_iff,
        State.renewalDue_iff, State.clampDue_iff, State.ramDue_iff, State.completionDue_iff, State.gapDue_iff, State.quietDue_iff]
    case responseTimeout => exact s.isDue_iff _

end Sys2Proof.Machine
end

section
/-! PROOFS. How a cycle goes on with the command it has to place (R65, R68, R117, R119, R123, R124). -/

namespace Sys2Proof.Machine

/-! ### PT's permission (R64, R65) -/

/-- Two intervals keep a distance where one lies that far beyond the other; every two keep the distance 0. -/
theorem le_intervalGap_iff {a b : Nat × Nat} (ha : a.1 ≤ a.2) (hb : b.1 ≤ b.2) (g : Nat) :
    g ≤ intervalGap a b ↔ g = 0 ∨ a.2 + g ≤ b.1 ∨ b.2 + g ≤ a.1 := by
  unfold intervalGap
  split_ifs <;> omega

theorem Setup.mem_neighbours_iff (c : Setup) (j : Nat) :
    j ∈ c.neighbours ↔ (j + 1 = c.station ∧ 1 ≤ j) ∨ (j = c.station + 1 ∧ c.station < c.stations) := by
  rw [Setup.neighbours, List.mem_append, Option.mem_toList, Option.mem_toList, Setup.neighbour, Setup.neighbour]
  split_ifs <;> simp <;> omega

theorem State.permitted_iff (s : State) (p : Nat) : s.permitted p = true ↔ ∀ j ∈ s.cfg.neighbours,
    ∃ i, (s.peer j).info = some i
      ∧ (s.cfg.gap = 0 ∨ max s.own p + s.cfg.gap ≤ min i.position i.target
          ∨ max i.position i.target + s.cfg.gap ≤ min s.own p) := by
  rw [State.permitted, State.pathClear, List.all_eq_true]
  refine forall_congr' fun j => forall_congr' fun _ => ?_
  cases (s.peer j).info with
  | none => simp
  | some i =>
    simp only [decide_eq_true_eq, Option.some.injEq, exists_eq_left']
    exact le_intervalGap_iff (by simp) (by simp [PeerInfo.interval]) _

/-! ### A command placed for the cycle (R107, R110) -/

section
variable {s : State} {cy : Cycle} (hcy : s.cs.cycle = some cy)
include hcy

/-- With EFFECTOR READY active a command is placed, and the cycle's record notes it. -/
theorem State.placeForCycle_ready (hready : s.effectorReady = true) (c : Command) (f : Cycle → Cycle) :
    s.placeForCycle c f = State.raiseFlag c.word
      { s with cs.cycle := some { f cy with task := .placed c },
               ep.transfer := some { command := c, user := .cycle, rest := c.extension s.cfg.tolerance }, ep.discard := false } := by
  have hready' : (s.onCycle fun cy => { f cy with task := .placed c }).effectorReady = true := hready
  rw [State.placeForCycle, State.placeCommand, if_pos hready', State.onCycle, hcy]
  rfl

theorem State.stepCycle_carries (hw : cy.winding = false) : s.stepCycle = s.carryCycle cy := by
  unfold State.stepCycle
  rw [hcy]
  dsimp only
  split
  · rename_i e he
    simp only [Cycle.winding, he, Bool.not_eq_false'] at hw
    rw [if_pos hw]
  · rfl

theorem State.stepCycle_tries (hw : cy.winding = false) {c : Command} {asked : Bool} (ht : cy.task = .toPlace c asked) :
    s.stepCycle = s.tryTask c asked := by
  rw [State.stepCycle_carries hcy hw, State.carryCycle, ht]

end

theorem State.cycleZone_eq {s : State} {cy : Cycle} (hcy : s.cs.cycle = some cy) (p : Nat) :
    s.cycleZone p = if cy.rail = p then cy.zone else s.zoneAt p := by
  rw [State.cycleZone, hcy]

theorem State.zoneHeld_iff (s : State) (side : Side) :
    s.zoneHeld side = true ↔ (s.zone side).state = .heldOwn ∧ (s.zone side).progress = .no := by
  simp [State.zoneHeld]

theorem State.zoneStands_iff (s : State) (z : Option Side) :
    s.zoneStands z = true ↔ ∀ side, z = some side → (s.zone side).state = .heldOwn ∧ (s.zone side).progress = .no := by
  cases z <;> simp [State.zoneStands, State.zoneHeld_iff]

theorem Setup.withinTravel_iff (c : Setup) (p : Nat) : c.withinTravel p = true ↔ c.low ≤ p ∧ p ≤ c.high := by
  simp [Setup.withinTravel]

theorem intervalOver_iff (last : Option Nat) (d clock : Nat) :
    intervalOver last d clock = true ↔ ∀ x, last = some x → x + d ≤ clock := by
  cases last <;> simp [intervalOver]

/-! ### TRAVEL (R119) -/

section
variable {s : State} {p : Nat} {asked : Bool}

theorem State.tryTravel_beyond (h : p < s.cfg.low ∨ s.cfg.high < p) : s.tryTravel p asked = s := by
  have hout : s.cfg.withinTravel p = false := by
    rw [← Bool.not_eq_true, Setup.withinTravel_iff]
    omega
  rw [State.tryTravel, hout]
  rfl

variable (hin : s.cfg.withinTravel p = true)
include hin

theorem State.tryTravel_waits (hasked : asked = true) (hclear : s.permitted p = false) : s.tryTravel p asked = s := by
  simp [State.tryTravel, hin, hasked, hclear]

theorem State.tryTravel_lost (h : asked = false ∨ s.permitted p = true) (hz : s.zoneStands (s.cycleZone p) = false) :
    s.tryTravel p asked = s.takeEnding .zoneLost false := by
  have hgo : (asked && !s.permitted p) = false := by rcases h with h | h <;> simp [h]
  simp [State.tryTravel, hin, hgo, hz]

theorem State.tryTravel_refused (hasked : asked = false) (hz : s.zoneStands (s.cycleZone p) = true) (hclear : s.permitted p = false) :
    s.tryTravel p asked = s.onCycle fun cy => { cy with task := .toPlace (.travel p) true } := by
  simp [State.tryTravel, hin, hasked, hz, hclear]

theorem State.tryTravel_issues (hz : s.zoneStands (s.cycleZone p) = true) (hclear : s.permitted p = true) :
    s.tryTravel p asked = s.placeForCycle (.travel p) fun cy =>
      { cy with stage := if cy.stage = .claiming then .moving else cy.stage, stopAsked := false } := by
  simp [State.tryTravel, hin, hz, hclear]

end

theorem State.tryTask_travel {s : State} {p : Nat} (hplace : s.canPlace (.travel p) = true) (asked : Bool) :
    s.tryTask (.travel p) asked = s.tryTravel p asked := by
  rw [State.tryTask, hplace]
  rfl

/-- How a cycle goes on with a TRAVEL to place, the port being free for it. -/
theorem State.stepCycle_travel {s : State} {cy : Cycle} (hcy : s.cs.cycle = some cy) (hw : cy.winding = false) {p : Nat} {asked : Bool}
    (ht : cy.task = .toPlace (.travel p) asked) (hplace : s.canPlace (.travel p) = true) {Z : Prop}
    (hZ : Z ↔ ∀ side, s.cycleZone p = some side → (s.zone side).state = .heldOwn ∧ (s.zone side).progress = .no) :
    (p < s.cfg.low ∨ s.cfg.high < p → s.stepCycle = s)
    ∧ (s.cfg.low ≤ p → p ≤ s.cfg.high →
        (asked = true → s.permitted p = false → s.stepCycle = s)
        ∧ (asked = false ∨ s.permitted p = true → ¬ Z → s.stepCycle = s.takeEnding .zoneLost false)
        ∧ (asked = false → Z → s.permitted p = false →
            s.stepCycle = { s with cs.cycle := some { cy with task := .toPlace (.travel p) true } })
        ∧ (Z → s.permitted p = true → s.effectorReady = true →
            s.stepCycle.cs.cycle = some { cy with task := .placed (.travel p), stopAsked := false,
                                                  stage := if cy.stage = .claiming then .moving else cy.stage }
            ∧ s.stepCycle.ep.commandFlag = true
            ∧ s.stepCycle.ep.transfer
              = some { command := .travel p, user := .cycle, rest := [BitVec.ofNat 16 p, BitVec.ofNat 16 s.cfg.tolerance] })) := by
  rw [← State.zoneStands_iff] at hZ
  rw [State.stepCycle_tries hcy hw ht, State.tryTask_travel hplace]
  refine ⟨State.tryTravel_beyond, fun hlow hhigh => ?_⟩
  have hin : s.cfg.withinTravel p = true := (Setup.withinTravel_iff _ _).mpr ⟨hlow, hhigh⟩
  refine ⟨State.tryTravel_waits hin, fun hgo hz => ?_, fun hasked hz hclear => ?_, fun hz hclear hready => ?_⟩
  · exact State.tryTravel_lost hin hgo (Bool.eq_false_of_not_eq_true (mt hZ.mpr hz))
  · rw [State.tryTravel_refused hin hasked (hZ.mp hz) hclear, State.onCycle, hcy]
    rfl
  · rw [State.tryTravel_issues hin (hZ.mp hz) hclear, State.placeForCycle_ready hcy hready]
    exact ⟨rfl, rfl, rfl⟩

/-! ### DRILL (R117, R123) -/

/-- How a cycle goes on with a DRILL to place, the port being free for it. -/
theorem State.stepCycle_drill {s : State} {cy : Cycle} (hcy : s.cs.cycle = some cy) (hw : cy.winding = false) {n : Nat} {asked : Bool}
    (ht : cy.task = .toPlace (.drill n) asked) (hplace : s.canPlace (.drill n) = true) :
    (∀ x, s.cs.lastClamp = some x → s.clock < x + s.cfg.clampSettle → s.stepCycle = s)
    ∧ (∀ w h, (∀ x, s.cs.lastClamp = some x → x + s.cfg.clampSettle ≤ s.clock) → cy.work = .hole w →
        lookupKey w.hole s.ps.holes = some h → s.effectorReady = true →
        s.stepCycle.cs.cycle = some { cy with task := .placed (.drill (sampleLimit s.cfg h)), stage := .cutting }
        ∧ s.stepCycle.ep.transfer = some { command := .drill (sampleLimit s.cfg h), user := .cycle, rest := [] }
        ∧ s.stepCycle.ep.commandFlag = true ∧ s.stepCycle.sa = openAnalysis s.cfg w.hole h) := by
  have hstep : s.stepCycle = s.tryDrill := by
    rw [State.stepCycle_tries hcy hw ht, State.tryTask, hplace]
    rfl
  rw [hstep]
  refine ⟨fun x hx hsoon => ?_, fun w h hover hwork hhole hready => ?_⟩
  · rw [State.tryDrill, if_neg fun hover => Nat.not_le.mpr hsoon ((intervalOver_iff _ _ _).mp hover x hx)]
  · have htry : s.tryDrill = State.placeForCycle (.drill (sampleLimit s.cfg h)) (fun cy => { cy with stage := .cutting })
        { s with sa := openAnalysis s.cfg w.hole h } := by
      rw [State.tryDrill, if_pos ((intervalOver_iff _ _ _).mpr hover), hcy]
      simp only [Option.bind_some, Cycle.claim?, hwork, Work.claim?, hhole]
    rw [htry, State.placeForCycle_ready (s := { s with sa := openAnalysis s.cfg w.hole h }) hcy hready]
    exact ⟨rfl, rfl, rfl, rfl⟩

/-! ### SQUEEZE and READ PRESSURE (R117, R124) -/

theorem State.tryPoll_unasked {s : State} (h : s.du.own.pollAsked = false) : s.tryPoll = s := by simp [State.tryPoll, h]

/-- A SQUEEZE the port cannot take is not tried. -/
theorem State.trySqueeze_rests {s : State} (h : ∀ c, s.canPlace c = false) (cy : Cycle) : s.trySqueeze cy = s := by
  unfold State.trySqueeze
  split <;> simp [h]

section
variable {s : State} {cy : Cycle} (hcy : s.cs.cycle = some cy) (hw : cy.winding = false) (hstage : cy.stage = .budgeting)
  (htask : cy.task = .idle)
include hcy hw hstage htask

theorem State.stepCycle_budgets : s.stepCycle = s.tryPoll.trySqueeze cy := by
  rw [State.stepCycle_carries hcy hw, State.carryCycle, htask, hstage]

/-- How a cycle in BUDGETING goes on, the port being free for its SQUEEZE. -/
theorem State.stepCycle_squeeze {w : Claim} {n : Nat} {g : GripClass} (hwork : cy.work = .hole w) (hgrip : cy.grip = some (n, g))
    (hasked : s.du.own.pollAsked = false) (hplace : s.canPlace (.squeeze g.rivet g.pressure) = true) :
    (s.du.own.state ≠ .allowed ∨ (∃ x, s.cs.lastClamp = some x ∧ s.clock < x + s.cfg.clampSettle)
        ∨ (∃ x, s.cs.lastSqueeze = some x ∧ s.clock < x + s.cfg.ramRecovery) → s.stepCycle = s)
    ∧ (s.du.own.state = .allowed → (∀ x, s.cs.lastClamp = some x → x + s.cfg.clampSettle ≤ s.clock) →
        (∀ x, s.cs.lastSqueeze = some x → x + s.cfg.ramRecovery ≤ s.clock) →
        (s.setOrder w.hole = false → s.stepCycle = s.takeEnding .orderLost false)
        ∧ (s.setOrder w.hole = true → s.effectorReady = true →
            s.stepCycle.cs.cycle = some { cy with task := .placed (.squeeze g.rivet g.pressure), stage := .squeezing }
            ∧ s.stepCycle.du.own = { s.du.own with state := .squeezing } ∧ s.stepCycle.ep.commandFlag = true
            ∧ s.stepCycle.ep.transfer = some { command := .squeeze g.rivet g.pressure, user := .cycle,
                                               rest := [BitVec.ofNat 16 g.pressure] })) := by
  have hstep : s.stepCycle =
      if s.du.own.state = .allowed ∧ intervalOver s.cs.lastClamp s.cfg.clampSettle s.clock = true
          ∧ intervalOver s.cs.lastSqueeze s.cfg.ramRecovery s.clock = true then
        if !s.setOrder w.hole then s.takeEnding .orderLost false
        else if s.effectorReady then
          State.placeForCycle (.squeeze g.rivet g.pressure) (fun cy => { cy with stage := .squeezing })
            (s.onIntent fun o => { o with state := .squeezing })
        else s.portFails .notReady (some (.squeeze g.rivet g.pressure))
      else s := by
    rw [State.stepCycle_budgets hcy hw hstage htask, State.tryPoll_unasked hasked, State.trySqueeze, hwork, hgrip]
    simp only [hplace, Bool.and_true, Bool.and_eq_true, decide_eq_true_eq, and_assoc]
  have hclamps := intervalOver_iff s.cs.lastClamp s.cfg.clampSettle s.clock
  have hrams := intervalOver_iff s.cs.lastSqueeze s.cfg.ramRecovery s.clock
  rw [hstep]
  refine ⟨fun hwait => if_neg ?_, fun hallowed hclamp hram => ?_⟩
  · rintro ⟨hallowed, hclamp, hram⟩
    rcases hwait with h | ⟨x, hx, hsoon⟩ | ⟨x, hx, hsoon⟩
    · exact h hallowed
    · exact Nat.not_le.mpr hsoon (hclamps.mp hclamp x hx)
    · exact Nat.not_le.mpr hsoon (hrams.mp hram x hx)
  · rw [if_pos ⟨hallowed, hclamps.mpr hclamp, hrams.mpr hram⟩]
    refine ⟨fun hlost => by rw [hlost]; rfl, fun horder hready => ?_⟩
    rw [horder, hready]
    simp only [Bool.not_true, Bool.false_eq_true, if_false, if_true]
    rw [State.placeForCycle_ready (s := s.onIntent _) hcy hready]
    exact ⟨rfl, rfl, rfl, rfl⟩

/-- DU's ask of READ PRESSURE placed in BUDGETING, no SQUEEZE is tried behind it. -/
theorem State.stepCycle_polls (hasked : s.du.own.pollAsked = true) (hplace : s.canPlace .readPressure = true)
    (hready : s.effectorReady = true) :
    s.stepCycle.cs.cycle = some { cy with task := .placed .readPressure } ∧ s.stepCycle.du.own = { s.du.own with pollAsked := false }
    ∧ s.stepCycle.ep.transfer = some { command := .readPressure, user := .cycle, rest := [] }
    ∧ s.stepCycle.ep.commandFlag = true := by
  have hpoll : s.tryPoll = State.placeForCycle .readPressure id (s.onIntent fun o => { o with pollAsked := false }) := by
    rw [State.tryPoll, hasked, hplace]
    rfl
  rw [State.placeForCycle_ready (s := s.onIntent _) hcy hready] at hpoll
  have hrests : s.tryPoll.trySqueeze cy = s.tryPoll := State.trySqueeze_rests (fun c => by rw [hpoll]; rfl) cy
  rw [State.stepCycle_budgets hcy hw hstage htask, hrests, hpoll]
  exact ⟨rfl, rfl, rfl, rfl⟩

end

/-! ### The commands with nothing to wait for (R110, R119) -/

/-- A SLIDE within the cross limit and the commands with nothing to wait for are placed at once, the port being free for them. -/
theorem State.stepCycle_plain {s : State} {cy : Cycle} (hcy : s.cs.cycle = some cy) (hw : cy.winding = false) {c : Command}
    {asked : Bool} (ht : cy.task = .toPlace c asked) (hplace : s.canPlace c = true) (hready : s.effectorReady = true) :
    (c = .sense ∨ c = .clamp ∨ c = .unclamp ∨ c = .retract ∨ c = .gauge ∨ (∃ q, c = .slide q ∧ q ≤ s.cfg.crossLimit) →
      s.stepCycle.cs.cycle = some { cy with task := .placed c, senses := if c = .sense then cy.senses + 1 else cy.senses }
      ∧ s.stepCycle.ep.commandFlag = true
      ∧ ∃ x, s.stepCycle.ep.transfer = some x ∧ x.command = c ∧ x.user = .cycle)
    ∧ (∀ q, c = .slide q → s.cfg.crossLimit < q → s.stepCycle = s) := by
  rw [State.stepCycle_tries hcy hw ht]
  refine ⟨?_, ?_⟩
  · rintro (rfl | rfl | rfl | rfl | rfl | ⟨q, rfl, hq⟩)
    case inr.inr.inr.inr.inr =>
      have hin : s.cfg.withinCross q = true := by simp [Setup.withinCross, hq]
      rw [State.tryTask, hplace]
      simp only [Bool.not_true, Bool.false_eq_true, if_false, hin, if_true, State.placeForCycle_ready hcy hready]
      exact ⟨rfl, rfl, _, rfl, rfl, rfl⟩
    all_goals
      simp only [State.tryTask, hplace, Bool.not_true, Bool.false_eq_true, if_false, State.placeForCycle_ready hcy hready]
      exact ⟨rfl, rfl, _, rfl, rfl, rfl⟩
  · rintro q rfl hq
    have hout : s.cfg.withinCross q = false := by simp [Setup.withinCross, hq]
    simp only [State.tryTask, hplace, Bool.not_true, Bool.false_eq_true, if_false, hout]

end Sys2Proof.Machine
end

section
/-! PROOFS. What leaves the effector port as it is: every operation but EP's own and those that may halt the station. -/

namespace Sys2Proof.Machine

open Sys2Proof (Byte Word Data Stamp Datum Side Instr)

/-- What each of a list of steps leaves as it is, the steps together leave so. -/
theorem foldl_ep {α : Type} {f : State → α → State} (h : ∀ s x, (f s x).ep = s.ep) (l : List α) (s : State) :
    (l.foldl f s).ep = s.ep := by
  induction l generalizing s with
  | nil => rfl
  | cons a l ih => rw [List.foldl_cons, ih, h]

/-! ### EU and HT -/

@[simp] theorem State.acknowledge_ep (s : State) : s.acknowledge.ep = s.ep := by
  unfold State.acknowledge
  split <;> rfl

@[simp] theorem State.putEntry_ep (h : Nat) (e : HoleEntry) (s : State) : (s.putEntry h e).ep = s.ep := by rw [State.putEntry_eq]

@[simp] theorem State.applyToEntry_ep (h : Heard) (s : State) : (s.applyToEntry h).ep = s.ep := by
  unfold State.applyToEntry
  repeat' split
  all_goals simp

@[simp] theorem State.applyHeld_ep (h : Heard) (s : State) : (s.applyHeld h).ep = s.ep := by
  unfold State.applyHeld
  repeat' split
  all_goals simp

@[simp] theorem State.reconcileClaims_ep (j : Nat) (claim : Option Claim) (s : State) : (s.reconcileClaims j claim).ep = s.ep := by
  rw [State.reconcileClaims_frame]

@[simp] theorem State.oweCorrection_ep (n : Nat) (s : State) : (s.oweCorrection n).ep = s.ep := by
  unfold State.oweCorrection
  split <;> simp

/-! ### LC -/

@[simp] theorem State.admitHeld_ep (s : State) : s.admitHeld.ep = s.ep := (State.admitHeld_linkStep s).ep

@[simp] theorem State.offerOwed_ep (s : State) : s.offerOwed.ep = s.ep := (State.offerOwed_linkStep s).ep

@[simp] theorem State.removeFrame_ep (id : Nat) (s : State) : (s.removeFrame id).ep = s.ep := (State.removeFrame_linkStep id s).ep

@[simp] theorem State.replaceFrame_ep (id : Nat) (b : Body) (s : State) : (s.replaceFrame id b).ep = s.ep :=
  (State.replaceFrame_linkStep id b s).ep

@[simp] theorem State.voidInFlight_ep (p : Body → Bool) (s : State) : (s.voidInFlight p).ep = s.ep :=
  (State.voidInFlight_linkStep p s).ep

@[simp] theorem State.linkFrameStart_ep (s : State) : s.linkFrameStart.ep = s.ep := (State.linkFrameStart_linkStep s).ep

@[simp] theorem State.linkUnconfigured_ep (s : State) : s.linkUnconfigured.ep = s.ep := by simp [State.linkUnconfigured]

@[simp] theorem State.readBackWhole_ep (f : TxFrame) (s : State) : (s.readBackWhole f).ep = s.ep := by simp [State.readBackWhole]

@[simp] theorem State.transmit_ep (quiet : Nat) (s : State) : (s.transmit quiet).ep = s.ep := by
  unfold State.transmit State.quietFor
  dsimp only
  split_ifs <;> split <;> (try split) <;> rfl

/-! ### PU -/

@[simp] theorem State.reconcern_ep (s : State) : s.reconcern.ep = s.ep := rfl

@[simp] theorem State.computeCorrection_ep (s : State) : s.computeCorrection.ep = s.ep := by
  unfold State.computeCorrection
  dsimp only
  repeat' split
  all_goals simp

@[simp] theorem State.proberDue_ep (s : State) : s.proberDue.ep = s.ep := by unfold State.proberDue; split <;> simp

@[simp] theorem State.probeFailed_ep (s : State) : s.probeFailed.ep = s.ep := by simp [State.probeFailed]

@[simp] theorem State.expireDatum_ep (d : Datum) (s : State) : (s.expireDatum d).ep = s.ep := by
  unfold State.expireDatum
  dsimp only
  split_ifs <;> simp

@[simp] theorem State.judgeDatum_ep (rail cross : Nat) (kind : SenseKind) (dx dy : Int) (s : State) :
    (s.judgeDatum rail cross kind dx dy).ep = s.ep := by
  unfold State.judgeDatum
  dsimp only
  repeat' split
  all_goals simp

@[simp] theorem State.datumBack_ep (d : Datum) (r q : Nat) (stamp : Stamp) (s : State) : (s.datumBack d r q stamp).ep = s.ep := by
  unfold State.datumBack State.applyDatum
  dsimp only
  split_ifs <;> simp

@[simp] theorem State.removeDatums_ep (s : State) : s.removeDatums.ep = s.ep := foldl_ep (fun t id => State.removeFrame_ep id t) _ s

@[simp] theorem State.proberReset_ep (s : State) : s.proberReset.ep = s.ep := by unfold State.proberReset; split <;> simp

/-! ### ZC -/

@[simp] theorem State.onZone_ep (side : Side) (f : ZoneRecord → ZoneRecord) (s : State) : (s.onZone side f).ep = s.ep :=
  by simp [State.onZone]

@[simp] theorem State.evalConflict_ep (s : State) : s.evalConflict.ep = s.ep := by rw [State.evalConflict_eq]

@[simp] theorem State.offerZone_ep (side : Side) (a : ZoneAction) (s : State) : (s.offerZone side a).ep = s.ep :=
  by simp [State.offerZone]

@[simp] theorem State.sendOutstanding_ep (side : Side) (o : Outstanding) (a : ZoneAction) (s : State) :
    (s.sendOutstanding side o a).ep = s.ep := (State.sendOutstanding_linkStep side o a s).ep

@[simp] theorem State.dropOutstanding_ep (side : Side) (s : State) : (s.dropOutstanding side).ep = s.ep :=
  (State.dropOutstanding_linkStep side s).ep

@[simp] theorem State.seizeToRequest_ep (side : Side) (s : State) : (s.seizeToRequest side).ep = s.ep :=
  (State.seizeToRequest_linkStep side s).ep

@[simp] theorem State.zoneTo_ep (side : Side) (st : ZoneState) (s : State) : (s.zoneTo side st).ep = s.ep :=
  (State.zoneTo_linkStep side st s).ep

@[simp] theorem State.applyBlock_ep (side : Side) (s : State) : (s.applyBlock side).ep = s.ep :=
  (State.applyBlock_linkStep side s).ep

@[simp] theorem State.zoneChange_ep (side : Side) (st : ZoneState) (s : State) : (s.zoneChange side st).ep = s.ep :=
  (State.zoneChange_linkStep side st s).ep

@[simp] theorem State.holdZone_ep (side : Side) (stamp : Stamp) (s : State) : (s.holdZone side stamp).ep = s.ep :=
  by simp [State.holdZone]

@[simp] theorem State.hearSeize_ep (side : Side) (s : State) : (s.hearSeize side).ep = s.ep := by
  unfold State.hearSeize
  dsimp only
  split_ifs <;> split <;> simp

@[simp] theorem State.hearRelease_ep (side : Side) (s : State) : (s.hearRelease side).ep = s.ep :=
  (State.hearRelease_linkStep side s).ep

@[simp] theorem State.hearRequest_ep (side : Side) (s : State) : (s.hearRequest side).ep = s.ep :=
  by unfold State.hearRequest; split <;> simp

@[simp] theorem State.neighbourSilent_ep (side : Side) (s : State) : (s.neighbourSilent side).ep = s.ep := by
  unfold State.neighbourSilent
  dsimp only
  split <;> simp

@[simp] theorem State.outstandingBack_ep (f : TxFrame) (side : Side) (s : State) : (s.outstandingBack f side).ep = s.ep := by
  unfold State.outstandingBack
  split <;> simp

@[simp] theorem State.seizeBack_ep (f : TxFrame) (side : Side) (stamp : Stamp) (s : State) : (s.seizeBack f side stamp).ep = s.ep := by
  unfold State.seizeBack
  dsimp only
  repeat' split
  all_goals simp

@[simp] theorem State.requestBack_ep (f : TxFrame) (side : Side) (s : State) : (s.requestBack f side).ep = s.ep := by
  unfold State.requestBack
  dsimp only
  split_ifs <;> simp

@[simp] theorem State.releaseBack_ep (side : Side) (s : State) : (s.releaseBack side).ep = s.ep := by
  unfold State.releaseBack
  dsimp only
  split_ifs <;> simp

@[simp] theorem State.yieldOver_ep (side : Side) (s : State) : (s.yieldOver side).ep = s.ep :=
  by unfold State.yieldOver; split <;> simp

@[simp] theorem State.selfLapsed_ep (side : Side) (s : State) : (s.selfLapsed side).ep = s.ep := by
  unfold State.selfLapsed
  dsimp only
  split <;> simp

@[simp] theorem State.retreatDone_ep (side : Side) (s : State) : (s.retreatDone side).ep = s.ep := by
  unfold State.retreatDone
  dsimp only
  split <;> simp

@[simp] theorem State.giveUpZone_ep (side : Side) (s : State) : (s.giveUpZone side).ep = s.ep := by
  unfold State.giveUpZone
  dsimp only
  rw [(State.resetZone_linkStep side _).ep]
  split_ifs <;> simp

@[simp] theorem State.giveUpZones_ep (s : State) : s.giveUpZones.ep = s.ep := by simp [State.giveUpZones]

@[simp] theorem State.resetZones_ep (s : State) : s.resetZones.ep = s.ep := (State.resetZones_linkStep s).ep

@[simp] theorem State.noZones_ep (s : State) : s.noZones.ep = s.ep := (State.noZones_linkStep s).ep

@[simp] theorem State.clearZones_ep (s : State) : s.clearZones.ep = s.ep := by
  unfold State.clearZones
  dsimp only
  split_ifs <;> simp

/-! ### DU -/

@[simp] theorem State.hearIntent_ep (j amount hole : Nat) (stamp : Stamp) (s : State) :
    (s.hearIntent j amount hole stamp).ep = s.ep := by
  unfold State.hearIntent
  split <;> simp

@[simp] theorem State.offerDraw_ep (a : DrawAction) (amount hole : Nat) (s : State) : (s.offerDraw a amount hole).ep = s.ep :=
  by simp [State.offerDraw]

@[simp] theorem State.queueIntent_ep (s : State) : s.queueIntent.ep = s.ep := by simp [State.queueIntent]

@[simp] theorem State.beginDraw_ep (hole amount : Nat) (s : State) : (s.beginDraw hole amount).ep = s.ep :=
  by simp [State.beginDraw]

@[simp] theorem State.withdraw_ep (s : State) : s.withdraw.ep = s.ep := by simp [State.withdraw]

@[simp] theorem State.freshIntent_ep (s : State) : s.freshIntent.ep = s.ep := by
  unfold State.freshIntent
  split
  · split <;> simp
  · simp

@[simp] theorem State.emptyDraw_ep (j : Nat) (s : State) : (s.emptyDraw j).ep = s.ep := by
  unfold State.emptyDraw State.removal
  split
  · rfl
  · split <;> simp

@[simp] theorem State.askPressure_ep (s : State) : s.askPressure.ep = s.ep := by simp [State.askPressure]

@[simp] theorem State.decideDraw_ep (s : State) : s.decideDraw.ep = s.ep := by unfold State.decideDraw; split <;> simp

@[simp] theorem State.supplyFails_ep (s : State) : s.supplyFails.ep = s.ep := by simp [State.supplyFails]

@[simp] theorem State.intentBack_ep (f : TxFrame) (amount hole : Nat) (stamp : Stamp) (s : State) :
    (s.intentBack f amount hole stamp).ep = s.ep := by
  unfold State.intentBack
  dsimp only
  split <;> simp

@[simp] theorem State.announceBack_ep (f : TxFrame) (s : State) : (s.announceBack f).ep = s.ep :=
  by unfold State.announceBack; split <;> simp

@[simp] theorem State.squeezeClosed_ep (normally : Bool) (s : State) : (s.squeezeClosed normally).ep = s.ep := by
  unfold State.squeezeClosed
  dsimp only
  split_ifs <;> simp

@[simp] theorem State.giveUpIntent_ep (s : State) : s.giveUpIntent.ep = s.ep := by
  unfold State.giveUpIntent
  dsimp only
  repeat' split
  all_goals simp

@[simp] theorem State.clearDraw_ep (s : State) : s.clearDraw.ep = s.ep := by
  unfold State.clearDraw
  dsimp only
  split <;> simp

/-! ### CS -/

@[simp] theorem State.takeEnding_ep (cause : EndCause) (through : Bool) (s : State) : (s.takeEnding cause through).ep = s.ep := by
  unfold State.takeEnding
  dsimp only
  repeat' split
  all_goals simp

@[simp] theorem State.writeOutcome_ep (c : Claim) (o : CycleOutcome) (frame : Bool) (s : State) :
    (s.writeOutcome c o frame).ep = s.ep := by
  unfold State.writeOutcome
  dsimp only
  repeat' split
  all_goals simp

@[simp] theorem State.revertOwn_ep (h : Nat) (s : State) : (s.revertOwn h).ep = s.ep := by
  unfold State.revertOwn
  repeat' split
  all_goals simp

@[simp] theorem State.endCycle_ep (s : State) : s.endCycle.ep = s.ep := by
  have hleft := foldl_ep fun t h => State.applyToEntry_ep h t
  unfold State.endCycle
  dsimp only
  repeat' split
  all_goals simp [hleft]

@[simp] theorem State.finishEnding_ep (cy : Cycle) (e : Ending) (s : State) : (s.finishEnding cy e).ep = s.ep := by
  unfold State.finishEnding
  dsimp only
  repeat' split
  all_goals simp

@[simp] theorem State.finishReporting_ep (cy : Cycle) (s : State) : (s.finishReporting cy).ep = s.ep := by
  unfold State.finishReporting
  repeat' split
  all_goals simp

@[simp] theorem State.haltCycle_ep (s : State) : s.haltCycle.ep = s.ep := by
  unfold State.haltCycle
  dsimp only
  repeat' split
  all_goals simp

@[simp] theorem State.commandDone_ep (c : Command) (stopped : Bool) (s : State) : (s.commandDone c stopped).ep = s.ep := by
  unfold State.commandDone
  dsimp only
  repeat' split
  all_goals simp

@[simp] theorem State.chooseGrip_ep (stack : Nat) (cy : Cycle) (s : State) : (s.chooseGrip stack cy).ep = s.ep :=
  by unfold State.chooseGrip; split <;> simp

@[simp] theorem State.proceedSet_ep (h : Nat) (cy : Cycle) (s : State) : (s.proceedSet h cy).ep = s.ep :=
  by unfold State.proceedSet; split <;> simp

@[simp] theorem State.reposition_ep (kind : SenseKind) (dx dy : Int) (cy : Cycle) (s : State) :
    (s.reposition kind dx dy cy).ep = s.ep := by
  unfold State.reposition
  dsimp only
  split_ifs <;> simp

@[simp] theorem State.judgeSense_ep (c : Claim) (kind : SenseKind) (dx dy : Int) (cy : Cycle) (s : State) :
    (s.judgeSense c kind dx dy cy).ep = s.ep := by
  unfold State.judgeSense
  dsimp only
  repeat' split
  all_goals simp

@[simp] theorem State.senseDone_ep (kind : SenseKind) (dx dy : Int) (s : State) : (s.senseDone kind dx dy).ep = s.ep := by
  unfold State.senseDone
  repeat' split
  all_goals simp

@[simp] theorem State.gaugeDone_ep (v : Nat) (s : State) : (s.gaugeDone v).ep = s.ep := by
  unfold State.gaugeDone
  dsimp only
  repeat' split
  all_goals simp

@[simp] theorem State.drillDone_ep (s : State) : s.drillDone.ep = s.ep := by
  unfold State.drillDone
  dsimp only
  repeat' split
  all_goals simp

@[simp] theorem State.thrustSample_ep (v : Nat) (s : State) : (s.thrustSample v).ep = s.ep := by
  unfold State.thrustSample
  dsimp only
  repeat' split
  all_goals rfl

@[simp] theorem State.squeezeEnds_ep (o : CycleOutcome) (normally : Bool) (s : State) : (s.squeezeEnds o normally).ep = s.ep :=
  by simp [State.squeezeEnds]

@[simp] theorem State.squeezeDone_ep (peak stroke : Nat) (s : State) : (s.squeezeDone peak stroke).ep = s.ep :=
  by unfold State.squeezeDone; split <;> simp

@[simp] theorem State.pressureDone_ep (v : Nat) (s : State) : (s.pressureDone v).1.ep = s.ep := by
  unfold State.pressureDone State.judgePressure
  dsimp only
  split_ifs <;> simp

@[simp] theorem State.cycleFails_ep (placed : List Command) (s : State) : (s.cycleFails placed).ep = s.ep := by
  unfold State.cycleFails
  dsimp only
  repeat' split
  all_goals simp

@[simp] theorem State.loneFails_ep (s : State) : s.loneFails.ep = s.ep := by
  unfold State.loneFails
  dsimp only
  repeat' split
  all_goals rfl

@[simp] theorem State.loneDone_ep (stopped : Bool) (s : State) : (s.loneDone stopped).ep = s.ep := by
  unfold State.loneDone
  repeat' split
  all_goals simp

@[simp] theorem State.clearanceStop_ep (s : State) : s.clearanceStop.ep = s.ep := by rw [State.clearanceStop_eq]

/-! ### The station's passages -/

@[simp] theorem State.dropSelection_ep (s : State) : s.dropSelection.ep = s.ep := by
  unfold State.dropSelection
  repeat' split
  all_goals simp

@[simp] theorem State.endLone_ep (how : LoneEnd) (s : State) : (s.endLone how).ep = s.ep := by
  unfold State.endLone
  repeat' split
  all_goals rfl

@[simp] theorem State.enterFaulted_ep (src : FaultSource) (s : State) : (s.enterFaulted src).ep = s.ep := by
  unfold State.enterFaulted
  dsimp only
  split <;> simp

@[simp] theorem State.supplyFaulted_ep (s : State) : s.supplyFaulted.ep = s.ep := by unfold State.supplyFaulted; split <;> simp

@[simp] theorem State.frameCycleStart_ep (s : State) : s.frameCycleStart.ep = s.ep :=
  by simp [State.frameCycleStart, State.dropDatums, State.resetDraw]

@[simp] theorem State.toIdle_ep (s : State) : s.toIdle.ep = s.ep := rfl

@[simp] theorem State.jigCloses_ep (s : State) : s.jigCloses.ep = s.ep := by unfold State.jigCloses; dsimp only; split <;> simp

@[simp] theorem State.jigOpens_ep (s : State) : s.jigOpens.ep = s.ep := by
  unfold State.jigOpens
  dsimp only
  repeat' split
  all_goals simp

@[simp] theorem State.land_ep (s : State) : s.land.ep = s.ep := by unfold State.land; split_ifs <;> simp

@[simp] theorem State.forgetPeers_ep (s : State) : s.forgetPeers.ep = s.ep := by simp [State.forgetPeers]

@[simp] theorem State.clearEvents_ep (s : State) : s.clearEvents.ep = s.ep := rfl

@[simp] theorem State.relevel_ep (s : State) : s.relevel.ep = s.ep := rfl

@[simp] theorem State.stationClear_ep (s : State) : s.stationClear.ep = s.ep := by
  unfold State.stationClear State.clearThrough
  split
  · simp [State.linkClear]
  · rfl

@[simp] theorem State.enterUnconfigured_ep (s : State) : s.enterUnconfigured.ep = s.ep :=
  by simp [State.enterUnconfigured, State.dropDatums, State.resetDraw]

@[simp] theorem State.configured_ep (s : State) : s.configured.ep = s.ep := by
  unfold State.configured State.passToIdle
  dsimp only
  split_ifs <;> simp [State.linkStart]

/-! ### Frames heard, read back or failed -/

@[simp] theorem State.settleConflict_ep (h : Heard) (n : Nat) (s : State) : (s.settleConflict h n).ep = s.ep := by
  unfold State.settleConflict
  repeat' split
  all_goals simp

@[simp] theorem State.hearHole_ep (h : Heard) (s : State) : (s.hearHole h).ep = s.ep := by
  unfold State.hearHole
  repeat' split
  all_goals simp

@[simp] theorem State.dispatchKind_ep (j : Nat) (b : Body) (stamp : Stamp) (s : State) : (s.dispatchKind j b stamp).ep = s.ep := by
  unfold State.dispatchKind State.applyDatum
  repeat' split
  all_goals simp

@[simp] theorem State.raiseFault_ep (e : EventSource) (src : FaultSource) (s : State) : (s.raiseFault e src).ep = s.ep :=
  by simp [State.raiseFault]

@[simp] theorem State.closeClaim_ep (f : TxFrame) (s : State) : (s.closeClaim f).ep = s.ep := by
  unfold State.closeClaim
  repeat' split
  all_goals rfl

@[simp] theorem State.confirmClaim_ep (sel : Selection) (c : Claim) (e : HoleEntry) (stamp : Stamp) (s : State) :
    (s.confirmClaim sel c e stamp).ep = s.ep := by
  simp [State.confirmClaim, State.countCycle]

@[simp] theorem State.claimBack_ep (f : TxFrame) (c : Claim) (stamp : Stamp) (s : State) : (s.claimBack f c stamp).ep = s.ep := by
  unfold State.claimBack
  dsimp only
  repeat' split
  all_goals simp

@[simp] theorem State.ownerBack_ep (f : TxFrame) (s : State) : (s.ownerBack f).ep = s.ep := by
  unfold State.ownerBack
  repeat' split
  all_goals simp [State.presenceBack]

@[simp] theorem State.readBack_ep (named : Body → Bool) (s : State) : (s.readBack named).ep = s.ep := by
  unfold State.readBack
  repeat' split
  all_goals simp

@[simp] theorem State.retryWithdrawal_ep (s : State) : s.retryWithdrawal.ep = s.ep := by
  unfold State.retryWithdrawal
  repeat' split
  all_goals simp

@[simp] theorem State.failAttempt_ep (s : State) : s.failAttempt.ep = s.ep := by
  unfold State.failAttempt
  dsimp only
  repeat' split
  all_goals simp [State.attemptEndsFailed]

@[simp] theorem State.silence_ep (j : Nat) (s : State) : (s.silence j).ep = s.ep :=
  by unfold State.silence; dsimp only; split <;> simp

@[simp] theorem State.lose_ep (j : Nat) (s : State) : (s.lose j).ep = s.ep := by unfold State.lose; dsimp only; split <;> simp

end Sys2Proof.Machine
end

section
/-! PROOFS. Before what follows at once, no command places anything on the way to the drive unit but HALT (R107, R116). -/

namespace Sys2Proof.Machine

open Sys2Proof (Byte Word Data Stamp Datum Side Instr)

/-- From s to t no command but HALT is newly placed: one in transfer at t was in transfer at s, with these or more words to go. -/
def State.NothingPlaced (s t : State) : Prop :=
  ∀ x, t.ep.transfer = some x → x.command = .halt ∨ ∃ r, s.ep.transfer = some { x with rest := r }

namespace State.NothingPlaced

theorem of_transfer {s t : State} (h : t.ep.transfer = s.ep.transfer) : NothingPlaced s t :=
  fun x hx => .inr ⟨x.rest, h ▸ hx⟩

theorem of_ep {s t : State} (h : t.ep = s.ep) : NothingPlaced s t := of_transfer (by rw [h])

theorem refl (s : State) : NothingPlaced s s := of_ep rfl

theorem of_none {s t : State} (h : t.ep.transfer = none) : NothingPlaced s t := fun x hx => by rw [h] at hx; cases hx

theorem trans {s t u : State} (h : NothingPlaced s t) (h' : NothingPlaced t u) : NothingPlaced s u := by
  intro x hx
  rcases h' x hx with hhalt | ⟨r, hr⟩
  · exact .inl hhalt
  · rcases h _ hr with hhalt | ⟨r', hr'⟩
    · exact .inl hhalt
    · exact .inr ⟨r', hr'⟩

end State.NothingPlaced

namespace State

open NothingPlaced

/-! ### Entry into HALTED, and the failures of the port (R113, R116, R170) -/

@[simp] theorem lowerFlag_transfer (s : State) : s.lowerFlag.ep.transfer = s.ep.transfer := by rw [lowerFlag_eq]

theorem haltPort_placed (s : State) {x : Transfer} (hx : s.haltPort.ep.transfer = some x) : x.command = .halt := by
  unfold haltPort at hx
  dsimp only at hx
  split at hx
  · simp at hx
  · simp only [placeHalt, Option.some.injEq] at hx
    rw [← hx]

theorem enterHalted_nothingPlaced (src : FaultSource) (s : State) : NothingPlaced s (s.enterHalted src) := by
  unfold enterHalted
  split
  case h_1 | h_2 => exact refl s
  all_goals
    intro x hx
    simp only [offerOwed_ep, setWork_ep, noZones_ep, linkHalt, haltCycle_ep] at hx
    exact .inl (haltPort_placed _ hx)

theorem clearanceHalt_nothingPlaced (c : HaltCheck) (s : State) : NothingPlaced s (s.clearanceHalt c) :=
  (of_ep (raise_ep _ s)).trans (enterHalted_nothingPlaced _ _)

theorem effectorFault_nothingPlaced (kind : FailKind) (deadly : Bool) (s : State) : NothingPlaced s (s.effectorFault kind deadly) := by
  unfold effectorFault
  dsimp only
  split
  · exact (of_ep (raise_ep _ s)).trans (enterHalted_nothingPlaced _ _)
  · exact of_ep (by simp)

/-- A failure at the port abandons what is in transfer; HALT alone may be placed. -/
theorem portFails_placed (kind : FailKind) (extra : Option Command) (s : State) {x : Transfer}
    (hx : (s.portFails kind extra).ep.transfer = some x) : x.command = .halt := by
  have hclosed : s.closeFailed.ep.transfer = none := by simp [closeFailed]
  unfold portFails at hx
  dsimp only at hx
  rcases effectorFault_nothingPlaced kind _ _ x hx with hhalt | ⟨r, hr⟩
  · exact hhalt
  · split at hr <;> simp [hclosed] at hr

theorem portFails_nothingPlaced (kind : FailKind) (extra : Option Command) (s : State) : NothingPlaced s (s.portFails kind extra) :=
  fun _ hx => .inl (portFails_placed kind extra s hx)

/-! ### The port's own rows (R107, R110, R112, R116) -/

theorem placeHalt_nothingPlaced (s : State) : NothingPlaced s s.placeHalt := by
  intro x hx
  simp only [placeHalt, Option.some.injEq] at hx
  exact .inl (by rw [← hx])

theorem commandTaken_transfer (c : Command) (u : PortUser) (s : State) : (s.commandTaken c u).ep.transfer = s.ep.transfer := by
  unfold commandTaken
  dsimp only
  repeat' split
  all_goals rfl

theorem resumeRises_nothingPlaced (s : State) : NothingPlaced s s.resumeRises := by
  unfold resumeRises
  dsimp only
  split <;> exact of_transfer rfl

/-- The next word of a command in transfer is placed, or the command is taken. -/
theorem resumeFalls_nothingPlaced (s : State) : NothingPlaced s s.resumeFalls := by
  unfold resumeFalls
  dsimp only
  split_ifs
  · exact placeHalt_nothingPlaced _
  · split
    · exact of_transfer rfl
    · rename_i t ht
      split
      · intro x hx
        simp only [raiseFlag, Option.some.injEq] at hx
        exact .inr ⟨t.rest, by rw [← hx]; exact ht⟩
      · exact of_none (commandTaken_transfer _ _ _)
  · exact of_transfer rfl

theorem responseLate_nothingPlaced (s : State) : NothingPlaced s s.responseLate := by
  unfold responseLate
  dsimp only
  split
  · exact refl s
  · split_ifs
    · exact placeHalt_nothingPlaced _
    · exact of_none (by simp)
    · exact portFails_nothingPlaced _ _ (s.reach _)

theorem completionLate_nothingPlaced (s : State) : NothingPlaced s s.completionLate := by
  unfold completionLate
  split
  · exact portFails_nothingPlaced _ _ (s.reach _)
  · exact refl s

theorem readyFalls_nothingPlaced (width : Nat) (s : State) : NothingPlaced s (s.readyFalls width) := by
  unfold readyFalls
  dsimp only
  split
  · exact fun x hx => .inl (portFails_placed _ _ _ hx)
  · exact of_ep rfl

/-! ### Report words (R111 to R115) -/

theorem clearanceChecks_nothingPlaced (s : State) : NothingPlaced s s.clearanceChecks := by
  unfold clearanceChecks
  split
  · exact clearanceHalt_nothingPlaced _ s
  · exact of_ep (by simp)

theorem positionHeard_nothingPlaced (st : OpenStream) (p : Nat) (s : State) : NothingPlaced s (s.positionHeard st p) := by
  unfold positionHeard
  dsimp only
  have hchecks := clearanceChecks_nothingPlaced
    { s with ep.ownPos := some p, ep.partialReport := [], ep.stream := some { st with lastPosition := some p } }
  split
  · exact hchecks.trans (clearanceHalt_nothingPlaced _ _)
  · exact hchecks

theorem doneCloses_nothingPlaced (st : OpenStream) (s : State) : NothingPlaced s (s.doneCloses st) := by
  refine of_transfer ?_
  unfold doneCloses travelCloses
  dsimp only
  split <;> split <;> simp

theorem acceptReport_nothingPlaced (st : OpenStream) (d : Data) (w : Accepted) (s : State) : NothingPlaced s (s.acceptReport st d w) := by
  cases w with
  | done => exact doneCloses_nothingPlaced st s
  | position p => exact positionHeard_nothingPlaced st p s
  | pressure v =>
    refine of_transfer ?_
    unfold acceptReport
    dsimp only
    split <;> simp
  | part | sample v | trailing | sense kind dx dy | gauge v | squeeze peak stroke =>
    refine of_transfer ?_
    simp [acceptReport]

theorem judgeWord_nothingPlaced (tag : Nat) (d : Data) (mark : Bool) (s : State) : NothingPlaced s (s.judgeWord tag d mark) := by
  unfold judgeWord
  split
  · exact refl s
  · split
    · split
      · exact refl s
      · exact portFails_nothingPlaced _ _ s
    · split_ifs
      · exact portFails_nothingPlaced _ _ s
      · exact portFails_nothingPlaced _ _ s
      · split
        · exact acceptReport_nothingPlaced _ _ _ s
        · exact portFails_nothingPlaced _ _ s

theorem takeWord_nothingPlaced (tag : Nat) (d : Data) (mark : Bool) (s : State) : NothingPlaced s (s.takeWord tag d mark) :=
  (of_transfer (s := s) rfl).trans (judgeWord_nothingPlaced tag d mark _)

/-! ### Frames heard (R55 to R60) -/

theorem hearPresence_nothingPlaced {s : State} (hs : s.ws.state.online = true) (j : Nat) (p : Presence) :
    NothingPlaced s (s.hearPresence j p) := by
  have happlied := (s.presenceApplied_spec j p).ep
  rcases hearPresence_ends hs j p with ⟨c, hhalts, -⟩ | ⟨-, -, g, hg, hends⟩
  · rw [hhalts]
    exact (of_ep happlied).trans (clearanceHalt_nothingPlaced c _)
  · refine of_ep ?_
    rw [hends, apply_ite State.ep, reconcileClaims_ep, ite_self, hg.ep]
    split <;> simp [happlied]

theorem hearFrame_nothingPlaced (bytes : List Byte) (s : State) : NothingPlaced s (s.hearFrame bytes) := by
  unfold hearFrame
  dsimp only
  split_ifs
  case pos => exact of_ep rfl
  case neg => exact of_ep rfl
  rename_i hs
  refine (of_ep (s := s) rfl).trans (t := State.takeStamp { s with lc.rxBuffer := bytes, lc.quiet := some Config.frameEndRest }) ?_
  unfold receive
  split
  · exact refl _
  · split_ifs
    · exact refl _
    · exact of_ep (by simp [hearForeign])
    · split
      · exact refl _
      · unfold dispatch
        split
        · exact hearPresence_nothingPlaced hs _ _
        · split <;> exact of_ep (by simp)

/-! ### Timers -/

theorem expire_nothingPlaced (due : Option Nat) {effect : State → State} (h : ∀ s, NothingPlaced s (effect s)) (s : State) :
    NothingPlaced s (s.expire due effect) := by
  cases due with
  | none => exact refl s
  | some t => exact (of_ep (reach_ep t s)).trans (h _)

theorem expire_ep (due : Option Nat) {effect : State → State} (h : ∀ s, (effect s).ep = s.ep) (s : State) :
    NothingPlaced s (s.expire due effect) :=
  expire_nothingPlaced due (fun s => of_ep (h s)) s

end State

end Sys2Proof.Machine
end

section
/-! PROOFS. What a command in transfer was placed upon stands through what follows at once (R70, R110, R119, R124). -/

namespace Sys2Proof.Machine

open Sys2Proof (Byte Word Data Stamp Datum Side Instr)

/-- The cycle has a command placed and not yet ended, and no ending is winding it up. -/
def Cycle.busy (cy : Cycle) : Prop := cy.winding = false ∧ ∃ c, cy.task = .placed c

/-- From s to t every zone keeps its bounds, and one HELD-OWN stays so. -/
def State.ZonesKept (s t : State) : Prop :=
  ∀ side, (t.zone side).bounds = (s.zone side).bounds ∧ ((s.zone side).state = .heldOwn → (t.zone side).state = .heldOwn)

/-- What the placing of a command rests on stands from s to t: the transfer, PT's view, the zones, and for a busy cycle its record,
the own intent, the entries but for corrections owed, and the zones held for it. -/
structure State.Upholds (s t : State) : Prop where
  transfer : t.ep.transfer = s.ep.transfer
  kept : t.kept = s.kept
  zones : s.ZonesKept t
  busy : ∀ cy, s.cs.cycle = some cy → cy.busy → t.cs.cycle = some cy ∧ t.du = s.du
    ∧ t.ht.map HoleEntry.unowed = s.ht.map HoleEntry.unowed ∧ ∀ side, s.zoneHeld side = true → t.zoneHeld side = true

/-! ### Zones -/

namespace State.ZonesKept

theorem of_zone {s t : State} (h : ∀ side, t.zone side = s.zone side) : ZonesKept s t := fun side => by rw [h side]; exact ⟨rfl, id⟩

theorem of_zc {s t : State} (h : t.zc = s.zc) : ZonesKept s t := of_zone fun side => by rw [State.zone, h, State.zone]

theorem trans {s t u : State} (h : ZonesKept s t) (h' : ZonesKept t u) : ZonesKept s u := fun side =>
  ⟨(h' side).1.trans (h side).1, fun hs => (h' side).2 ((h side).2 hs)⟩

end State.ZonesKept

namespace State

theorem onZone_zone_other {side other : Side} (h : other ≠ side) (f : ZoneRecord → ZoneRecord) (s : State) :
    (s.onZone side f).zone other = s.zone other := putZone_zone_other h _ s

theorem onZone_zonesKept {side : Side} {f : ZoneRecord → ZoneRecord} {s : State}
    (hbounds : (f (s.zone side)).bounds = (s.zone side).bounds)
    (hstate : (s.zone side).state = .heldOwn → (f (s.zone side)).state = .heldOwn) : ZonesKept s (s.onZone side f) := by
  intro other
  by_cases h : other = side
  · subst h
    rw [onZone_zone]
    exact ⟨hbounds, hstate⟩
  · rw [onZone_zone_other h]
    exact ⟨rfl, id⟩

/-! ### What leaves ZC's records alone -/

@[simp] theorem putEntry_zc (h : Nat) (e : HoleEntry) (s : State) : (s.putEntry h e).zc = s.zc := by rw [putEntry_eq]

theorem queueOwed_zc (h : Nat) (s : State) : (s.queueOwed h).zc = s.zc := by
  unfold queueOwed
  split
  · rfl
  · simp

theorem admitOne_zc (s : State) : s.admitOne.zc = s.zc := by
  unfold admitOne
  dsimp only
  repeat' split
  all_goals simp [queueOwed_zc]

theorem repeatState_zc {f : State → State} (h : ∀ s, (f s).zc = s.zc) (n : Nat) (s : State) : (repeatState f n s).zc = s.zc :=
  repeatState_keeps (P := fun t => t.zc = s.zc) (fun t ht => (h t).trans ht) n s rfl

@[simp] theorem admitHeld_zc (s : State) : s.admitHeld.zc = s.zc := repeatState_zc admitOne_zc _ s

@[simp] theorem offerOwed_zc (s : State) : s.offerOwed.zc = s.zc := by
  unfold offerOwed
  dsimp only
  generalize hu : repeatState _ s.ht.length s = u
  have hzc : u.zc = s.zc := by
    rw [← hu]
    refine repeatState_zc (fun t => ?_) _ s
    repeat' split
    all_goals simp [queueOwed_zc]
  repeat' split
  all_goals exact hzc

@[simp] theorem removeFrame_zc (id : Nat) (s : State) : (s.removeFrame id).zc = s.zc := by
  unfold removeFrame
  split <;> simp

@[simp] theorem applyToEntry_zc (h : Heard) (s : State) : (s.applyToEntry h).zc = s.zc := by
  unfold applyToEntry
  repeat' split
  all_goals simp

@[simp] theorem writeOutcome_zc (c : Claim) (o : CycleOutcome) (frame : Bool) (s : State) : (s.writeOutcome c o frame).zc = s.zc := by
  unfold writeOutcome
  dsimp only
  repeat' split
  all_goals simp

@[simp] theorem revertOwn_zc (h : Nat) (s : State) : (s.revertOwn h).zc = s.zc := by
  unfold revertOwn
  repeat' split
  all_goals simp

@[simp] theorem endCycle_zc (s : State) : s.endCycle.zc = s.zc := by
  have hleft (l : List Heard) (t : State) : (l.foldl (fun t h => t.applyToEntry h) t).zc = t.zc := by
    induction l generalizing t with
    | nil => rfl
    | cons h l ih => rw [List.foldl_cons, ih, applyToEntry_zc]
  unfold endCycle
  dsimp only
  repeat' split
  all_goals simp [hleft]

theorem finishEnding_zc (cy : Cycle) (e : Ending) (s : State) : (s.finishEnding cy e).zc = s.zc := by
  unfold finishEnding
  dsimp only
  repeat' split
  all_goals simp

theorem finishReporting_zc (cy : Cycle) (s : State) : (s.finishReporting cy).zc = s.zc := by
  unfold finishReporting
  repeat' split
  all_goals simp

end State

/-! ### What stands from one state to another -/

theorem State.LinkStep.du {s t : State} (h : s.LinkStep t) : t.du = s.du := by rw [h.frame]

namespace State.Upholds

theorem of_frame {s t : State} (htransfer : t.ep.transfer = s.ep.transfer) (hkept : t.kept = s.kept) (hzc : t.zc = s.zc)
    (hcycle : t.cs.cycle = s.cs.cycle) (hdu : t.du = s.du) (hht : t.ht.map HoleEntry.unowed = s.ht.map HoleEntry.unowed) :
    Upholds s t := by
  refine ⟨htransfer, hkept, .of_zc hzc, fun cy hcy _ => ⟨hcycle ▸ hcy, hdu, hht, fun side hside => ?_⟩⟩
  rwa [State.zoneHeld, State.zone, hzc]

theorem refl (s : State) : Upholds s s := of_frame rfl rfl rfl rfl rfl rfl

theorem of_linkStep {s t : State} (h : LinkStep s t) (hkept : t.kept = s.kept) (hzones : ZonesKept s t)
    (hheld : ∀ side, s.zoneHeld side = true → t.zoneHeld side = true) : Upholds s t :=
  ⟨by rw [h.ep], hkept, hzones, fun cy hcy _ => ⟨by rw [h.cs, hcy], h.du, h.unowed_ht, hheld⟩⟩

/-- Where no cycle is busy the transfer, PT's view and the zones are all there is to uphold. -/
theorem of_not_busy {s t : State} (hnot : ∀ cy, s.cs.cycle = some cy → ¬ cy.busy) (htransfer : t.ep.transfer = s.ep.transfer)
    (hkept : t.kept = s.kept) (hzones : ZonesKept s t) : Upholds s t :=
  ⟨htransfer, hkept, hzones, fun cy hcy hbusy => absurd hbusy (hnot cy hcy)⟩

theorem trans {s t u : State} (h : Upholds s t) (h' : Upholds t u) : Upholds s u := by
  refine ⟨h'.transfer.trans h.transfer, h'.kept.trans h.kept, h.zones.trans h'.zones, fun cy hcy hbusy => ?_⟩
  obtain ⟨hcy', hdu, hht, hheld⟩ := h.busy cy hcy hbusy
  obtain ⟨hcy'', hdu', hht', hheld'⟩ := h'.busy cy hcy' hbusy
  exact ⟨hcy'', hdu'.trans hdu, hht'.trans hht, fun side hside => hheld' side (hheld side hside)⟩

end State.Upholds

namespace State

/-! ### The steps of a pass that place nothing -/

theorem dropSelection_upholds (s : State) : Upholds s s.dropSelection := by
  have hdrop (id : Nat) (t : State) : Upholds t (t.removeFrame id) :=
    .of_linkStep (removeFrame_linkStep id t) (by simp) (.of_zc (by simp)) fun side h => by rwa [zoneHeld, zone, removeFrame_zc]
  unfold dropSelection
  repeat' split
  case h_1.isFalse | h_2.isFalse =>
    exact (Upholds.of_frame (s := s) (t := { s with ws.selection := none }) rfl (by simp) rfl rfl rfl rfl).trans (hdrop _ _)
  all_goals exact .of_frame rfl (by simp) rfl rfl rfl rfl

theorem stepSelection_upholds (s : State) : Upholds s s.stepSelection := by
  unfold stepSelection
  split
  · exact .refl s
  · split
    · split
      · exact .refl s
      · exact .of_frame rfl (by simp) rfl rfl rfl rfl
    · split
      · exact dropSelection_upholds s
      · exact .refl s
    · exact .refl s

theorem stepConditions_upholds (s : State) : Upholds s s.stepConditions := by
  refine .of_frame ?_ (by simp) ?_ ?_ ?_ ?_ <;>
  · unfold stepConditions toWorking
    dsimp only
    repeat' split
    all_goals rfl

theorem stepFinish_upholds (s : State) : Upholds s s.stepFinish := by
  refine .of_frame ?_ (by simp) ?_ ?_ ?_ ?_ <;>
  · unfold stepFinish toWorking toFinished
    dsimp only
    repeat' split
    all_goals rfl

theorem offerOwed_upholds (s : State) : Upholds s s.offerOwed :=
  .of_linkStep (offerOwed_linkStep s) (by simp) (.of_zc (by simp)) fun side h => by rwa [zoneHeld, zone, offerOwed_zc]

/-! ### Zones in a pass (R74, R76) -/

/-- From s to t no zone but this one has changed, and it has its bounds still. -/
def ZoneAlone (side : Side) (s t : State) : Prop :=
  (∀ other, other ≠ side → t.zone other = s.zone other) ∧ (t.zone side).bounds = (s.zone side).bounds

namespace ZoneAlone

theorem of_zc {side : Side} {s t : State} (h : t.zc = s.zc) : ZoneAlone side s t :=
  ⟨fun other _ => by rw [State.zone, h, State.zone], by rw [State.zone, h, State.zone]⟩

theorem trans {side : Side} {s t u : State} (h : ZoneAlone side s t) (h' : ZoneAlone side t u) : ZoneAlone side s u :=
  ⟨fun other hne => (h'.1 other hne).trans (h.1 other hne), h'.2.trans h.2⟩

theorem onZone {side : Side} {f : ZoneRecord → ZoneRecord} (h : ∀ z, (f z).bounds = z.bounds) (s : State) :
    ZoneAlone side s (s.onZone side f) :=
  ⟨fun _ hne => onZone_zone_other hne f s, by rw [onZone_zone, h]⟩

end ZoneAlone

theorem dropOutstanding_zoneAlone (side : Side) (s : State) : ZoneAlone side s (s.dropOutstanding side) := by
  unfold dropOutstanding
  dsimp only
  split_ifs
  · exact .of_zc rfl
  · exact .of_zc rfl
  · refine (ZoneAlone.of_zc (removeFrame_zc (s.zone side).frameId s)).trans (.onZone ?_ _)
    exact fun _ => rfl

theorem tidyOutstanding_zoneAlone (side : Side) (st : ZoneState) (s : State) : ZoneAlone side s (s.tidyOutstanding side st) := by
  have hdrop := dropOutstanding_zoneAlone side s
  unfold tidyOutstanding
  split
  case h_4 | h_6 => exact .of_zc rfl
  all_goals exact hdrop

theorem ZoneRecord.entering_bounds (st : ZoneState) (z : ZoneRecord) : (z.entering st).bounds = z.bounds := by
  unfold ZoneRecord.entering
  dsimp only
  split <;> rfl

theorem zoneTo_zoneAlone (side : Side) (st : ZoneState) (s : State) : ZoneAlone side s (s.zoneTo side st) := by
  unfold zoneTo
  dsimp only
  split
  · exact .onZone (ZoneRecord.entering_bounds st) s
  · exact (tidyOutstanding_zoneAlone side st s).trans (.onZone (ZoneRecord.entering_bounds st) _)

theorem applyBlock_zoneAlone (side : Side) (s : State) : ZoneAlone side s (s.applyBlock side) := by
  unfold applyBlock
  split
  case h_1 | h_2 | h_3 => exact .of_zc rfl
  all_goals
    split
    · exact zoneTo_zoneAlone side .blocked s
    · exact .of_zc rfl

theorem zoneChange_zoneAlone (side : Side) (st : ZoneState) (s : State) : ZoneAlone side s (s.zoneChange side st) :=
  (zoneTo_zoneAlone side st s).trans (applyBlock_zoneAlone side _)

/-- A zone that is not HELD-OWN may change its state (R74). -/
theorem zoneChange_upholds {side : Side} {s : State} (hfree : (s.zone side).state ≠ .heldOwn) (st : ZoneState) :
    Upholds s (s.zoneChange side st) := by
  obtain ⟨hother, hbounds⟩ := zoneChange_zoneAlone side st s
  refine .of_linkStep (zoneChange_linkStep side st s) (by simp) (fun z => ?_) fun z hz => ?_
  · by_cases h : z = side
    · subst h
      exact ⟨hbounds, fun hheld => absurd hheld hfree⟩
    · rw [hother z h]
      exact ⟨rfl, id⟩
  · have h : z ≠ side := by
      rintro rfl
      exact hfree ((s.zoneHeld_iff z).mp hz).1
    rwa [zoneHeld, hother z h]

/-- A zone's fields other than state, progress and bounds may change with LC's frames (R72, R74). -/
theorem offerThenOnZone_upholds {side : Side} {f : ZoneRecord → ZoneRecord} (hbounds : ∀ z, (f z).bounds = z.bounds)
    (hstate : ∀ z, (f z).state = z.state) (hprogress : ∀ z, (f z).progress = z.progress) (a : ZoneAction) (s : State) :
    Upholds s ((s.offerZone side a).onZone side f) := by
  have hoffer : (s.offerZone side a).zone side = s.zone side := by rw [offerZone, zone, offer_zc, zone]
  have hother (z : Side) (h : z ≠ side) : ((s.offerZone side a).onZone side f).zone z = s.zone z := by
    rw [onZone_zone_other h, offerZone, zone, offer_zc, zone]
  refine .of_linkStep ((offer_linkStep _ _ s).trans (onZone_linkStep _ _ _)) (by simp) (fun z => ?_) fun z hz => ?_
  · by_cases h : z = side
    · subst h
      rw [onZone_zone, hoffer]
      exact ⟨hbounds _, fun hheld => (hstate _).trans hheld⟩
    · rw [hother z h]
      exact ⟨rfl, id⟩
  · by_cases h : z = side
    · subst h
      rwa [zoneHeld, onZone_zone, hoffer, hstate, hprogress]
    · rwa [zoneHeld, hother z h]

theorem sendOutstanding_upholds (side : Side) (o : Outstanding) (a : ZoneAction) (s : State) :
    Upholds s (s.sendOutstanding side o a) :=
  offerThenOnZone_upholds (f := fun z => { z with outstanding := o, frameId := s.lc.nextId })
    (fun _ => rfl) (fun _ => rfl) (fun _ => rfl) a s

theorem not_busy_of_none {s : State} (h : s.cs.cycle = none) : ∀ cy, s.cs.cycle = some cy → ¬ cy.busy := by simp [h]

theorem withdrawRequest_upholds (side : Side) (s : State) : Upholds s (s.withdrawRequest side) := by
  unfold withdrawRequest
  split
  · rename_i h
    simp only [Bool.and_eq_true, decide_eq_true_eq] at h
    exact zoneChange_upholds (by rw [h.1]; decide) _
  · exact .refl s

/-- A release is considered only while no cycle is in flight (R76). -/
theorem considerRelease_upholds (side : Side) (s : State) : Upholds s (s.considerRelease side) := by
  unfold considerRelease
  dsimp only
  split
  · rename_i h
    simp only [Bool.and_eq_true, Option.isNone_iff_eq_none] at h
    exact .of_not_busy (not_busy_of_none h.1.2) (by simp) (by simp) (onZone_zonesKept rfl id)
  · exact .refl s

/-- A release is carried out only while no cycle is in flight (R76). -/
theorem carryRelease_upholds (side : Side) (s : State) : Upholds s (s.carryRelease side) := by
  unfold carryRelease
  dsimp only
  split
  case isFalse => exact .refl s
  case isTrue h =>
    simp only [Bool.and_eq_true, Option.isNone_iff_eq_none] at h
    have hnot := not_busy_of_none h.2
    split
    · exact .of_not_busy hnot (by simp) (by simp) ((ZonesKept.of_zc (by simp [offerZone])).trans (onZone_zonesKept rfl id))
    · split
      · split
        · exact .refl s
        · refine .of_not_busy hnot (by simp) (by simp) ?_
          exact (ZonesKept.of_zc (s := s) rfl).trans (onZone_zonesKept rfl id)
      · exact .refl s

theorem stepZones_upholds (s : State) : Upholds s s.stepZones :=
  have hzone (side : Side) (t : State) : Upholds t (t.stepZone side) :=
    ((withdrawRequest_upholds side t).trans (considerRelease_upholds side _)).trans (carryRelease_upholds side _)
  (hzone .left s).trans (hzone .right _)

theorem stepRequests_upholds (s : State) : Upholds s s.stepRequests := by
  have hrequest (side : Side) (t : State) : Upholds t (t.makeRequest side) := by
    unfold makeRequest
    dsimp only
    split
    · exact sendOutstanding_upholds side _ _ t
    · exact .refl t
  exact (hrequest .left s).trans (hrequest .right _)

/-! ### Selection (R97 to R99) -/

theorem askSeize_upholds {side : Side} {sel : Selection} {s t : State} (h : s.askSeize side sel = some t) : Upholds s t := by
  unfold askSeize at h
  split at h
  · cases h
    exact (sendOutstanding_upholds side .seize .seize s).trans (.of_frame rfl (by simp) rfl rfl rfl rfl)
  · cases h
    exact .of_frame rfl (by simp) rfl rfl rfl rfl
  · cases h

theorem takeChoice_upholds (ch : Choice) (s : State) : Upholds s (s.takeChoice ch).1 := by
  have hclaim : Upholds s (s.offerClaim ch) := by
    unfold offerClaim
    dsimp only
    split
    · exact .refl s
    · exact .of_frame (by simp) (by simp) (by simp) (by simp) (by simp) (by simp)
  unfold takeChoice
  split
  · exact hclaim
  · split
    · exact hclaim
    · split
      · exact askSeize_upholds ‹_›
      · exact .refl s

/-- A datum cycle is taken where none is in flight. -/
theorem takeDatum_upholds {s : State} (hnone : s.cs.cycle = none) (t : Int × Int) (z : Option Side) : Upholds s (s.takeDatum t z) := by
  refine .of_not_busy (not_busy_of_none hnone) ?_ (by simp) fun side => ?_
  · unfold takeDatum countCycle
    split <;> simp
  · unfold takeDatum countCycle
    split
    · simp [zone, probeFailed]
    · cases side <;> simp [zone, ZoneController.zone, ZoneRecord.countCycle] <;> split <;> simp

theorem choose_upholds {s : State} (hnone : s.cs.cycle = none) (refused : List Side) : Upholds s (s.choose refused).1 := by
  unfold choose
  split
  · split
    · exact takeDatum_upholds hnone _ _
    · split
      · exact takeDatum_upholds hnone _ _
      · split
        · exact askSeize_upholds ‹_›
        · exact .refl s
  · split
    · split
      · exact takeChoice_upholds _ s
      · split
        · exact takeChoice_upholds _ s
        · exact .refl s
    · exact .refl s

theorem takeChoice_refused {ch : Choice} {s t : State} {side : Side} (h : s.takeChoice ch = (t, some side)) : t = s := by
  unfold takeChoice at h
  split at h
  · cases h
  · split at h
    · cases h
    · split at h
      · cases h
      · exact (Prod.mk.inj h).1.symm

/-- Where a zone refuses the ask nothing has been done. -/
theorem choose_refused {s t : State} {refused : List Side} {side : Side} (h : s.choose refused = (t, some side)) : t = s := by
  unfold choose at h
  split at h
  · split at h
    · cases h
    · split at h
      · cases h
      · split at h
        · cases h
        · exact (Prod.mk.inj h).1.symm
  · split at h
    · split at h
      · exact takeChoice_refused h
      · split at h
        · exact takeChoice_refused h
        · cases h
    · cases h

theorem select_upholds {s : State} (hnone : s.cs.cycle = none) (n : Nat) (refused : List Side) : Upholds s (State.select n refused s) := by
  induction n generalizing refused with
  | zero => exact .refl s
  | succ n ih =>
    have hchoose := choose_upholds hnone refused
    unfold State.select
    split
    · rename_i heq
      rwa [heq] at hchoose
    · rename_i heq
      rw [choose_refused heq]
      exact ih _

theorem stepSelect_upholds (s : State) : Upholds s s.stepSelect := by
  unfold stepSelect
  split
  · rename_i h
    simp only [maySelect, quietPoint, Bool.and_eq_true, Option.isNone_iff_eq_none] at h
    exact select_upholds h.1.1.1.1.1.1.2.1 3 []
  · exact .refl s

end State
end Sys2Proof.Machine
end

section
/-! PROOFS. A TRAVEL or a SQUEEZE is placed where the rules allow it, and stays so through the pass that places it (R40, R65, R70, R124). -/

namespace Sys2Proof.Machine

open Sys2Proof (Byte Word Data Stamp Datum Side Instr)

/-- What is in transfer, a TRAVEL or a SQUEEZE, stands where the rules let it be placed; a cycle's with its cycle busy at it. -/
structure State.PlacedRightly (s : State) : Prop where
  travel : ∀ p u r, s.ep.transfer = some ⟨.travel p, u, r⟩ → s.cfg.withinTravel p = true ∧ s.permitted p = true
    ∧ (u = .cycle → (∃ cy, s.cs.cycle = some cy ∧ cy.busy) ∧ s.zoneStands (s.cycleZone p) = true)
    ∧ (u = .lone → ∀ side, s.zoneAt p = some side → (s.zone side).state = .heldOwn)
  squeeze : ∀ a b u r, s.ep.transfer = some ⟨.squeeze a b, u, r⟩ → ∃ cy w, s.cs.cycle = some cy ∧ cy.busy ∧ cy.work = .hole w
    ∧ s.setOrder w.hole = true ∧ s.du.own.state = .squeezing

/-- The commands whose placing PT, ZC and HT have no say in. -/
def Command.unruled : Command → Bool
  | .travel _ | .squeeze .. => false
  | _ => true

namespace State

/-! ### What PT's answer, the zones and the set order are made of -/

section
variable {s t : State}

theorem cfg_of_kept (h : t.kept = s.kept) : t.cfg = s.cfg := cfg_congr (congrArg Kept.setup h)

theorem permitted_of_kept (h : t.kept = s.kept) (p : Nat) : t.permitted p = s.permitted p := by
  have hcfg := cfg_of_kept h
  have hown : t.own = s.own := by rw [own, hcfg, show t.ep.ownPos = s.ep.ownPos from congrArg Kept.ownPos h, own]
  have hpeer (j : Nat) : t.peer j = s.peer j := peer_congr (congrArg Kept.peers h) j
  rw [Bool.eq_iff_iff, permitted_iff, permitted_iff]
  simp only [hcfg, hown, hpeer]

theorem effectorReady_of_kept (h : t.kept = s.kept) : t.effectorReady = s.effectorReady := by
  rw [effectorReady, show t.lines.readyLowUntil = s.lines.readyLowUntil from congrArg Kept.readyLowUntil h,
    show t.clock = s.clock from congrArg Kept.clock h, effectorReady]

theorem ZonesKept.zoneAt (h : ZonesKept s t) (x : Int) : t.zoneAt x = s.zoneAt x := by
  have hl : t.zc.left.bounds = s.zc.left.bounds := (h .left).1
  have hr : t.zc.right.bounds = s.zc.right.bounds := (h .right).1
  rw [State.zoneAt, hl, hr, State.zoneAt]

/-- The set order condition looks at the states of entries, and not at corrections owed. -/
theorem setOrder_of_unowed (hps : t.ps = s.ps) (hht : t.ht.map HoleEntry.unowed = s.ht.map HoleEntry.unowed) (h : Nat) :
    t.setOrder h = s.setOrder h := by
  have hstate (m : Nat) : (t.ht[m]?).map HoleEntry.state = (s.ht[m]?).map HoleEntry.state := by
    have hm := congrArg (fun l => (l[m]?).map HoleEntry.state) hht
    simp only [List.getElem?_map, Option.map_map] at hm
    exact hm
  unfold setOrder
  rw [hps]
  dsimp only
  congr 3 <;> funext m
  all_goals
    have hm := hstate m
    cases ht : t.ht[m]? <;> cases hs : s.ht[m]? <;> simp_all

end

/-! ### What stands, stays rightly placed -/

theorem PlacedRightly.of_unruled {s : State} (h : ∀ x, s.ep.transfer = some x → x.command.unruled = true) : s.PlacedRightly :=
  ⟨fun _ _ _ hx => absurd (h _ hx) Bool.false_ne_true, fun _ _ _ _ hx => absurd (h _ hx) Bool.false_ne_true⟩

theorem PlacedRightly.of_none {s : State} (h : s.ep.transfer = none) : s.PlacedRightly :=
  .of_unruled fun x hx => by rw [h] at hx; cases hx

theorem Upholds.placedRightly {s t : State} (h : s.Upholds t) (hs : s.PlacedRightly) : t.PlacedRightly := by
  refine ⟨fun p u r hx => ?_, fun a b u r hx => ?_⟩
  · obtain ⟨hin, hclear, hcycle, hlone⟩ := hs.travel p u r (h.transfer ▸ hx)
    refine ⟨cfg_of_kept h.kept ▸ hin, permitted_of_kept h.kept p ▸ hclear, fun hu => ?_, fun hu side hside => ?_⟩
    · obtain ⟨⟨cy, hcy, hbusy⟩, hzone⟩ := hcycle hu
      obtain ⟨hcy', -, -, hheld⟩ := h.busy cy hcy hbusy
      refine ⟨⟨cy, hcy', hbusy⟩, ?_⟩
      rw [cycleZone_eq hcy', h.zones.zoneAt, ← cycleZone_eq hcy]
      cases hz : s.cycleZone p with
      | none => rfl
      | some side =>
        rw [hz] at hzone
        exact hheld side hzone
    · rw [h.zones.zoneAt] at hside
      exact (h.zones side).2 (hlone hu side hside)
  · obtain ⟨cy, w, hcy, hbusy, hwork, horder, hstate⟩ := hs.squeeze a b u r (h.transfer ▸ hx)
    obtain ⟨hcy', hdu, hht, -⟩ := h.busy cy hcy hbusy
    exact ⟨cy, w, hcy', hbusy, hwork, setOrder_of_unowed (congrArg Kept.ps h.kept) hht _ ▸ horder, hdu ▸ hstate⟩

/-- A step of a pass: what a command in transfer rests on stands, or the port was free and what is in transfer now is rightly placed. -/
def Passes (s t : State) : Prop := s.Upholds t ∨ (s.ep.transfer = none ∧ t.PlacedRightly)

namespace Passes

theorem refl (s : State) : Passes s s := .inl (.refl s)

theorem trans {s t u : State} (h : Passes s t) (h' : Passes t u) : Passes s u := by
  rcases h with h | ⟨hfree, ht⟩ <;> rcases h' with h' | ⟨hfree', hu⟩
  · exact .inl (h.trans h')
  · exact .inr ⟨h.transfer ▸ hfree', hu⟩
  · exact .inr ⟨hfree, h'.placedRightly ht⟩
  · exact .inr ⟨hfree, hu⟩

/-- The port free before and after. -/
theorem of_none {s t : State} (h : s.ep.transfer = none) (h' : t.ep.transfer = none) : Passes s t := .inr ⟨h, .of_none h'⟩

end Passes

/-! ### Placing (R107, R110) -/

theorem transfer_of_canPlace {s : State} {c : Command} (h : s.canPlace c = true) : s.ep.transfer = none := by
  simp only [canPlace, Bool.and_eq_true, Option.isNone_iff_eq_none] at h
  exact h.1.1.1.1

theorem portFails_placedRightly (kind : FailKind) (extra : Option Command) (s : State) : (s.portFails kind extra).PlacedRightly :=
  .of_unruled fun _ hx => by rw [portFails_placed kind extra s hx]; rfl

theorem placeCommand_placedRightly {c : Command} (hc : c.unruled = true) (u : PortUser) (s : State) :
    (s.placeCommand c u).PlacedRightly := by
  unfold placeCommand
  split
  · refine .of_unruled fun x hx => ?_
    simp only [raiseFlag, Option.some.injEq] at hx
    rw [← hx]
    exact hc
  · exact portFails_placedRightly _ _ s

theorem placeForCycle_placedRightly {c : Command} (hc : c.unruled = true) (f : Cycle → Cycle) (s : State) :
    (s.placeForCycle c f).PlacedRightly := placeCommand_placedRightly hc .cycle _

/-- With EFFECTOR READY inactive a command to place fails. -/
theorem placeForCycle_unready {s : State} (h : s.effectorReady = false) (c : Command) (f : Cycle → Cycle) :
    (s.placeForCycle c f).PlacedRightly := by
  have hunready : (s.onCycle fun cy => { f cy with task := .placed c }).effectorReady = false := h
  rw [placeForCycle, placeCommand, hunready]
  exact portFails_placedRightly _ _ _

/-! ### The interjection -/

theorem placeInterject_passes (s : State) : Passes s s.placeInterject := by
  unfold placeInterject
  split
  · exact .refl s
  · rename_i c hc
    dsimp only
    split_ifs with hbusy hopen hplace
    · exact .refl s
    · refine .inr ⟨transfer_of_canPlace hplace, placeCommand_placedRightly ?_ _ _⟩
      simp only [canPlace, Bool.and_eq_true, Bool.or_eq_true] at hplace
      simp only [Bool.and_eq_true] at hopen
      obtain ⟨-, hkind⟩ := hplace
      cases c <;> simp_all [Command.unruled, Command.interjection, motionStream]
    · exact .refl s
    · exact .inl (.of_frame rfl (by simp) rfl rfl rfl rfl)

/-! ### The cycle's next action -/

section
variable {s : State} {cy : Cycle} (hcy : s.cs.cycle = some cy)
include hcy

theorem tryTravel_passes (hw : cy.winding = false) {p : Nat} (hplace : s.canPlace (.travel p) = true) (asked : Bool) :
    Passes s (s.tryTravel p asked) := by
  have hfree := transfer_of_canPlace hplace
  unfold tryTravel
  dsimp only
  split_ifs with hout hwait hlost hclear
  · exact .refl s
  · exact .refl s
  · exact .of_none hfree (by simpa using hfree)
  · refine .inr ⟨hfree, ?_⟩
    cases hready : s.effectorReady with
    | false => exact placeForCycle_unready hready _ _
    | true =>
      rw [placeForCycle_ready hcy hready]
      refine ⟨fun q u r hx => ?_, fun _ _ _ _ hx => by cases hx⟩
      cases hx
      have hin : s.cfg.withinTravel p = true := by simpa using hout
      refine ⟨hin, hclear, fun _ => ⟨⟨_, rfl, hw, _, rfl⟩, ?_⟩, fun hu => by cases hu⟩
      rw [Bool.not_eq_true, Bool.not_eq_false', cycleZone_eq hcy] at hlost
      exact hlost
  · exact .of_none hfree hfree

theorem tryTask_passes (hw : cy.winding = false) (c : Command) (asked : Bool) : Passes s (s.tryTask c asked) := by
  cases hplace : s.canPlace c with
  | false =>
    have hrests : s.tryTask c asked = s := by
      unfold tryTask
      rw [hplace]
      rfl
    rw [hrests]
    exact .refl s
  | true =>
    have hfree := transfer_of_canPlace hplace
    have hplaced {d : Command} (hd : d.unruled = true) (f : Cycle → Cycle) (t : State) : Passes s (t.placeForCycle d f) :=
      .inr ⟨hfree, placeForCycle_placedRightly hd f t⟩
    cases c with
    | travel p =>
      rw [tryTask_travel hplace]
      exact tryTravel_passes hcy hw hplace asked
    | drill n =>
      simp only [tryTask, hplace, Bool.not_true, Bool.false_eq_true, if_false, tryDrill]
      split
      · split
        · exact .refl s
        · split
          · exact .refl s
          · exact hplaced rfl _ _
      · exact .refl s
    | slide q =>
      simp only [tryTask, hplace, Bool.not_true, Bool.false_eq_true, if_false]
      split
      · exact hplaced rfl _ _
      · exact .refl s
    | squeeze a b =>
      simp only [tryTask, hplace, Bool.not_true, Bool.false_eq_true, if_false]
      exact .refl s
    | sense | clamp | unclamp | feedStop | gauge | retract | stopMotion | readPressure | halt =>
      simp only [tryTask, hplace, Bool.not_true, Bool.false_eq_true, if_false]
      exact hplaced rfl _ _

/-- A SQUEEZE placed holds its set order and the own intent SQUEEZING (R124, R157). -/
theorem trySqueeze_passes (hw : cy.winding = false) : Passes s (s.trySqueeze cy) := by
  unfold trySqueeze
  split
  · rename_i w n g hwork hgrip
    dsimp only
    split_ifs with hgo hlost hready
    · simp only [Bool.and_eq_true] at hgo
      have hfree := transfer_of_canPlace hgo.1.1.2
      exact .of_none hfree (by simpa using hfree)
    · simp only [Bool.and_eq_true] at hgo
      refine .inr ⟨transfer_of_canPlace hgo.1.1.2, ?_⟩
      rw [placeForCycle_ready (s := s.onIntent _) hcy hready]
      refine ⟨(fun _ _ _ hx => by cases hx), fun a b u r hx => ?_⟩
      have horder : s.setOrder w.hole = true := by simpa using hlost
      exact ⟨_, w, rfl, ⟨hw, _, rfl⟩, hwork, horder, rfl⟩
    · simp only [Bool.and_eq_true] at hgo
      exact .inr ⟨transfer_of_canPlace hgo.1.1.2, portFails_placedRightly _ _ s⟩
    · exact .refl s
  · exact .refl s

end

/-- No SQUEEZE is placed while EFFECTOR READY is inactive. -/
theorem trySqueeze_unready {s : State} (hready : s.effectorReady = false) (hs : s.PlacedRightly) (cy : Cycle) :
    (s.trySqueeze cy).PlacedRightly := by
  unfold trySqueeze
  split
  · dsimp only
    split_ifs with hgo
    · simp only [Bool.and_eq_true] at hgo
      exact .of_none (by simpa using transfer_of_canPlace hgo.1.1.2)
    · rw [hready] at *
      contradiction
    · exact portFails_placedRightly _ _ s
    · exact hs
  · exact hs

theorem budgets_passes {s : State} {cy : Cycle} (hcy : s.cs.cycle = some cy) (hw : cy.winding = false) :
    Passes s (s.tryPoll.trySqueeze cy) := by
  by_cases hpoll : (s.du.own.pollAsked && s.canPlace .readPressure) = true
  · have hplace : s.tryPoll = State.placeForCycle .readPressure id (s.onIntent fun o => { o with pollAsked := false }) := by
      rw [tryPoll, if_pos hpoll]
    rw [Bool.and_eq_true] at hpoll
    refine .inr ⟨transfer_of_canPlace hpoll.2, ?_⟩
    have hplaced : s.tryPoll.PlacedRightly := hplace ▸ placeForCycle_placedRightly rfl id _
    cases hready : s.effectorReady with
    | true =>
      rw [placeForCycle_ready (s := s.onIntent _) hcy hready] at hplace
      rw [trySqueeze_rests (fun c => by rw [hplace]; rfl)]
      exact hplaced
    | false => exact trySqueeze_unready (effectorReady_of_kept (tryPoll_kept s) ▸ hready) hplaced cy
  · rw [tryPoll, if_neg hpoll]
    exact trySqueeze_passes hcy hw

theorem carryCycle_passes {s : State} {cy : Cycle} (hcy : s.cs.cycle = some cy) (hw : cy.winding = false) :
    Passes s (s.carryCycle cy) := by
  unfold carryCycle
  split
  · exact tryTask_passes hcy hw _ _
  · exact .refl s
  · rename_i hidle
    split
    · exact budgets_passes hcy hw
    · refine .inl (.of_not_busy (fun cy' hcy' hbusy => ?_) (by simp) (by simp) (.of_zc (finishReporting_zc cy s)))
      obtain ⟨-, c, hc⟩ := hbusy
      rw [hcy, Option.some.injEq] at hcy'
      rw [← hcy', hidle] at hc
      cases hc
    · exact .refl s

/-- The actions of a winding ending are no TRAVEL and no SQUEEZE (R128). -/
theorem windCycle_passes {s : State} {cy : Cycle} (hcy : s.cs.cycle = some cy) (hw : cy.winding = true) (e : Ending) :
    Passes s (s.windCycle cy e) := by
  have hnot : ∀ cy', s.cs.cycle = some cy' → ¬ cy'.busy := by
    rintro cy' hcy' ⟨hbusy, -⟩
    rw [hcy, Option.some.injEq] at hcy'
    rw [← hcy', hw] at hbusy
    cases hbusy
  have hunruled (a : EndAction) : a.command.unruled = true := by cases a <;> rfl
  unfold windCycle
  dsimp only
  split
  · split
    · exact .inl (.of_not_busy hnot (by simp) (by simp) (.of_zc (finishEnding_zc cy e s)))
    · exact .refl s
  · rename_i a l _
    have hplaced (t : State) (hplace : s.canPlace a.command = true) : Passes s (t.placeCommand a.command .cycle) :=
      .inr ⟨transfer_of_canPlace hplace, placeCommand_placedRightly (hunruled a) _ t⟩
    have hskip : Passes s (s.setCycle { cy with ending := some { e with todo := l } }) :=
      .inl (.of_not_busy hnot rfl (by simp) (.of_zc rfl))
    split
    · generalize (if a = .feedStop then s.drillStream && s.ep.stopped = .no else s.motionStream) = isOpen
      split_ifs with _ _ hplace
      · exact .refl s
      · exact hplaced _ hplace
      · exact .refl s
      · exact hskip
    · split_ifs with hgo
      · exact hplaced _ (Bool.and_eq_true_iff.mp hgo).2
      · exact .refl s

theorem stepCycle_passes (s : State) : Passes s s.stepCycle := by
  cases hcy : s.cs.cycle with
  | none =>
    rw [stepCycle, hcy]
    exact .refl s
  | some cy =>
    cases hw : cy.winding with
    | false =>
      rw [stepCycle_carries hcy hw]
      exact carryCycle_passes hcy hw
    | true =>
      unfold stepCycle
      rw [hcy]
      dsimp only
      split
      · rename_i e he
        have hgo : e.stage.goesOn = false := by simpa [Cycle.winding, he] using hw
        rw [hgo]
        exact windCycle_passes hcy hw e
      · rename_i he
        simp [Cycle.winding, he] at hw

/-! ### Lone motions and the park travel (R127) -/

/-- A lone motion's TRAVEL, placed where the limits, its zone and PT allow it. -/
theorem placeLone_placedRightly {s : State} {p : Nat} (hin : s.cfg.withinTravel p = true) (hzone : s.zoneStands (s.zoneAt p) = true)
    (hclear : s.permitted p = true) : (s.placeCommand (.travel p) .lone).PlacedRightly := by
  unfold placeCommand
  split
  · refine ⟨fun q u r hx => ?_, fun _ _ _ _ hx => by cases hx⟩
    cases hx
    refine ⟨hin, hclear, (fun hu => by cases hu), fun _ side hside => ?_⟩
    exact ((zoneStands_iff s _).mp hzone side hside).1
  · exact portFails_placedRightly _ _ s

theorem stepLone_passes (s : State) : Passes s s.stepLone := by
  unfold stepLone
  split
  · exact .refl s
  · rename_i l hl
    have hends : Passes s { s with cs.lone := none } := .inl (.of_frame rfl (by simp) rfl rfl rfl rfl)
    split_ifs with _ _ _ hstop _ _ hgo
    · exact .refl s
    · exact .inr ⟨transfer_of_canPlace (Bool.and_eq_true_iff.mp hstop).2, placeCommand_placedRightly rfl _ _⟩
    · exact .refl s
    · exact hends
    · exact .refl s
    · exact hends
    · simp only [Bool.and_eq_true] at hgo
      obtain ⟨⟨⟨⟨-, hplace⟩, hin⟩, hzone⟩, hclear⟩ := hgo
      exact .inr ⟨transfer_of_canPlace hplace, placeLone_placedRightly hin hzone hclear⟩
    · exact .refl s

theorem stepPark_passes (s : State) : Passes s s.stepPark := by
  unfold stepPark
  dsimp only
  split
  · rename_i hgo
    simp only [Bool.and_eq_true] at hgo
    obtain ⟨⟨⟨⟨-, hplace⟩, hin⟩, hzone⟩, hclear⟩ := hgo
    exact .inr ⟨transfer_of_canPlace hplace, placeLone_placedRightly hin hzone hclear⟩
  · exact .refl s

/-! ### A pass, and what follows a command at once -/

theorem settleOnce_passes (s : State) : Passes s s.settleOnce := by
  have hport : Passes s s.placeInterject.stepCycle.stepLone :=
    ((placeInterject_passes s).trans (stepCycle_passes _)).trans (stepLone_passes _)
  unfold settleOnce
  split
  · dsimp only
    generalize s.placeInterject.stepCycle.stepLone = t at hport ⊢
    have hretest : Upholds t.stepSelection { t.stepSelection with ws.retest := false } := .of_frame rfl (by simp) rfl rfl rfl rfl
    have hzones := ((stepSelection_upholds t).trans hretest).trans ((stepConditions_upholds _).trans (stepZones_upholds _))
    have hselect (v : State) := (stepFinish_upholds v).trans ((stepRequests_upholds _).trans (stepSelect_upholds _))
    have hpark := (hport.trans (.inl (hzones.trans (hselect _)))).trans (stepPark_passes _)
    split
    · exact hpark.trans (.inl (offerOwed_upholds _))
    · exact hpark
  · exact .refl s

theorem settle_passes (s : State) : Passes s s.settle :=
  repeatState_keeps (P := Passes s) (fun t ht => ht.trans (settleOnce_passes t)) 8 s (.refl s)

end State

end Sys2Proof.Machine
end

section
/-! PROOFS. What every command newly places on the way to the drive unit is allowed, and how a cycle goes on with it (O7; R65, R70, R119, R124). -/

namespace Sys2Proof.Machine

open Sys2Proof (Byte Word Data Stamp Datum Side Instr)

namespace State

open NothingPlaced

/-- From s to t a command places nothing but HALT, or what it leaves in transfer is rightly placed. -/
def Places (s t : State) : Prop := NothingPlaced s t ∨ t.PlacedRightly

/-- A command that places nothing but HALT, with what follows at once. -/
theorem NothingPlaced.settle {s u : State} (h : NothingPlaced s u) : Places s u.settle := by
  rcases settle_passes u with hstands | ⟨-, hplaced⟩
  · exact .inl (h.trans (.of_transfer hstands.transfer))
  · exact .inr hplaced

/-- A command that leaves the effector port alone, with what follows at once. -/
theorem settle_places {s u : State} (h : u.ep = s.ep) : Places s u.settle := (of_ep h).settle

/-! ### Requests (R177, R178) -/

theorem sp_of_base {s t : State} (h : t.base = s.base) : t.sp = s.sp := congrArg Base.sp h

/-- From s to t a request places rightly what it places, and leaves the service port alone. -/
def Serves (s t : State) : Prop := Places s t ∧ t.sp = s.sp

namespace Serves

theorem refl (s : State) : Serves s s := ⟨.inl (.refl s), rfl⟩

theorem settle {s u : State} (hep : u.ep = s.ep) (hsp : u.sp = s.sp) : Serves s u.settle :=
  ⟨settle_places hep, (sp_of_base u.settle_base).trans hsp⟩

end Serves

theorem expireIfOld_ep (d : Datum) (s : State) : (s.expireIfOld d).ep = s.ep := by
  unfold expireIfOld
  repeat' split
  all_goals simp

theorem expireIfOld_sp (d : Datum) (s : State) : (s.expireIfOld d).sp = s.sp := by
  refine sp_of_base ?_
  unfold expireIfOld
  repeat' split
  all_goals simp

theorem applySetup_ep (c : Setup) (s : State) : (s.applySetup c).ep = s.ep := by
  have hposition (old : Option DatumRole) (t : State) : (t.setupAtPosition old).ep = t.ep := by
    unfold setupAtPosition
    dsimp only
    split <;> simp [expireIfOld_ep]
  simp [applySetup, hposition]

theorem applySetup_sp (c : Setup) (s : State) : (s.applySetup c).sp = s.sp := by
  have hposition (old : Option DatumRole) (t : State) : (t.setupAtPosition old).sp = t.sp := by
    unfold setupAtPosition
    dsimp only
    split <;> simp [expireIfOld_sp, sp_of_base (computeCorrection_base _)]
  rw [applySetup, sp_of_base (configured_base _), hposition, sp_of_base (forgetPeers_base _), sp_of_base (noZones_base _),
    sp_of_base (relevel_base _)]

theorem serve_serves (r : Request) (s : State) : Serves s (s.serve r).state := by
  cases r with
  | writeSetup c n =>
    show Serves s (s.serveWriteSetup c n).state
    unfold serveWriteSetup
    split
    · exact .refl s
    · split
      · exact .refl s
      · exact .settle (applySetup_ep c s) (applySetup_sp c s)
  | loadPlanHeader h =>
    show Serves s (s.serveHeader h).state
    unfold serveHeader
    split
    · exact .refl s
    · split
      · exact .refl s
      · dsimp only
        refine .settle ?_ ?_
        · split
          · rw [enterUnconfigured_ep]
          · rfl
        · split
          · rw [sp_of_base (enterUnconfigured_base _)]
          · rfl
  | loadPlanGroup n g =>
    show Serves s (s.serveGroup n g).state
    unfold serveGroup
    split
    · exact .refl s
    · split
      · exact .refl s
      · exact .settle rfl rfl
  | loadPlanHole n h =>
    show Serves s (s.serveHole n h).state
    unfold serveHole
    split
    · exact .refl s
    · split
      · exact .refl s
      · exact .settle rfl rfl
  | commitPlan =>
    show Serves s s.serveCommit.state
    unfold serveCommit
    split
    · exact .refl s
    · split
      · exact .refl s
      · exact .settle (configured_ep _) ((sp_of_base (configured_base _)).trans rfl)
  | readSetup =>
    show Serves s s.serveReadSetup.state
    unfold serveReadSetup
    split <;> exact .refl s
  | readHole n =>
    show Serves s (s.serveReadHole n).state
    unfold serveReadHole
    repeat' split
    all_goals exact .refl s
  | readPeer j =>
    show Serves s (s.serveReadPeer j).state
    unfold serveReadPeer
    repeat' split
    all_goals exact .refl s
  | readStatus | readEvents => exact .refl s
  | errorClear =>
    show Serves s s.serveErrorClear.state
    unfold serveErrorClear
    split_ifs
    · exact .refl s
    · exact .refl s
    · exact .refl s
    · exact .settle (land_ep _) (sp_of_base (land_base _))
  | stationClear => exact .settle (stationClear_ep s) (sp_of_base (stationClear_base s))
  | reworkHole n target =>
    show Serves s (s.serveRework n target).state
    unfold serveRework
    split
    · exact .refl s
    · split
      · exact .refl s
      · split_ifs
        · exact .refl s
        · exact .refl s
        · refine .settle ?_ (sp_of_base (by simp [rework]))
          rw [rework, (offer_linkStep _ _ _).ep, putEntry_ep]
        · exact .refl s

/-! ### The service line (R176) -/

theorem PlacedRightly.withPort {s : State} (h : s.PlacedRightly) (sp : ServicePort) : State.PlacedRightly { s with sp := sp } :=
  ⟨h.travel, h.squeeze⟩

theorem Places.withPort {s t : State} (h : Places s t) (sp : ServicePort) : Places s { t with sp := sp } :=
  h.imp (fun hn => hn.trans (.of_transfer rfl)) fun hp => hp.withPort sp

/-- Before a request is taken the line places nothing; a request taken leaves the port ANSWERING. -/
def Listens (s t : State) : Prop := NothingPlaced s t ∨ (t.PlacedRightly ∧ t.sp.rx = .answering)

theorem takeRequest_listens (bytes : List Byte) (s : State) : Listens s (s.takeRequest bytes) := by
  have hjudged : Serves { s with sp.buffer := bytes, sp.rx := .answering }
      (State.judgeRequest bytes { s with sp.buffer := bytes, sp.rx := .answering }).state := by
    unfold judgeRequest
    split
    · exact .refl _
    · exact serve_serves _ _
  obtain ⟨hplaces, hsp⟩ := hjudged
  rcases hplaces.withPort (s.takeRequest bytes).sp with hnothing | hrightly
  · exact .inl ((of_transfer (s := s) rfl).trans hnothing)
  · exact .inr ⟨hrightly, congrArg ServicePort.rx hsp⟩

theorem hearByte_listens (b : Byte) (s : State) : Listens s (s.hearByte b) := by
  have hstore (t : State) (ht : t.ep = s.ep) : Listens s (t.storeByte b) := by
    have hrests (u : State) (hu : u.ep = t.ep) : Listens s u := .inl (of_ep (hu.trans ht))
    unfold storeByte
    dsimp only
    split_ifs
    · exact hrests _ rfl
    · exact hrests _ rfl
    · exact (takeRequest_listens _ t).imp_left (of_ep ht).trans
    · exact hrests _ rfl
  unfold hearByte
  dsimp only
  split
  · split <;> exact .inl (of_ep rfl)
  · split
    · exact .inl (of_ep rfl)
    · exact hstore _ rfl
  · exact .inl (of_ep rfl)

/-- While ANSWERING, bytes are ignored. -/
theorem hearByte_answering {s : State} (h : s.sp.rx = .answering) (b : Byte) : s.hearByte b = { s with sp.lastByte := s.clock } := by
  simp [hearByte, h]

theorem hearBytes_listens (bytes : List Byte) (s : State) : Listens s (s.hearBytes bytes) := by
  suffices h : ∀ t, Listens s t → Listens s (t.hearBytes bytes) from h s (.inl (.refl s))
  unfold hearBytes
  induction bytes with
  | nil => exact fun t ht => ht
  | cons b bytes ih =>
    refine fun t ht => ih _ ?_
    rcases ht with hnothing | ⟨hrightly, hrx⟩
    · exact (hearByte_listens b t).imp_left hnothing.trans
    · show Listens s (t.hearByte b)
      rw [hearByte_answering hrx]
      exact .inr ⟨hrightly.withPort _, hrx⟩

theorem Listens.places {s t : State} (h : Listens s t) : Places s t := h.imp_right And.left

end State

/-! ### Every command -/

/-- Every command but power-on has a next state, and places rightly what it places. -/
theorem exec_places (c : Instr) (s : State) : ∃ t : State, exec c s = .next t ∧ s.Places t := by
  have settled : ∀ {u : State}, s.NothingPlaced u →
      ∃ t : State, Host.Outcome.next u.settle = (.next t : Host.Outcome State Fault Refusal) ∧ s.Places t :=
    fun {u} h => ⟨u.settle, rfl, h.settle⟩
  have alone : ∀ {u : State}, u.ep = s.ep →
      ∃ t : State, Host.Outcome.next u = (.next t : Host.Outcome State Fault Refusal) ∧ s.Places t :=
    fun {u} h => ⟨u, rfl, .inl (.of_ep h)⟩
  cases c with
  | powerOn => exact ⟨_, rfl, .inl (.of_none rfl)⟩
  | serviceByte b => exact ⟨_, rfl, (State.hearByte_listens b s).places⟩
  | writeSetup l | readSetup l | loadPlanHeader l | loadPlanGroup l | loadPlanHole l | commitPlan l | readStatus l | readHole l
  | readPeer l | readEvents l | errorClear l | stationClear l | reworkHole l => exact ⟨_, rfl, (State.hearBytes_listens l s).places⟩
  | serviceByteGap => exact ⟨_, rfl, .inl (State.expire_ep (effect := State.dropPartial) _ (fun _ => rfl) s)⟩
  | serviceLineQuiet => exact ⟨_, rfl, .inl (State.expire_ep (effect := State.lineQuiet) _ (fun _ => rfl) s)⟩
  | answerSent =>
    refine alone ?_
    unfold State.answerEnds
    split <;> rfl
  | reportFlagFall => exact ⟨_, rfl, .inl (.of_transfer rfl)⟩
  | ack w => exact alone (State.acknowledge_ep _)
  | transmitStart quiet => exact alone (State.transmit_ep quiet s)
  | stationReset w => exact settled (.of_ep (State.stationClear_ep _))
  | jigClosed => exact settled (.of_ep s.jigCloses_ep)
  | jigOpen => exact settled (.of_ep s.jigOpens_ep)
  | effectorReadyFall w => exact settled (State.readyFalls_nothingPlaced w s)
  | frameDiscarded f | presenceReceived f | datumReceived f | claimReceived f | releaseReceived f | reportDrilledReceived f
  | reportSetReceived f | reportRejectedReceived f | correctionReceived f | reworkCorrectionReceived f | zoneSeizeReceived f
  | zoneReleaseReceived f | zoneRequestReceived f | drawIntentReceived f | drawDoneReceived f | drawWithdrawReceived f =>
    exact settled (State.hearFrame_nothingPlaced f s)
  | attemptFailed => exact settled (.of_ep s.failAttempt_ep)
  | presenceReadBack | datumReadBack | claimReadBack | releaseReadBack | reportReadBack | correctionReadBack | zoneSeizeReadBack
  | zoneRequestReadBack | zoneReleaseReadBack | drawIntentReadBack | drawWithdrawReadBack | drawDoneReadBack =>
    exact settled (.of_ep (State.readBack_ep _ s))
  | presenceIntervalExpiry => exact settled (State.expire_ep (effect := State.presenceExpires) _ (fun _ => rfl) s)
  | datumExpiry d => exact settled (State.expire_ep _ (State.expireDatum_ep d) s)
  | proberAgeDue => exact settled (State.expire_ep _ State.proberDue_ep s)
  | retryDeadline => exact settled (State.expire_ep _ (fun _ => by simp [State.retry]) s)
  | peerSilent j => exact settled (State.expire_ep _ (State.silence_ep j) s)
  | peerLost j =>
    refine settled (State.expire_ep _ (fun t => ?_) s)
    unfold State.loseAfterSilence
    split <;> simp
  | selfLapse side => exact settled (State.expire_ep _ (State.selfLapsed_ep side) s)
  | yieldDeadline side => exact settled (State.expire_ep _ (State.yieldOver_ep side) s)
  | drawEntryExpiry j => exact settled (State.expire_ep _ (State.emptyDraw_ep j) s)
  | settleDeadline => exact settled (State.expire_ep _ State.decideDraw_ep s)
  | waitDeadline => exact settled (State.expire_ep _ State.freshIntent_ep s)
  | nextPoll => exact settled (State.expire_ep _ State.askPressure_ep s)
  | pressureWaitLimit => exact settled (State.expire_ep _ (fun _ => by simp [State.limitPasses]) s)
  | ownIntentRenewal => exact settled (State.expire_ep _ State.queueIntent_ep s)
  | clampSettleExpiry | ramRecoveryExpiry => exact settled (State.expire_ep _ (fun _ => rfl) s)
  | resumeRise => exact settled s.resumeRises_nothingPlaced
  | resumeFall => exact settled s.resumeFalls_nothingPlaced
  | responseTimeout => exact settled s.responseLate_nothingPlaced
  | completionDeadline => exact settled s.completionLate_nothingPlaced
  | reportWord | doneReport | positionReport | thrustReport | senseReport | gaugeReport | squeezeReport | pressureReport
  | faultReport | refusedReport => exact settled (State.takeWord_nothingPlaced _ _ _ s)

/-- A TRAVEL in transfer was in transfer before the command, or it is within the limits, permitted and in a zone that stands. -/
theorem State.Places.travel {s t : State} (h : s.Places t) {p : Nat} {u : PortUser} {r : List Word}
    (hx : t.ep.transfer = some ⟨.travel p, u, r⟩) : (∃ r', s.ep.transfer = some ⟨.travel p, u, r'⟩)
      ∨ (t.cfg.low ≤ p ∧ p ≤ t.cfg.high ∧ t.permitted p = true
          ∧ (u = .cycle → ∀ side, t.cycleZone p = some side → (t.zone side).state = .heldOwn ∧ (t.zone side).progress = .no)
          ∧ (u = .lone → ∀ side, t.zoneAt p = some side → (t.zone side).state = .heldOwn)) := by
  rcases h with hnothing | hrightly
  · rcases hnothing _ hx with hhalt | hbefore
    · cases hhalt
    · exact .inl hbefore
  · obtain ⟨hin, hclear, hcycle, hlone⟩ := hrightly.travel p u r hx
    obtain ⟨hlow, hhigh⟩ := (Setup.withinTravel_iff _ p).mp hin
    exact .inr ⟨hlow, hhigh, hclear, fun hu => (State.zoneStands_iff t _).mp (hcycle hu).2, hlone⟩

/-- A SQUEEZE in transfer was in transfer before the command, or it is for a hole whose set order condition holds. -/
theorem State.Places.squeeze {s t : State} (h : s.Places t) {a b : Nat} {u : PortUser} {r : List Word}
    (hx : t.ep.transfer = some ⟨.squeeze a b, u, r⟩) : (∃ r', s.ep.transfer = some ⟨.squeeze a b, u, r'⟩)
      ∨ ∃ cy w, t.cs.cycle = some cy ∧ cy.work = .hole w ∧ t.setOrder w.hole = true ∧ t.du.own.state = .squeezing := by
  rcases h with hnothing | hrightly
  · rcases hnothing _ hx with hhalt | hbefore
    · cases hhalt
    · exact .inl hbefore
  · obtain ⟨cy, w, hcy, -, hwork, horder, hstate⟩ := hrightly.squeeze a b u r hx
    exact .inr ⟨cy, w, hcy, hwork, horder, hstate⟩

/-- Settles O7: a pass places a TRAVEL or a SQUEEZE only where its rules hold, what the pass does after it leaves them standing, and
before the pass a command places nothing but HALT. -/
theorem placedCommandsAreAllowed : Obligations.PlacedCommandsAreAllowed := by
  unfold Obligations.PlacedCommandsAreAllowed
  refine ⟨fun c s t ht => ?_, fun p cy s hcy => State.cycleZone_eq hcy p, fun p s => ?_,
    fun p asked cy s hcy hw htask hplace Z hZ => State.stepCycle_travel hcy hw htask hplace hZ,
    fun n asked cy s hcy hw htask hplace => State.stepCycle_drill hcy hw htask hplace,
    fun cy w n g s hcy hw hstage htask hwork hgrip hasked hplace =>
      State.stepCycle_squeeze hcy hw hstage htask hwork hgrip hasked hplace,
    fun cy s hcy hw hstage htask hasked hplace hready => State.stepCycle_polls hcy hw hstage htask hasked hplace hready,
    fun c asked cy s hcy hw htask hplace hready => State.stepCycle_plain hcy hw htask hplace hready⟩
  · obtain ⟨t', ht', hplaces⟩ := exec_places c s
    obtain rfl : t' = t := Host.Outcome.next.inj (ht'.symm.trans ht)
    exact ⟨fun p u r hx => hplaces.travel hx, fun a b u r hx => hplaces.squeeze hx⟩
  · rw [State.permitted_iff]
    simp only [Setup.mem_neighbours_iff]
    rfl

end Sys2Proof.Machine
end

section
/-! PROOFS. What the bound and the order of LC's queue rest on, and the changes of the queue that keep both. -/

namespace Sys2Proof.Machine

open Sys2Proof (Byte Word Data Stamp Datum Side Instr)

/-! ### The queue and the names kept for its frames -/

/-- The name of the own ZONE frame outstanding (R69). -/
def ZoneRecord.frameName (z : ZoneRecord) : Option Nat := if z.outstanding = .no then none else some z.frameId

/-- The name of a selection's CLAIM, queued or in CLAIM WITHDRAWN (R93). -/
def Selection.frameName (x : Selection) : Option Nat :=
  if x.stage = .claimQueued ∨ x.stage = .claimWithdrawn then some x.frameId else none

/-- LC's frames, and the names that ZC, WS and DU keep for theirs: all that the bound and the order of the queue rest on. -/
structure LinkView where
  queue : List TxFrame
  held : List TxFrame
  nextId : Nat
  left : Option Nat
  right : Option Nat
  claim : Option Nat
  withdraw : Option Nat
  intent : Option Nat

def State.linkView (s : State) : LinkView :=
  { queue := s.lc.queue, held := s.lc.held, nextId := s.lc.nextId,
    left := s.zc.left.frameName, right := s.zc.right.frameName, claim := s.ws.selection.bind Selection.frameName,
    withdraw := s.du.own.withdrawId, intent := s.du.own.intentId }

namespace LinkView

/-- The frames LC has, queued and held. -/
def frames (v : LinkView) : List TxFrame := v.queue ++ v.held

/-- A name kept for a frame of access class 0. -/
def names0 (v : LinkView) (id : Nat) : Prop := v.left = some id ∨ v.right = some id ∨ v.withdraw = some id

/-- A name kept by ZC or WS. -/
def namesOwn (v : LinkView) (id : Nat) : Prop := v.left = some id ∨ v.right = some id ∨ v.claim = some id

/-- The queue stands in the order of access class. -/
def Rising (v : LinkView) : Prop := (v.queue.map (·.body.accessClass)).Pairwise (· ≤ ·)

/-- The invariant `State.queueOrdered`, in the terms of the view. -/
structure Ordered (v : LinkView) : Prop where
  rising : v.Rising
  given : ∀ f ∈ v.frames, f.id < v.nextId
  owners : ∀ f ∈ v.frames, ∀ g ∈ v.frames, g.id = f.id → g.owner = f.owner
  class0 : ∀ id, v.names0 id → id < v.nextId ∧ ∀ f ∈ v.frames, f.id = id → f.body.accessClass = 0
  own : ∀ id, v.namesOwn id → id < v.nextId ∧ ∀ f ∈ v.frames, f.id = id → f.owner ≠ .du
  intent : ∀ id, v.intent = some id → id < v.nextId

/-- A name kept afterwards was kept before, or is that of the frame that has just been offered. -/
def nameFrom (new : Option TxFrame) (p : TxFrame → Prop) (old now : Option Nat) : Prop :=
  ∀ id, now = some id → old = some id ∨ ∃ f, new = some f ∧ f.id = id ∧ p f

/-- What an operation can do to the frames and names: at most one frame is new, under the next name; every other frame was there
before, its name and owner as they were and its class as it was or 0; and no name is kept but an old one or the new frame's. -/
structure Changes (new : Option TxFrame) (v w : LinkView) : Prop where
  nextId : v.nextId ≤ w.nextId
  fresh : ∀ f, new = some f → f.id = v.nextId ∧ v.nextId < w.nextId
  frames : ∀ f ∈ w.frames, new = some f
    ∨ ∃ g ∈ v.frames, f.id = g.id ∧ f.owner = g.owner ∧ (f.body.accessClass = g.body.accessClass ∨ f.body.accessClass = 0)
  left : nameFrom new (fun f => f.body.accessClass = 0 ∧ f.owner ≠ .du) v.left w.left
  right : nameFrom new (fun f => f.body.accessClass = 0 ∧ f.owner ≠ .du) v.right w.right
  claim : nameFrom new (fun f => f.owner ≠ .du) v.claim w.claim
  withdraw : nameFrom new (fun f => f.body.accessClass = 0) v.withdraw w.withdraw
  intent : ∀ id, w.intent = some id → v.intent = some id ∨ v.withdraw = some id ∨ ∃ f, new = some f ∧ f.id = id

namespace Changes

variable {new : Option TxFrame} {v w : LinkView} (h : Changes new v w)
include h

/-- A frame under a name already given was there before. -/
theorem frame_old {f : TxFrame} (hf : f ∈ w.frames) (hid : f.id < v.nextId) :
    ∃ g ∈ v.frames, f.id = g.id ∧ f.owner = g.owner ∧ (f.body.accessClass = g.body.accessClass ∨ f.body.accessClass = 0) := by
  rcases h.frames f hf with hnew | hold
  · have := (h.fresh f hnew).1
    omega
  · exact hold

/-- A frame under the next name is the new one. -/
theorem frame_new (hv : v.Ordered) {f g : TxFrame} (hf : new = some f) (hg : g ∈ w.frames) (hid : g.id = f.id) : g = f := by
  rcases h.frames g hg with hnew | ⟨x, hx, hxid, -, -⟩
  · exact Option.some.inj (hnew.symm.trans hf)
  · have := hv.given x hx
    have := (h.fresh f hf).1
    omega

/-- What holds of the frames under the old names, and of the new frame, holds of the frames under a name kept. -/
theorem named (hv : v.Ordered) {p : TxFrame → Prop} {old now : Option Nat} (hname : nameFrom new p old now)
    (hold : ∀ id, old = some id → id < v.nextId ∧ ∀ f ∈ w.frames, f.id = id → p f) {id : Nat} (hid : now = some id) :
    id < w.nextId ∧ ∀ f ∈ w.frames, f.id = id → p f := by
  rcases hname id hid with hid | ⟨f, hf, rfl, hp⟩
  · obtain ⟨hlt, hp⟩ := hold id hid
    exact ⟨hlt.trans_le h.nextId, hp⟩
  · obtain ⟨hfid, hlt⟩ := h.fresh f hf
    exact ⟨hfid ▸ hlt, fun g hg hgid => h.frame_new hv hf hg hgid ▸ hp⟩

theorem class0_old (hv : v.Ordered) {id : Nat} (hid : v.names0 id) :
    id < v.nextId ∧ ∀ f ∈ w.frames, f.id = id → f.body.accessClass = 0 := by
  obtain ⟨hlt, hc⟩ := hv.class0 id hid
  refine ⟨hlt, fun f hf hfid => ?_⟩
  obtain ⟨g, hg, hgid, -, hclass⟩ := h.frame_old hf (hfid ▸ hlt)
  have := hc g hg (hgid ▸ hfid)
  omega

theorem own_old (hv : v.Ordered) {id : Nat} (hid : v.namesOwn id) :
    id < v.nextId ∧ ∀ f ∈ w.frames, f.id = id → f.owner ≠ .du := by
  obtain ⟨hlt, ho⟩ := hv.own id hid
  refine ⟨hlt, fun f hf hfid => ?_⟩
  obtain ⟨g, hg, hgid, howner, -⟩ := h.frame_old hf (hfid ▸ hlt)
  exact howner ▸ ho g hg (hgid ▸ hfid)

/-- Such a change keeps all of the order but the rising classes of the queue itself. -/
theorem ordered (hv : v.Ordered) (hrising : w.Rising) : w.Ordered where
  rising := hrising
  given f hf := by
    rcases h.frames f hf with hnew | ⟨g, hg, hgid, -, -⟩
    · have := h.fresh f hnew
      omega
    · have := hv.given g hg
      have := h.nextId
      omega
  owners f hf g hg hgf := by
    rcases h.frames f hf with hnew | ⟨x, hx, hxid, hxowner, -⟩
    · rw [h.frame_new hv hnew hg hgf]
    · have hlt := hv.given x hx
      obtain ⟨y, hy, hyid, hyowner, -⟩ := h.frame_old hg (by omega)
      rw [hxowner, hyowner]
      exact hv.owners x hx y hy (by omega)
  class0 id hid := by
    have zone := fun {old now} hname hold =>
      h.named hv (p := fun f => f.body.accessClass = 0 ∧ f.owner ≠ .du) (old := old) (now := now) hname hold (id := id)
    have old : ∀ {i}, v.names0 i → v.namesOwn i →
        i < v.nextId ∧ ∀ f ∈ w.frames, f.id = i → f.body.accessClass = 0 ∧ f.owner ≠ .du := fun h0 ho =>
      ⟨(h.class0_old hv h0).1, fun f hf hfid => ⟨(h.class0_old hv h0).2 f hf hfid, (h.own_old hv ho).2 f hf hfid⟩⟩
    rcases hid with hid | hid | hid
    · obtain ⟨hlt, hp⟩ := zone h.left (fun i hi => old (.inl hi) (.inl hi)) hid
      exact ⟨hlt, fun f hf hfid => (hp f hf hfid).1⟩
    · obtain ⟨hlt, hp⟩ := zone h.right (fun i hi => old (.inr (.inl hi)) (.inr (.inl hi))) hid
      exact ⟨hlt, fun f hf hfid => (hp f hf hfid).1⟩
    · exact h.named hv h.withdraw (fun i hi => h.class0_old hv (.inr (.inr hi))) hid
  own id hid := by
    have weaken : ∀ {old now}, nameFrom new (fun f => f.body.accessClass = 0 ∧ f.owner ≠ .du) old now →
        nameFrom new (fun f => f.owner ≠ .du) old now := fun hname i hi =>
      (hname i hi).imp_right fun ⟨f, hf, hfid, hp⟩ => ⟨f, hf, hfid, hp.2⟩
    rcases hid with hid | hid | hid
    · exact h.named hv (weaken h.left) (fun i hi => h.own_old hv (.inl hi)) hid
    · exact h.named hv (weaken h.right) (fun i hi => h.own_old hv (.inr (.inl hi))) hid
    · exact h.named hv h.claim (fun i hi => h.own_old hv (.inr (.inr hi))) hid
  intent id hid := by
    have hn := h.nextId
    rcases h.intent id hid with hid | hid | ⟨f, hf, rfl⟩
    · exact (hv.intent id hid).trans_le hn
    · exact (hv.class0 id (.inr (.inr hid))).1.trans_le hn
    · obtain ⟨hfid, hlt⟩ := h.fresh f hf
      exact hfid ▸ hlt

/-- A name given that no frame bears is borne by none afterwards. -/
theorem gone {id : Nat} (hid : id < v.nextId) (hv : ∀ f ∈ v.frames, f.id ≠ id) : ∀ f ∈ w.frames, f.id ≠ id := by
  rintro f hf rfl
  obtain ⟨g, hg, hgid, -⟩ := h.frame_old hf hid
  exact hv g hg hgid.symm

end Changes

/-- Frames and names only leave: what is queued keeps its order. -/
structure Shrinks (v w : LinkView) : Prop where
  queue : w.queue.Sublist v.queue := by exact List.Sublist.refl _
  held : ∀ f ∈ w.held, f ∈ v.held := by exact fun _ h => h
  nextId : v.nextId ≤ w.nextId := by exact Nat.le_refl _
  left : ∀ id, w.left = some id → v.left = some id := by exact fun _ h => h
  right : ∀ id, w.right = some id → v.right = some id := by exact fun _ h => h
  claim : ∀ id, w.claim = some id → v.claim = some id := by exact fun _ h => h
  withdraw : ∀ id, w.withdraw = some id → v.withdraw = some id := by exact fun _ h => h
  intent : ∀ id, w.intent = some id → v.intent = some id := by exact fun _ h => h

theorem Shrinks.changes {v w : LinkView} (h : Shrinks v w) : Changes none v w where
  nextId := h.nextId
  fresh f hf := nomatch hf
  frames f hf := .inr ⟨f, by
    rcases List.mem_append.mp hf with hf | hf
    · exact List.mem_append_left _ (h.queue.subset hf)
    · exact List.mem_append_right _ (h.held f hf), rfl, rfl, .inl rfl⟩
  left id hid := .inl (h.left id hid)
  right id hid := .inl (h.right id hid)
  claim id hid := .inl (h.claim id hid)
  withdraw id hid := .inl (h.withdraw id hid)
  intent id hid := .inl (h.intent id hid)

end LinkView

/-- The invariant `State.queueOrdered` rests on the view alone. -/
theorem State.queueOrdered_iff (s : State) : s.queueOrdered ↔ s.linkView.Ordered := by
  have zone : ∀ (z : ZoneRecord) (id : Nat), z.frameName = some id ↔ z.outstanding ≠ .no ∧ z.frameId = id := by
    intro z id
    unfold ZoneRecord.frameName
    split <;> simp_all
  have claim : ∀ id, s.linkView.claim = some id ↔ ∃ x, s.ws.selection = some x
      ∧ (x.stage = .claimQueued ∨ x.stage = .claimWithdrawn) ∧ x.frameId = id := by
    intro id
    simp only [State.linkView, Selection.frameName, Option.bind_eq_some_iff, Option.ite_none_right_eq_some, Option.some.injEq]
  constructor
  · rintro ⟨hrising, hleft, hright, hwithdraw, hframes, hzones, hclaim, hintent⟩
    refine ⟨hrising, fun f hf => (hframes f hf).1, fun f hf => (hframes f hf).2, ?_, ?_, hintent⟩
    · rintro id (h | h | h)
      · obtain ⟨hout, rfl⟩ := (zone _ id).mp h
        exact hleft hout
      · obtain ⟨hout, rfl⟩ := (zone _ id).mp h
        exact hright hout
      · exact hwithdraw id h
    · rintro id (h | h | h)
      · obtain ⟨hout, rfl⟩ := (zone _ id).mp h
        exact hzones .left hout
      · obtain ⟨hout, rfl⟩ := (zone _ id).mp h
        exact hzones .right hout
      · obtain ⟨x, hx, hstage, rfl⟩ := (claim id).mp h
        exact hclaim x hx hstage
  · rintro ⟨hrising, hgiven, howners, hclass0, hown, hintent⟩
    refine ⟨hrising, fun h => hclass0 _ (.inl ((zone _ _).mpr ⟨h, rfl⟩)), fun h => hclass0 _ (.inr (.inl ((zone _ _).mpr ⟨h, rfl⟩))),
      fun id h => hclass0 id (.inr (.inr h)), fun f hf => ⟨hgiven f hf, howners f hf⟩, fun side h => ?_,
      fun x hx hstage => hown _ (.inr (.inr ((claim _).mpr ⟨x, hx, hstage, rfl⟩))), hintent⟩
    cases side with
    | left => exact hown _ (.inl ((zone _ _).mpr ⟨h, rfl⟩))
    | right => exact hown _ (.inr (.inl ((zone _ _).mpr ⟨h, rfl⟩)))

/-- From one view to the other the bound of LC's queue (R49) and its order are kept, and a name whose frame has gone stays unused. -/
structure LinkView.Kept (v w : LinkView) : Prop where
  fits : v.queue.length ≤ Config.queueSize → w.queue.length ≤ Config.queueSize
  ordered : v.Ordered → w.Ordered
  nextId : v.nextId ≤ w.nextId
  gone : ∀ id, id < v.nextId → (∀ f ∈ v.frames, f.id ≠ id) → ∀ f ∈ w.frames, f.id ≠ id

theorem LinkView.Changes.kept {new : Option TxFrame} {v w : LinkView} (h : LinkView.Changes new v w)
    (hfits : v.queue.length ≤ Config.queueSize → w.queue.length ≤ Config.queueSize) (hrising : v.Ordered → w.Rising) : v.Kept w :=
  ⟨hfits, fun hv => h.ordered hv (hrising hv), h.nextId, fun _ => h.gone⟩

/-- From s to t the bound of LC's queue (R49) and its order are kept, and a name whose frame has gone stays unused. -/
def State.QueueKept (s t : State) : Prop := s.linkView.Kept t.linkView

namespace State.QueueKept

theorem refl (s : State) : QueueKept s s := ⟨id, id, Nat.le_refl _, fun _ _ h => h⟩

theorem trans {s t u : State} (h : QueueKept s t) (h' : QueueKept t u) : QueueKept s u :=
  ⟨h'.fits ∘ h.fits, h'.ordered ∘ h.ordered, h.nextId.trans h'.nextId,
    fun id hid hs => h'.gone id (hid.trans_le h.nextId) (h.gone id hid hs)⟩

/-- No frame is new, and what is queued keeps its order. -/
theorem of_changes {s t : State} (h : LinkView.Changes none s.linkView t.linkView) (hq : t.lc.queue.Sublist s.lc.queue) :
    QueueKept s t :=
  h.kept hq.length_le.trans fun hs => hs.rising.sublist (hq.map _)

theorem of_shrinks {s t : State} (h : s.linkView.Shrinks t.linkView) : QueueKept s t := of_changes h.changes h.queue

/-- A frame under the next name enters the queue where there is room, or is held; ZC, WS and DU may keep its name from then on, each
for a frame of its own kind. -/
theorem of_entry {s t : State} {f : TxFrame} (hid : f.id = s.lc.nextId) (hnext : t.lc.nextId = s.lc.nextId + 1)
    (hentry : s.lc.queue.length < Config.queueSize ∧ t.lc.queue = insertByClass f s.lc.queue ∧ t.lc.held = s.lc.held
      ∨ t.lc.queue = s.lc.queue ∧ t.lc.held = s.lc.held ++ [f])
    (left : LinkView.nameFrom (some f) (fun f => f.body.accessClass = 0 ∧ f.owner ≠ .du) s.linkView.left t.linkView.left
      := by exact fun _ h => .inl h)
    (right : LinkView.nameFrom (some f) (fun f => f.body.accessClass = 0 ∧ f.owner ≠ .du) s.linkView.right t.linkView.right
      := by exact fun _ h => .inl h)
    (claim : LinkView.nameFrom (some f) (fun f => f.owner ≠ .du) s.linkView.claim t.linkView.claim := by exact fun _ h => .inl h)
    (withdraw : LinkView.nameFrom (some f) (fun f => f.body.accessClass = 0) s.linkView.withdraw t.linkView.withdraw
      := by exact fun _ h => .inl h)
    (intent : LinkView.nameFrom (some f) (fun _ => True) s.linkView.intent t.linkView.intent := by exact fun _ h => .inl h) :
    QueueKept s t := by
  have hframes : ∀ g ∈ t.lc.queue ++ t.lc.held, g = f ∨ g ∈ s.lc.queue ++ s.lc.held := by
    intro g hg
    rcases hentry with ⟨-, hq, hh⟩ | ⟨hq, hh⟩ <;> rw [hq, hh] at hg <;>
      simp only [List.mem_append, mem_insertByClass, List.mem_singleton] at hg ⊢ <;> tauto
  have hchanges : LinkView.Changes (some f) s.linkView t.linkView :=
    { nextId := (Nat.le_succ _).trans_eq hnext.symm
      fresh := fun g hg => by
        obtain rfl := Option.some.inj hg
        exact ⟨hid, (Nat.lt_succ_self _).trans_eq hnext.symm⟩
      frames := fun g hg => (hframes g hg).imp (fun h => congrArg some h.symm) fun h => ⟨g, h, rfl, rfl, .inl rfl⟩
      left, right, claim, withdraw
      intent := fun id h => (intent id h).imp_right fun ⟨g, hg, hgid, _⟩ => .inr ⟨g, hg, hgid⟩ }
  refine hchanges.kept (fun hs => ?_) fun hs => ?_
  · show t.lc.queue.length ≤ _
    rcases hentry with ⟨hroom, hq, -⟩ | ⟨hq, -⟩ <;> rw [hq]
    · rw [insertByClass_length]
      exact hroom
    · exact hs
  · show (t.lc.queue.map _).Pairwise _
    rcases hentry with ⟨-, hq, -⟩ | ⟨hq, -⟩ <;> rw [hq]
    · exact insertByClass_ordered f _ hs.rising
    · exact hs.rising

/-- Every frame of the queue and among the held ones is rewritten: under its name and for its owner, in its class or in class 0 under a
name kept for class 0. -/
theorem of_rewrite {s t : State} {g : TxFrame → TxFrame} (hq : t.lc.queue = s.lc.queue.map g)
    (hh : t.lc.held = s.lc.held.map g ∨ t.lc.held = s.lc.held) (hnext : t.lc.nextId = s.lc.nextId)
    (hg : ∀ f, (g f).id = f.id ∧ (g f).owner = f.owner
      ∧ ((g f).body.accessClass = f.body.accessClass ∨ (g f).body.accessClass = 0 ∧ s.linkView.names0 f.id))
    (left : t.linkView.left = s.linkView.left := by rfl) (right : t.linkView.right = s.linkView.right := by rfl)
    (claim : t.linkView.claim = s.linkView.claim := by rfl) (withdraw : t.linkView.withdraw = s.linkView.withdraw := by rfl)
    (intent : t.linkView.intent = s.linkView.intent := by rfl) : QueueKept s t := by
  have hchanges : LinkView.Changes none s.linkView t.linkView :=
    { nextId := hnext.ge
      fresh := fun f hf => nomatch hf
      frames := fun f hf => by
        refine .inr ?_
        have written : ∀ x : TxFrame, x ∈ s.linkView.frames → f = g x → ∃ x ∈ s.linkView.frames, f.id = x.id ∧ f.owner = x.owner
            ∧ (f.body.accessClass = x.body.accessClass ∨ f.body.accessClass = 0) := by
          rintro x hx rfl
          obtain ⟨hid, howner, hclass⟩ := hg x
          exact ⟨x, hx, hid, howner, hclass.imp_right And.left⟩
        change f ∈ t.lc.queue ++ t.lc.held at hf
        rw [hq] at hf
        rcases hh with hh | hh <;> rw [hh] at hf <;> rcases List.mem_append.mp hf with hf | hf
        · obtain ⟨x, hx, hxf⟩ := List.mem_map.mp hf
          exact written x (List.mem_append_left _ hx) hxf.symm
        · obtain ⟨x, hx, hxf⟩ := List.mem_map.mp hf
          exact written x (List.mem_append_right _ hx) hxf.symm
        · obtain ⟨x, hx, hxf⟩ := List.mem_map.mp hf
          exact written x (List.mem_append_left _ hx) hxf.symm
        · exact ⟨f, List.mem_append_right _ hf, rfl, rfl, .inl rfl⟩
      left := fun id h => .inl (left ▸ h)
      right := fun id h => .inl (right ▸ h)
      claim := fun id h => .inl (claim ▸ h)
      withdraw := fun id h => .inl (withdraw ▸ h)
      intent := fun id h => .inl (intent ▸ h) }
  refine hchanges.kept (fun hs => ?_) fun hs => ?_
  · show t.lc.queue.length ≤ _
    rw [hq, List.length_map]
    exact hs
  · have hclasses : t.lc.queue.map (·.body.accessClass) = s.lc.queue.map (·.body.accessClass) := by
      rw [hq, List.map_map]
      refine List.map_congr_left fun f hf => ?_
      rcases (hg f).2.2 with h | ⟨h, hname⟩
      · exact h
      · exact h.trans ((hs.class0 f.id hname).2 f (List.mem_append_left _ hf) rfl).symm
    show (t.lc.queue.map _).Pairwise _
    rw [hclasses]
    exact hs.rising

theorem repeatState {f : State → State} (h : ∀ s, QueueKept s (f s)) (n : Nat) (s : State) : QueueKept s (Machine.repeatState f n s) :=
  repeatState_keeps (P := QueueKept s) (fun t ht => ht.trans (h t)) n s (.refl s)

theorem foldl {α : Type} {f : State → α → State} (h : ∀ s a, QueueKept s (f s a)) (l : List α) (s : State) :
    QueueKept s (l.foldl f s) := by
  induction l generalizing s with
  | nil => exact .refl s
  | cons a l ih => exact (h s a).trans (ih _)

end State.QueueKept

end Sys2Proof.Machine
end

section
/-! PROOFS. What LC, ZC, DU and PU do keeps the bound and the order of LC's queue. -/

namespace Sys2Proof.Machine

open Sys2Proof (Byte Word Data Stamp Datum Side Instr)

/-- Taking a state leaves a zone's outstanding frame. -/
theorem ZoneRecord.entering_frameName (st : ZoneState) (z : ZoneRecord) : (z.entering st).frameName = z.frameName := by
  unfold ZoneRecord.entering
  dsimp only
  split <;> rfl

/-- The frame admitted is one of the held ones. -/
theorem nextHeld_mem {held : List TxFrame} {f : TxFrame} (h : nextHeld held = some f) : f ∈ held := by
  unfold nextHeld at h
  split at h
  · rename_i hg
    exact Option.some.inj h ▸ List.mem_of_find?_eq_some hg
  · exact List.mem_of_head? h

namespace State

open QueueKept

/-! ### Events, entries and peers -/

theorem putEntry_queueKept (h : Nat) (e : HoleEntry) (s : State) : QueueKept s (s.putEntry h e) := by
  unfold putEntry
  split <;> exact .refl s

theorem raise_queueKept (e : EventSource) (s : State) : QueueKept s (s.raise e) := .refl s

theorem setWork_queueKept (w : WorkState) (s : State) : QueueKept s (s.setWork w) := .refl s

/-! ### LC (R49 to R52) -/

theorem offer_queueKept (o : Owner) (b : Body) (s : State) : QueueKept s (s.offer o b) := by
  unfold offer
  dsimp only
  split
  · rename_i hroom
    exact of_entry rfl rfl (.inl ⟨hroom, rfl, rfl⟩)
  · exact of_entry rfl rfl (.inr ⟨rfl, rfl⟩)

theorem queueOwed_queueKept (h : Nat) {s : State} (hroom : s.lc.queue.length < Config.queueSize) : QueueKept s (s.queueOwed h) := by
  unfold queueOwed
  split
  · exact .refl s
  · dsimp only
    refine QueueKept.trans ?_ (putEntry_queueKept _ _ _)
    exact of_entry rfl rfl (.inl ⟨hroom, rfl, rfl⟩)

theorem admitOne_queueKept (s : State) : QueueKept s s.admitOne := by
  unfold admitOne
  split
  · rename_i hroom
    split
    · exact .refl s
    · rename_i f hf
      have erased : QueueKept s { s with lc.held := s.lc.held.erase f } :=
        of_shrinks { held := fun _ hg => List.mem_of_mem_erase hg }
      dsimp only
      split
      · split
        · exact erased.trans (queueOwed_queueKept _ hroom)
        · exact erased
      · refine LinkView.Changes.kept (new := none) (v := s.linkView) ?_ (fun _ => ?_) fun hs => insertByClass_ordered f _ hs.rising
        · refine ⟨Nat.le_refl _, fun _ h => (nomatch h), fun g hg => .inr ⟨g, ?_, rfl, rfl, .inl rfl⟩, fun _ h => .inl h,
            fun _ h => .inl h, fun _ h => .inl h, fun _ h => .inl h, fun _ h => .inl h⟩
          rcases List.mem_append.mp hg with hg | hg
          · rcases (mem_insertByClass _ _ _).mp hg with rfl | hg
            · exact List.mem_append_right _ (nextHeld_mem hf)
            · exact List.mem_append_left _ hg
          · exact List.mem_append_right _ (List.mem_of_mem_erase hg)
        · show (insertByClass f s.lc.queue).length ≤ _
          rw [insertByClass_length]
          exact hroom
  · exact .refl s

theorem admitHeld_queueKept (s : State) : QueueKept s s.admitHeld := .repeatState admitOne_queueKept _ s

theorem offerOwed_queueKept (s : State) : QueueKept s s.offerOwed := by
  unfold offerOwed
  dsimp only
  generalize hu : Machine.repeatState _ s.ht.length s = u
  have queued : QueueKept s u := by
    rw [← hu]
    refine .repeatState (fun t => ?_) _ s
    split
    · rename_i hroom
      simp only [Bool.and_eq_true, decide_eq_true_eq] at hroom
      split
      · exact queueOwed_queueKept _ hroom.1
      · exact .refl t
    · exact .refl t
  refine queued.trans ?_
  split
  · exact of_shrinks { held := fun _ h => List.mem_of_mem_filter h }
  · split
    · exact .refl u
    · exact of_entry rfl rfl (.inr ⟨rfl, rfl⟩)

theorem removeFrame_queueKept (id : Nat) (s : State) : QueueKept s (s.removeFrame id) := by
  unfold removeFrame
  split
  · exact .refl s
  · refine QueueKept.trans (of_shrinks ?_) (admitHeld_queueKept _)
    exact { queue := List.filter_sublist, held := fun _ h => List.mem_of_mem_filter h }

/-- A frame named for class 0 is replaced by a body of class 0. -/
theorem replaceFrame_queueKept {id : Nat} {b : Body} {s : State} (hb : b.accessClass = 0) (hid : s.linkView.names0 id) :
    QueueKept s (s.replaceFrame id b) := by
  unfold replaceFrame
  split
  · exact .refl s
  · refine of_rewrite rfl (.inl rfl) rfl fun f => ?_
    split
    · rename_i hf
      exact ⟨rfl, rfl, .inr ⟨hb, hf ▸ hid⟩⟩
    · exact ⟨rfl, rfl, .inl rfl⟩

theorem voidInFlight_queueKept (p : Body → Bool) (s : State) : QueueKept s (s.voidInFlight p) := by
  unfold voidInFlight
  split
  · split
    · refine of_rewrite rfl (.inr rfl) rfl fun f => ?_
      split <;> exact ⟨rfl, rfl, .inl rfl⟩
    · exact .refl s
  · exact .refl s

theorem transmit_queueKept (quiet : Nat) (s : State) : QueueKept s (s.transmit quiet) := by
  have quieted : QueueKept s (s.quietFor quiet) := by
    unfold quietFor
    split <;> exact .refl s
  have begun : ∀ (c : Candidate) (t : State), QueueKept t (t.beginAttempt c) := by
    intro c t
    refine of_shrinks { nextId := ?_ }
    cases c
    · exact Nat.le_succ _
    · exact Nat.le_refl _
  unfold transmit
  dsimp only
  refine quieted.trans ?_
  split
  · split
    · exact begun _ _
    · exact .refl _
  · exact .refl _

theorem readBackWhole_queueKept (f : TxFrame) (s : State) : QueueKept s (s.readBackWhole f) := by
  unfold readBackWhole
  dsimp only
  refine QueueKept.trans (of_shrinks ?_) (admitHeld_queueKept _)
  exact { queue := List.filter_sublist }

theorem linkFrameStart_queueKept (s : State) : QueueKept s s.linkFrameStart := by
  unfold linkFrameStart
  dsimp only
  generalize hu : voidInFlight _ s = u
  refine (hu ▸ voidInFlight_queueKept _ s : QueueKept s u).trans (QueueKept.trans (of_shrinks ?_) (admitHeld_queueKept _))
  exact { queue := List.filter_sublist, held := fun _ h => List.mem_of_mem_filter h }

theorem linkUnconfigured_queueKept (s : State) : QueueKept s s.linkUnconfigured := by
  unfold linkUnconfigured
  dsimp only
  generalize hu : voidInFlight _ s = u
  refine (hu ▸ voidInFlight_queueKept _ s : QueueKept s u).trans (of_shrinks ?_)
  exact { queue := List.nil_sublist _, held := fun _ h => nomatch h }

theorem linkClear_queueKept (s : State) : QueueKept s s.linkClear :=
  of_shrinks { queue := List.nil_sublist _, held := fun _ h => nomatch h }

/-! ### ZC (ch. 4) -/

/-- A record under the old name, or under none. -/
theorem putZone_queueKept {side : Side} {z : ZoneRecord} {s : State}
    (h : ∀ id, z.frameName = some id → (s.zone side).frameName = some id) : QueueKept s (s.putZone side z) := by
  cases side
  · exact of_shrinks { left := h }
  · exact of_shrinks { right := h }

/-- A change of a zone's record that leaves its outstanding frame, or makes none outstanding. -/
theorem onZone_queueKept {side : Side} {f : ZoneRecord → ZoneRecord} {s : State}
    (h : ∀ id, (f (s.zone side)).frameName = some id → (s.zone side).frameName = some id) : QueueKept s (s.onZone side f) :=
  putZone_queueKept h

theorem noOutstanding_queueKept (side : Side) (s : State) : QueueKept s (s.onZone side fun z => { z with outstanding := .no }) :=
  onZone_queueKept fun _ h => nomatch h

theorem zone_names0 {s : State} {side : Side} {id : Nat} (h : (s.zone side).frameName = some id) : s.linkView.names0 id := by
  cases side
  · exact .inl h
  · exact .inr (.inl h)

theorem sendOutstanding_queueKept (side : Side) (o : Outstanding) (a : ZoneAction) (s : State) :
    QueueKept s (s.sendOutstanding side o a) := by
  have named : ∀ z : ZoneRecord, LinkView.nameFrom
      (some { id := s.lc.nextId, owner := .zc, body := .zone side a, mark := s.du.intentBacks })
      (fun f => f.body.accessClass = 0 ∧ f.owner ≠ .du) (s.zone side).frameName
      ({ z with outstanding := o, frameId := s.lc.nextId } : ZoneRecord).frameName := by
    intro z id hid
    simp only [ZoneRecord.frameName, Option.ite_none_left_eq_some] at hid
    exact .inr ⟨_, rfl, Option.some.inj hid.2, rfl, by simp⟩
  unfold sendOutstanding offerZone offer
  dsimp only
  split
  · rename_i hroom
    cases side
    · exact of_entry rfl rfl (.inl ⟨hroom, rfl, rfl⟩) (left := named _)
    · exact of_entry rfl rfl (.inl ⟨hroom, rfl, rfl⟩) (right := named _)
  · cases side
    · exact of_entry rfl rfl (.inr ⟨rfl, rfl⟩) (left := named _)
    · exact of_entry rfl rfl (.inr ⟨rfl, rfl⟩) (right := named _)

theorem dropOutstanding_queueKept (side : Side) (s : State) : QueueKept s (s.dropOutstanding side) := by
  unfold dropOutstanding
  dsimp only
  split
  · exact .refl s
  · split
    · exact .refl s
    · exact (removeFrame_queueKept _ s).trans (noOutstanding_queueKept side _)

theorem seizeToRequest_queueKept (side : Side) (s : State) : QueueKept s (s.seizeToRequest side) := by
  unfold seizeToRequest
  dsimp only
  split
  · rename_i h
    simp only [Bool.and_eq_true, decide_eq_true_eq, Bool.not_eq_true'] at h
    have hname : (s.zone side).frameName = some (s.zone side).frameId := by simp [ZoneRecord.frameName, h.1]
    refine (replaceFrame_queueKept (b := .zone side .request) rfl (zone_names0 hname)).trans (onZone_queueKept fun id hid => ?_)
    have hzone : (s.replaceFrame (s.zone side).frameId (.zone side .request)).zone side = s.zone side := by
      unfold replaceFrame
      split <;> rfl
    rw [hzone] at hid ⊢
    rw [hname]
    exact hid
  · exact .refl s

theorem tidyOutstanding_queueKept (side : Side) (st : ZoneState) (s : State) : QueueKept s (s.tidyOutstanding side st) := by
  unfold tidyOutstanding
  split
  case h_4 | h_6 => exact .refl s
  all_goals exact dropOutstanding_queueKept side s

end State

end Sys2Proof.Machine
end

section
/-! PROOFS. What ZC, DU and PU do keeps the bound and the order of LC's queue. -/

namespace Sys2Proof.Machine

open Sys2Proof (Byte Word Data Stamp Datum Side Instr)

namespace State

open QueueKept

/-! ### Changes of a zone's state -/

theorem zoneTo_queueKept (side : Side) (st : ZoneState) (s : State) : QueueKept s (s.zoneTo side st) := by
  have entered : ∀ t : State, QueueKept t (t.onZone side (·.entering st)) := fun t =>
    onZone_queueKept fun _ h => ((t.zone side).entering_frameName st).symm.trans h
  unfold zoneTo
  dsimp only
  split
  · exact entered s
  · exact (tidyOutstanding_queueKept side st s).trans (entered _)

theorem applyBlock_queueKept (side : Side) (s : State) : QueueKept s (s.applyBlock side) := by
  have block : QueueKept s (if s.blocks side then s.zoneTo side .blocked else s) := by
    split
    · exact zoneTo_queueKept side _ s
    · exact .refl s
  unfold applyBlock
  split
  case h_1 | h_2 | h_3 => exact .refl s
  all_goals exact block

theorem zoneChange_queueKept (side : Side) (st : ZoneState) (s : State) : QueueKept s (s.zoneChange side st) :=
  (zoneTo_queueKept side st s).trans (applyBlock_queueKept side _)

theorem noName_queueKept (side : Side) {z : ZoneRecord} (h : z.outstanding = .no) (s : State) : QueueKept s (s.putZone side z) :=
  putZone_queueKept fun _ hid => by simp [ZoneRecord.frameName, h] at hid

theorem rebound_queueKept (side : Side) (s : State) : QueueKept s (s.rebound side) := by
  unfold rebound
  split
  · split
    · exact .refl s
    · exact (dropOutstanding_queueKept side s).trans (noName_queueKept side rfl _)
  · split
    · dsimp only
      refine QueueKept.trans ?_ (zoneTo_queueKept side _ _)
      exact putZone_queueKept fun _ h => h
    · split
      · exact .refl s
      · exact onZone_queueKept fun _ h => h

theorem holdZone_queueKept (side : Side) (stamp : Stamp) (s : State) : QueueKept s (s.holdZone side stamp) :=
  (zoneTo_queueKept side _ s).trans (onZone_queueKept fun _ h => h)

/-! ### What the neighbour's frames do (R71 to R74, R78) -/

theorem hearSeize_queueKept (side : Side) (s : State) : QueueKept s (s.hearSeize side) := by
  unfold hearSeize
  dsimp only
  generalize hu : (if (s.zone side).state = .noZone then s else s.seizeToRequest side) = u
  have turned : QueueKept s u := by
    rw [← hu]
    split
    · exact .refl s
    · exact seizeToRequest_queueKept side s
  refine turned.trans ?_
  split
  · exact .refl u
  · exact onZone_queueKept fun _ h => h
  all_goals exact zoneChange_queueKept side _ u

theorem recordRequest_queueKept (side : Side) (s : State) : QueueKept s (s.onZone side ZoneRecord.recordRequest) :=
  onZone_queueKept fun _ h => h

theorem hearRequest_queueKept (side : Side) (s : State) : QueueKept s (s.hearRequest side) := by
  unfold hearRequest
  split
  · exact recordRequest_queueKept side s
  · exact .refl s

theorem seizeRequested_queueKept (side : Side) (s : State) : QueueKept s (s.seizeRequested side) := by
  have unheard : QueueKept s (s.onZone side fun z => { z with releaseHeard := false }) := onZone_queueKept fun _ h => h
  unfold seizeRequested
  dsimp only
  split
  · exact unheard.trans (sendOutstanding_queueKept side _ _ _)
  · exact unheard

theorem hearRelease_queueKept (side : Side) (s : State) : QueueKept s (s.hearRelease side) := by
  unfold hearRelease
  split
  case h_1 => exact zoneChange_queueKept side _ s
  case h_2 =>
    split
    · exact zoneChange_queueKept side _ s
    · split
      · exact onZone_queueKept fun _ h => h
      · exact seizeRequested_queueKept side s
  all_goals exact .refl s

theorem dualHold_queueKept (side : Side) (s : State) : QueueKept s (s.dualHold side) := by
  unfold dualHold
  split
  · exact .refl s
  · exact onZone_queueKept fun _ h => h

theorem reconcileZone_queueKept (side : Side) (s : State) : QueueKept s (s.reconcileZone side) := by
  have dual : ∀ held : Bool, QueueKept s (if held then s.dualHold side else s) := by
    rintro (_ | _)
    · exact .refl s
    · exact dualHold_queueKept side s
  unfold reconcileZone
  split
  · exact .refl s
  · split
    · exact applyBlock_queueKept side s
    · split
      case h_1 | h_4 | h_6 | h_13 | h_17 => exact .refl s
      case h_2 => exact (seizeToRequest_queueKept side s).trans (zoneChange_queueKept side _ _)
      case h_5 =>
        dsimp only
        split
        · exact (dual _).trans (recordRequest_queueKept side _)
        · exact dual _
      case h_9 =>
        split
        · exact seizeRequested_queueKept side s
        · exact .refl s
      case h_11 => exact hearRelease_queueKept side s
      all_goals exact zoneChange_queueKept side _ s

theorem neighbourSilent_queueKept (side : Side) (s : State) : QueueKept s (s.neighbourSilent side) := by
  have lapsed : ∀ st, QueueKept s ((s.dropOutstanding side).zoneChange side st) := fun st =>
    (dropOutstanding_queueKept side s).trans (zoneChange_queueKept side st _)
  unfold neighbourSilent
  dsimp only
  refine QueueKept.trans ?_ (applyBlock_queueKept side _)
  split
  · exact lapsed _
  · exact lapsed _
  · exact .refl s

/-! ### Own read-backs (R72, R74, R77) -/

theorem outstandingBack_queueKept (f : TxFrame) (side : Side) (s : State) : QueueKept s (s.outstandingBack f side) := by
  unfold outstandingBack
  split
  · exact noOutstanding_queueKept side s
  · exact .refl s

theorem seizeBack_queueKept (f : TxFrame) (side : Side) (stamp : Stamp) (s : State) : QueueKept s (s.seizeBack f side stamp) := by
  unfold seizeBack
  split
  · exact .refl s
  · refine (outstandingBack_queueKept f side s).trans ?_
    dsimp only
    split
    · exact holdZone_queueKept side stamp _
    · exact holdZone_queueKept side stamp _
    · exact zoneChange_queueKept side _ _
    all_goals exact .refl _

theorem requestBack_queueKept (f : TxFrame) (side : Side) (s : State) : QueueKept s (s.requestBack f side) := by
  unfold requestBack
  split
  · exact .refl s
  · refine (outstandingBack_queueKept f side s).trans ?_
    dsimp only
    split
    · exact zoneChange_queueKept side _ _
    · exact .refl _

theorem releaseBack_queueKept (side : Side) (s : State) : QueueKept s (s.releaseBack side) := by
  unfold releaseBack
  dsimp only
  split
  · split
    · exact zoneChange_queueKept side _ s
    · split
      · exact zoneChange_queueKept side _ s
      · split
        · refine (zoneTo_queueKept side .yielding s).trans (QueueKept.trans ?_ (applyBlock_queueKept side _))
          exact onZone_queueKept fun _ h => h
        · exact zoneChange_queueKept side _ s
  · exact .refl s

theorem yieldOver_queueKept (side : Side) (s : State) : QueueKept s (s.yieldOver side) := by
  unfold yieldOver
  split
  · exact zoneChange_queueKept side _ s
  · exact .refl s

theorem selfLapsed_queueKept (side : Side) (s : State) : QueueKept s (s.selfLapsed side) := by
  unfold selfLapsed
  split
  · exact (raise_queueKept _ s).trans (zoneChange_queueKept side _ _)
  · exact .refl s

/-! ### Releasing (R75, R76) -/

theorem countCycle_queueKept (s : State) : QueueKept s s.countCycle := by
  have counted : ∀ (z : ZoneRecord) (id : Nat), z.countCycle.frameName = some id → z.frameName = some id := by
    intro z id h
    unfold ZoneRecord.countCycle at h
    split at h <;> exact h
  exact of_shrinks { left := counted _, right := counted _ }

theorem considerRelease_queueKept (side : Side) (s : State) : QueueKept s (s.considerRelease side) := by
  unfold considerRelease
  dsimp only
  split
  · exact onZone_queueKept fun _ h => h
  · exact .refl s

/-- ZC offers a RELEASE and notes it as sent (R76). -/
theorem sendRelease_queueKept (side : Side) (s : State) :
    QueueKept s ((s.offerZone side .release).onZone side fun z => { z with progress := .sent }) :=
  (offer_queueKept .zc _ s).trans (onZone_queueKept fun _ h => h)

theorem carryRelease_queueKept (side : Side) (s : State) : QueueKept s (s.carryRelease side) := by
  unfold carryRelease
  dsimp only
  split
  · split
    · exact sendRelease_queueKept side s
    · split
      · split
        · exact .refl s
        · refine QueueKept.trans ?_ (onZone_queueKept fun _ h => h)
          exact .refl s
      · exact .refl s
  · exact .refl s

theorem retreatDone_queueKept (side : Side) (s : State) : QueueKept s (s.retreatDone side) := by
  unfold retreatDone
  dsimp only
  split
  · exact sendRelease_queueKept side s
  · exact .refl s

theorem withdrawRequest_queueKept (side : Side) (s : State) : QueueKept s (s.withdrawRequest side) := by
  unfold withdrawRequest
  split
  · exact zoneChange_queueKept side _ s
  · exact .refl s

theorem makeRequest_queueKept (side : Side) (s : State) : QueueKept s (s.makeRequest side) := by
  unfold makeRequest
  dsimp only
  split
  · exact sendOutstanding_queueKept side _ _ s
  · exact .refl s

/-! ### The occasions of R85 -/

theorem resetZone_queueKept (side : Side) (s : State) : QueueKept s (s.resetZone side) := by
  unfold resetZone
  dsimp only
  split
  · exact .refl s
  · exact noName_queueKept side rfl s

theorem giveUpZone_queueKept (side : Side) (s : State) : QueueKept s (s.giveUpZone side) := by
  unfold giveUpZone
  dsimp only
  refine QueueKept.trans ?_ (resetZone_queueKept side _)
  have dropped : ∀ b : Bool, QueueKept s (if (s.zone side).outstanding = .no then s
      else if b then s.voidInFlight (fun _ => true) else s.removeFrame (s.zone side).frameId) := by
    intro b
    split
    · exact .refl s
    · split
      · exact voidInFlight_queueKept _ s
      · exact removeFrame_queueKept _ s
  split
  · exact (dropped _).trans (offer_queueKept .zc _ _)
  · exact dropped _

theorem giveUpZones_queueKept (s : State) : QueueKept s s.giveUpZones :=
  (giveUpZone_queueKept .left s).trans (giveUpZone_queueKept .right _)

theorem resetZones_queueKept (s : State) : QueueKept s s.resetZones :=
  (resetZone_queueKept .left s).trans (resetZone_queueKept .right _)

theorem noZones_queueKept (s : State) : QueueKept s s.noZones :=
  (noName_queueKept .left rfl s).trans (noName_queueKept .right rfl _)

theorem clearZones_queueKept (s : State) : QueueKept s s.clearZones := by
  have release : ∀ (side : Side) (z : ZoneRecord) (t : State), QueueKept t (if z.state = .heldOwn then t.offerZone side .release else t) := by
    intro side z t
    split
    · exact offer_queueKept .zc _ t
    · exact .refl t
  unfold clearZones
  dsimp only
  exact (release .left s.zc.left s).trans ((release .right _ _).trans (noZones_queueKept _))

/-! ### DU (ch. 8) -/

/-- DU offers an INTENT under the name it keeps from then on. -/
theorem queueIntent_queueKept (s : State) : QueueKept s s.queueIntent := by
  unfold queueIntent offerDraw offer
  dsimp only
  split
  · rename_i hroom
    exact of_entry rfl rfl (.inl ⟨hroom, rfl, rfl⟩) (intent := fun _ h => .inr ⟨_, rfl, Option.some.inj h, trivial⟩)
  · exact of_entry rfl rfl (.inr ⟨rfl, rfl⟩) (intent := fun _ h => .inr ⟨_, rfl, Option.some.inj h, trivial⟩)

theorem beginDraw_queueKept (hole amount : Nat) (s : State) : QueueKept s (s.beginDraw hole amount) :=
  queueIntent_queueKept { s with du.own := { s.du.own with amount, hole } }

/-- A change of the own intent's record that keeps the names of its frames, or drops them. -/
theorem onIntent_queueKept {f : OwnIntent → OwnIntent} {s : State}
    (hwithdraw : ∀ id, (f s.du.own).withdrawId = some id → s.du.own.withdrawId = some id)
    (hintent : ∀ id, (f s.du.own).intentId = some id → s.du.own.intentId = some id) : QueueKept s (s.onIntent f) :=
  of_shrinks { withdraw := hwithdraw, intent := hintent }

/-- The own intent stands no longer, and its name is not kept. -/
theorem ended_queueKept (st : IntentState) (s : State) : QueueKept s (s.onIntent (OwnIntent.ended st)) :=
  onIntent_queueKept (fun _ h => h) fun _ h => nomatch h

/-- DU offers a WITHDRAW under the name it keeps for a replacement (R154). -/
theorem withdraw_queueKept (s : State) : QueueKept s s.withdraw := by
  unfold withdraw offerDraw offer
  dsimp only
  split
  · rename_i hroom
    exact of_entry rfl rfl (.inl ⟨hroom, rfl, rfl⟩) (withdraw := fun _ h => .inr ⟨_, rfl, Option.some.inj h, rfl⟩)
      (intent := fun _ h => nomatch h)
  · exact of_entry rfl rfl (.inr ⟨rfl, rfl⟩) (withdraw := fun _ h => .inr ⟨_, rfl, Option.some.inj h, rfl⟩)
      (intent := fun _ h => nomatch h)

theorem freshIntent_queueKept (s : State) : QueueKept s s.freshIntent := by
  unfold freshIntent
  split
  · rename_i id hid
    split
    · refine (replaceFrame_queueKept rfl (.inr (.inr hid))).trans (of_changes ?_ (List.Sublist.refl _))
      have hwithdraw : (s.replaceFrame id (.draw .intent s.du.own.amount s.du.own.hole)).linkView.withdraw = some id := by
        unfold replaceFrame
        split <;> exact hid
      exact ⟨Nat.le_refl _, fun _ h => (nomatch h), fun f hf => .inr ⟨f, hf, rfl, rfl, .inl rfl⟩, fun _ h => .inl h,
        fun _ h => .inl h, fun _ h => .inl h, fun _ h => (nomatch h), fun i h => .inr (.inl (Option.some.inj h ▸ hwithdraw))⟩
    · exact queueIntent_queueKept s
  · exact queueIntent_queueKept s

theorem removal_queueKept (s : State) : QueueKept s s.removal := by
  unfold removal
  split
  · exact freshIntent_queueKept s
  · exact .refl s

theorem emptyDraw_queueKept (j : Nat) (s : State) : QueueKept s (s.emptyDraw j) := by
  unfold emptyDraw
  split
  · exact .refl s
  · exact removal_queueKept (s.setDraw j none)

theorem hearIntent_queueKept (j amount hole : Nat) (stamp : Stamp) (s : State) : QueueKept s (s.hearIntent j amount hole stamp) := by
  unfold hearIntent
  split <;> exact .refl s

theorem decideDraw_queueKept (s : State) : QueueKept s s.decideDraw := by
  unfold decideDraw
  split
  · exact ended_queueKept .supplyCheck s
  · exact withdraw_queueKept s

theorem supplyFails_queueKept (s : State) : QueueKept s s.supplyFails :=
  withdraw_queueKept { s.raise .supplyLow with du.supplyWaits := s.du.supplyWaits + 1 }

theorem judgePressure_queueKept (v : Nat) (s : State) : QueueKept s (s.judgePressure v).1 := by
  unfold judgePressure
  split
  · split
    · exact ended_queueKept _ s
    · split
      · exact supplyFails_queueKept s
      · dsimp only
        split <;> exact .refl s
  · exact .refl s

theorem intentBack_queueKept (f : TxFrame) (amount hole : Nat) (stamp : Stamp) (s : State) :
    QueueKept s (s.intentBack f amount hole stamp) := by
  unfold intentBack
  dsimp only
  split
  · exact of_shrinks { intent := fun _ h => nomatch h }
  · refine QueueKept.trans ?_ (offer_queueKept .du _ _)
    exact .refl s

theorem announceBack_queueKept (f : TxFrame) (s : State) : QueueKept s (s.announceBack f) := by
  unfold announceBack
  split <;> exact .refl s

theorem squeezeClosed_queueKept (normally : Bool) (s : State) : QueueKept s (s.squeezeClosed normally) := by
  unfold squeezeClosed
  dsimp only
  split
  · have done : QueueKept s (((s.setDraw s.k none).offerDraw .done 0 s.du.own.hole).onIntent (OwnIntent.ended .no)) :=
      (offer_queueKept .du _ (s.setDraw s.k none)).trans (ended_queueKept _ _)
    split <;> exact done
  · exact .refl s

theorem giveUpIntent_queueKept (s : State) : QueueKept s s.giveUpIntent := by
  unfold giveUpIntent
  split
  case h_1 | h_2 => exact .refl s
  case h_3 =>
    dsimp only
    split
    · exact (removeFrame_queueKept _ s).trans (ended_queueKept _ _)
    · exact ended_queueKept _ s
  case h_7 => exact ended_queueKept _ s
  all_goals exact (offer_queueKept .du _ (s.setDraw s.k none)).trans (ended_queueKept _ _)

theorem clearDraw_queueKept (s : State) : QueueKept s s.clearDraw := by
  unfold clearDraw
  dsimp only
  split
  · refine QueueKept.trans ?_ (onIntent_queueKept (fun _ h => nomatch h) fun _ h => nomatch h)
    refine QueueKept.trans ?_ (offer_queueKept .du _ _)
    exact .refl s
  · refine QueueKept.trans ?_ (onIntent_queueKept (fun _ h => nomatch h) fun _ h => nomatch h)
    exact .refl s

theorem resetDraw_queueKept (s : State) : QueueKept s s.resetDraw :=
  of_shrinks { withdraw := fun _ h => (nomatch h), intent := fun _ h => nomatch h }

end State

end Sys2Proof.Machine
end

section
/-! PROOFS. What PU, HT, CS and the station's passages do keeps the bound and the order of LC's queue. -/

namespace Sys2Proof.Machine.State

open Sys2Proof (Byte Word Data Stamp Datum Side Instr)
open QueueKept

/-! ### PU (ch. 2) -/

theorem setProber_queueKept (st : ProberStatus) (deadline : Option Nat) (measured : Option (Nat × Nat)) (s : State) :
    QueueKept s (s.setProber st deadline measured) := by
  unfold setProber
  split <;> exact .refl s

theorem setRecord_queueKept (d : Datum) (r : DatumRecord) (s : State) : QueueKept s (s.setRecord d r) := by
  cases d <;> exact .refl s

theorem computeCorrection_queueKept (s : State) : QueueKept s s.computeCorrection := by
  unfold computeCorrection
  split
  · dsimp only
    split <;> exact .refl s
  · exact .refl s

theorem applyDatum_queueKept (d : Datum) (r q source : Nat) (stamp : Stamp) (s : State) :
    QueueKept s (s.applyDatum d r q source stamp) :=
  (setRecord_queueKept d _ s).trans (computeCorrection_queueKept _)

theorem proberDue_queueKept (s : State) : QueueKept s s.proberDue := by
  unfold proberDue
  split
  · exact setProber_queueKept _ _ _ s
  · exact .refl s

theorem probeFailed_queueKept (s : State) : QueueKept s s.probeFailed :=
  (setProber_queueKept _ _ _ s).trans (raise_queueKept _ _)

theorem expireDatum_queueKept (d : Datum) (s : State) : QueueKept s (s.expireDatum d) := by
  have expired : QueueKept s (((s.setRecord d { s.pu.record d with status := .expired }).raise .datumExpired).computeCorrection) :=
    (setRecord_queueKept d _ s).trans ((raise_queueKept _ _).trans (computeCorrection_queueKept _))
  unfold expireDatum
  dsimp only
  split
  · split
    · exact expired.trans (proberDue_queueKept _)
    · exact expired
  · exact .refl s

theorem demand_queueKept (p : Presence) (s : State) : QueueKept s (s.demand p) := by
  rw [demand_eq]
  exact .refl s

theorem judgeDatum_queueKept (rail cross : Nat) (kind : SenseKind) (dx dy : Int) (s : State) :
    QueueKept s (s.judgeDatum rail cross kind dx dy) := by
  unfold judgeDatum
  dsimp only
  split
  · exact .refl s
  · split
    · exact (setProber_queueKept _ _ _ s).trans (offer_queueKept .pu _ _)
    · exact probeFailed_queueKept s

theorem datumBack_queueKept (d : Datum) (r q : Nat) (stamp : Stamp) (s : State) : QueueKept s (s.datumBack d r q stamp) := by
  unfold datumBack
  dsimp only
  split
  · exact (applyDatum_queueKept d r q s.k stamp s).trans (setProber_queueKept _ _ _ _)
  · exact applyDatum_queueKept d r q s.k stamp s

theorem removeDatums_queueKept (s : State) : QueueKept s s.removeDatums := by
  unfold removeDatums
  exact .foldl (fun t id => removeFrame_queueKept id t) _ s

theorem proberReset_queueKept (s : State) : QueueKept s s.proberReset := by
  unfold proberReset
  split
  · exact setProber_queueKept _ _ _ s
  · exact setProber_queueKept _ _ _ s
  · exact .refl s

/-! ### HT (1.5, 1.6) -/

theorem applyToEntry_queueKept (h : Heard) (s : State) : QueueKept s (s.applyToEntry h) := by
  unfold applyToEntry
  split
  · exact .refl s
  · split
    · exact .refl s
    · exact putEntry_queueKept _ _ s

theorem applyHeld_queueKept (h : Heard) (s : State) : QueueKept s (s.applyHeld h) := by
  unfold applyHeld
  split
  · split
    · exact applyToEntry_queueKept h s
    all_goals exact .refl s
  · exact .refl s

theorem reconcileClaims_queueKept (j : Nat) (claim : Option Claim) (s : State) : QueueKept s (s.reconcileClaims j claim) := by
  unfold reconcileClaims
  split
  · exact .refl s
  · refine .foldl (fun t n => ?_) _ s
    split
    · exact .refl t
    · split
      · exact putEntry_queueKept _ _ t
      · exact .refl t

theorem oweCorrection_queueKept (n : Nat) (s : State) : QueueKept s (s.oweCorrection n) := by
  unfold oweCorrection
  split
  · exact .refl s
  · exact putEntry_queueKept _ _ s

/-! ### CS (6.4, 6.5) -/

theorem onCycle_queueKept (f : Cycle → Cycle) (s : State) : QueueKept s (s.onCycle f) := .refl s

theorem takeEnding_queueKept (cause : EndCause) (through : Bool) (s : State) : QueueKept s (s.takeEnding cause through) := by
  unfold takeEnding
  split
  · exact .refl s
  · split
    · exact .refl s
    · dsimp only
      split
      · exact .refl s
      · split
        · refine QueueKept.trans ?_ (giveUpIntent_queueKept _)
          exact .refl s
        · exact .refl s

theorem revertOwn_queueKept (h : Nat) (s : State) : QueueKept s (s.revertOwn h) := by
  unfold revertOwn
  split
  · exact .refl s
  · split
    · exact putEntry_queueKept _ _ s
    · exact .refl s

theorem writeOutcome_queueKept (c : Claim) (o : CycleOutcome) (frame : Bool) (s : State) : QueueKept s (s.writeOutcome c o frame) := by
  unfold writeOutcome
  split
  · exact .refl s
  · dsimp only
    have written : ∀ e', QueueKept s
        (if o.isRejected then (s.putEntry c.hole e').raise .holeRejected else s.putEntry c.hole e') := by
      intro e'
      split <;> exact putEntry_queueKept c.hole e' s
    split
    · exact (written _).trans (offer_queueKept .cs _ _)
    · exact written _

/-- The record is discarded, and the selection in cycle with it. -/
theorem endCycle_queueKept (s : State) : QueueKept s s.endCycle := by
  unfold endCycle
  split
  · exact .refl s
  · rename_i cy hcy
    dsimp only
    generalize hu : List.foldl _ _ cy.left = u
    have dropped : QueueKept s u := by
      rw [← hu]
      refine QueueKept.trans ?_ (.foldl (fun t h => applyToEntry_queueKept h t) cy.left _)
      split
      · split
        · exact of_shrinks { claim := fun _ h => nomatch h }
        · exact .refl s
      · exact .refl s
    split
    · exact dropped
    · exact dropped

theorem finishEnding_queueKept (cy : Cycle) (e : Ending) (s : State) : QueueKept s (s.finishEnding cy e) := by
  unfold finishEnding
  split
  · dsimp only
    split
    · exact (setProber_queueKept _ _ _ s).trans (endCycle_queueKept _)
    · exact endCycle_queueKept s
  · split
    · exact endCycle_queueKept s
    · split
      · exact (revertOwn_queueKept _ s).trans ((writeOutcome_queueKept _ _ _ _).trans (endCycle_queueKept _))
      · exact (revertOwn_queueKept _ s).trans ((offer_queueKept _ _ _).trans (endCycle_queueKept _))

theorem finishReporting_queueKept (cy : Cycle) (s : State) : QueueKept s (s.finishReporting cy) := by
  unfold finishReporting
  split
  · split
    · exact endCycle_queueKept s
    · exact (writeOutcome_queueKept _ _ _ s).trans (endCycle_queueKept _)
  · exact endCycle_queueKept s

theorem haltCycle_queueKept (s : State) : QueueKept s s.haltCycle := by
  unfold haltCycle
  split
  · exact .refl s
  · dsimp only
    refine QueueKept.trans ?_ (endCycle_queueKept _)
    split
    · exact .refl s
    · split
      · exact .refl s
      · exact (revertOwn_queueKept _ s).trans (writeOutcome_queueKept _ _ _ _)

theorem commandDone_queueKept (c : Command) (stopped : Bool) (s : State) : QueueKept s (s.commandDone c stopped) := by
  unfold commandDone
  split
  · exact .refl s
  · cases c
    case travel p =>
      dsimp only
      split
      · exact .refl s
      · split <;> exact .refl s
    case clamp =>
      dsimp only
      split
      · exact .refl s
      · split
        · refine QueueKept.trans ?_ (beginDraw_queueKept _ _ _)
          exact .refl s
        · exact .refl s
    all_goals
      dsimp only
      split <;> exact .refl s

theorem chooseGrip_queueKept (stack : Nat) (cy : Cycle) (s : State) : QueueKept s (s.chooseGrip stack cy) := by
  unfold chooseGrip
  split <;> exact .refl s

theorem proceedSet_queueKept (h : Nat) (cy : Cycle) (s : State) : QueueKept s (s.proceedSet h cy) := by
  unfold proceedSet
  split
  · exact .refl s
  · exact chooseGrip_queueKept _ cy s

theorem reposition_queueKept (kind : SenseKind) (dx dy : Int) (cy : Cycle) (s : State) : QueueKept s (s.reposition kind dx dy cy) := by
  unfold reposition
  dsimp only
  split
  · exact .refl s
  · split <;> exact .refl s

theorem judgeSense_queueKept (c : Claim) (kind : SenseKind) (dx dy : Int) (cy : Cycle) (s : State) :
    QueueKept s (s.judgeSense c kind dx dy cy) := by
  unfold judgeSense
  dsimp only
  split
  · exact .refl s
  · split
    · split
      · exact reposition_queueKept kind dx dy cy s
      · exact .refl s
    · split
      case h_4 => exact proceedSet_queueKept _ cy s
      all_goals exact .refl s

theorem senseDone_queueKept (kind : SenseKind) (dx dy : Int) (s : State) : QueueKept s (s.senseDone kind dx dy) := by
  unfold senseDone
  split
  · exact .refl s
  · split
    · exact .refl s
    · split
      · exact judgeSense_queueKept _ kind dx dy _ s
      · exact (judgeDatum_queueKept _ _ kind dx dy s).trans (endCycle_queueKept _)

theorem gaugeDone_queueKept (v : Nat) (s : State) : QueueKept s (s.gaugeDone v) := by
  have written : ∀ (b : Bool) (h : Nat) (e : HoleEntry), QueueKept s (if b then s else s.putEntry h e) := by
    intro b h e
    split
    · exact .refl s
    · exact putEntry_queueKept h e s
  unfold gaugeDone
  split
  · exact .refl s
  · split
    · exact .refl s
    · rename_i c _
      cases he : s.ht[c.hole]? with
      | none =>
        dsimp only
        split
        · exact .refl s
        · split
          · exact .refl s
          · split
            · exact chooseGrip_queueKept v _ s
            · exact .refl s
      | some e =>
        dsimp only
        split
        · exact written _ _ _
        · split
          · exact written _ _ _
          · split
            · exact (written _ _ _).trans (chooseGrip_queueKept v _ _)
            · exact written _ _ _

theorem drillDone_queueKept (s : State) : QueueKept s s.drillDone := by
  unfold drillDone
  dsimp only
  split
  · exact .refl s
  · split
    · exact .refl s
    · split <;> exact .refl s

theorem thrustSample_queueKept (v : Nat) (s : State) : QueueKept s (s.thrustSample v) := by
  unfold thrustSample
  dsimp only
  split
  · split <;> exact .refl s
  · exact .refl s

theorem squeezeEnds_queueKept (o : CycleOutcome) (normally : Bool) (s : State) : QueueKept s (s.squeezeEnds o normally) :=
  squeezeClosed_queueKept normally { s with cs.lastSqueeze := some s.clock }

theorem squeezeDone_queueKept (peak stroke : Nat) (s : State) : QueueKept s (s.squeezeDone peak stroke) := by
  unfold squeezeDone
  split
  · exact squeezeEnds_queueKept _ true s
  · exact .refl s

theorem pressureDone_queueKept (v : Nat) (s : State) : QueueKept s (s.pressureDone v).1 :=
  judgePressure_queueKept v (s.onCycle fun cy => { cy with task := .idle })

theorem cycleFails_queueKept (placed : List Command) (s : State) : QueueKept s (s.cycleFails placed) := by
  unfold cycleFails
  dsimp only
  generalize List.any placed _ = b
  generalize hu : (if b then { s with sa := s.sa.fail } else s) = u
  have failed : QueueKept s u := by
    rw [← hu]
    split <;> exact .refl s
  refine failed.trans ?_
  split
  · exact .refl u
  · split
    · split
      · exact .refl u
      · split
        · exact squeezeEnds_queueKept _ false u
        all_goals exact .refl u
    · exact .refl u

/-! ### The station's passages (R85 to R92, R166 to R174) -/

theorem lowerFlag_queueKept (s : State) : QueueKept s s.lowerFlag := by
  rw [lowerFlag_eq]
  exact .refl s

theorem haltPort_queueKept (s : State) : QueueKept s s.haltPort := by
  unfold haltPort
  dsimp only
  generalize hu : lowerFlag _ = u
  have lowered : QueueKept s u := by
    rw [← hu]
    refine QueueKept.trans ?_ (lowerFlag_queueKept _)
    exact .refl s
  split <;> exact lowered

/-- WS keeps the name of a CLAIM in flight, and of no other (R89, R100). -/
theorem dropSelection_queueKept (s : State) : QueueKept s s.dropSelection := by
  have dropped : QueueKept s { s with ws.selection := none } := of_shrinks { claim := fun _ h => nomatch h }
  have removed : ∀ x : Selection, s.ws.selection = some x → x.stage = .claimQueued ∨ x.stage = .claimWithdrawn →
      QueueKept s (if s.inFlight x.frameId then { s with ws.selection := some { x with stage := .claimWithdrawn } }
        else removeFrame x.frameId { s with ws.selection := none }) := by
    intro x hx hstage
    split
    · refine of_shrinks { claim := fun id h => ?_ }
      show s.ws.selection.bind _ = _
      rw [hx, Option.bind_some, Selection.frameName, if_pos hstage]
      exact h
    · exact dropped.trans (removeFrame_queueKept _ _)
  unfold dropSelection
  split
  · exact .refl s
  · rename_i x hx
    split
    · exact removed x hx (.inl ‹_›)
    · exact removed x hx (.inr ‹_›)
    all_goals exact dropped

theorem endLone_queueKept (how : LoneEnd) (s : State) : QueueKept s (s.endLone how) := by
  unfold endLone
  split
  · exact .refl s
  · split
    · exact .refl s
    · split <;> exact .refl s

theorem enterFaulted_queueKept (src : FaultSource) (s : State) : QueueKept s (s.enterFaulted src) := by
  unfold enterFaulted
  split
  case h_5 | h_6 | h_7 => exact .refl s
  all_goals
    dsimp only
    refine QueueKept.trans ?_ (giveUpIntent_queueKept _)
    refine QueueKept.trans ?_ (giveUpZones_queueKept _)
    refine QueueKept.trans ?_ (dropSelection_queueKept _)
    refine QueueKept.trans ?_ (endLone_queueKept .fault _)
    refine QueueKept.trans ?_ (takeEnding_queueKept .fault true _)
    exact .refl s

/-- Entry into HALTED keeps the queue, and no name (R52, R171). -/
theorem enterHalted_queueKept (src : FaultSource) (s : State) : QueueKept s (s.enterHalted src) := by
  unfold enterHalted
  split
  case h_1 | h_2 => exact .refl s
  all_goals
    dsimp only
    generalize hu : (if s.ws.state = .faulted then s else s.recordCause src) = u
    have recorded : QueueKept s u := by
      rw [← hu]
      split <;> exact .refl s
    refine recorded.trans ((haltPort_queueKept u).trans ((haltCycle_queueKept _).trans ?_))
    refine QueueKept.trans ?_ (offerOwed_queueKept _)
    refine QueueKept.trans ?_ (setWork_queueKept .halted _)
    refine QueueKept.trans ?_ (noZones_queueKept _)
    exact of_shrinks { claim := fun _ h => (nomatch h), withdraw := fun _ h => (nomatch h), intent := fun _ h => nomatch h }

theorem clearanceHalt_queueKept (c : HaltCheck) (s : State) : QueueKept s (s.clearanceHalt c) :=
  (raise_queueKept _ s).trans (enterHalted_queueKept _ _)

theorem raiseFault_queueKept (e : EventSource) (src : FaultSource) (s : State) : QueueKept s (s.raiseFault e src) :=
  (raise_queueKept e s).trans (enterFaulted_queueKept src _)

/-- WS has no selection any more. -/
theorem noSelection_queueKept (s : State) (ws : WorkSelector) (h : ws.selection = none) : QueueKept s { s with ws := ws } :=
  of_shrinks { claim := fun id hid => by simp [linkView, h] at hid }

theorem frameCycleStart_queueKept (s : State) : QueueKept s s.frameCycleStart := by
  unfold frameCycleStart
  dsimp only
  refine QueueKept.trans ?_ (noSelection_queueKept _ _ rfl)
  refine QueueKept.trans ?_ (onCycle_queueKept _ _)
  refine QueueKept.trans ?_ (resetDraw_queueKept _)
  refine QueueKept.trans ?_ (resetZones_queueKept _)
  refine QueueKept.trans ?_ (setProber_queueKept .due none none _)
  refine QueueKept.trans ?_ (linkFrameStart_queueKept _)
  exact .refl s

theorem jigCloses_queueKept (s : State) : QueueKept s s.jigCloses := by
  unfold jigCloses
  dsimp only
  split
  · refine QueueKept.trans ?_ (frameCycleStart_queueKept _)
    exact .refl s
  · exact .refl s

theorem jigOpens_queueKept (s : State) : QueueKept s s.jigOpens := by
  have removed : ∀ t : State, QueueKept t (if t.proberStatus = some .awaitingReadBack then t.removeDatums else t) := by
    intro t
    split
    · exact removeDatums_queueKept t
    · exact .refl t
  unfold jigOpens
  dsimp only
  split
  case h_4 | h_5 | h_6 | h_7 => exact .refl s
  all_goals
    refine QueueKept.trans ?_ (proberReset_queueKept _)
    refine QueueKept.trans ?_ (removed _)
    refine QueueKept.trans ?_ (giveUpIntent_queueKept _)
    refine QueueKept.trans ?_ (giveUpZones_queueKept _)
    refine QueueKept.trans ?_ (dropSelection_queueKept _)
    refine QueueKept.trans ?_ (endLone_queueKept .plain _)
    refine QueueKept.trans ?_ (takeEnding_queueKept .jigOpen false _)
    exact .refl s

theorem land_queueKept (s : State) : QueueKept s s.land := by
  unfold land
  split
  · exact .refl s
  · split
    · exact frameCycleStart_queueKept s
    · exact .refl s

theorem forgetPeers_queueKept (s : State) : QueueKept s s.forgetPeers := by
  unfold forgetPeers
  rw [evalConflict_eq]
  exact .refl s

theorem stationClear_queueKept (s : State) : QueueKept s s.stationClear := by
  unfold stationClear
  split
  · dsimp only
    refine QueueKept.trans ?_ (land_queueKept _)
    refine QueueKept.trans ?_ (noSelection_queueKept _ _ rfl)
    refine QueueKept.trans ?_ (forgetPeers_queueKept _)
    refine QueueKept.trans ?_ (proberReset_queueKept _)
    refine QueueKept.trans ?_ (endLone_queueKept .plain _)
    refine QueueKept.trans ?_ (takeEnding_queueKept .clear false _)
    exact (linkClear_queueKept s).trans ((clearZones_queueKept _).trans (clearDraw_queueKept _))
  · exact .refl s

theorem enterUnconfigured_queueKept (s : State) : QueueKept s s.enterUnconfigured := by
  unfold enterUnconfigured
  dsimp only
  refine QueueKept.trans ?_ (forgetPeers_queueKept _)
  refine QueueKept.trans ?_ (noSelection_queueKept _ _ rfl)
  refine QueueKept.trans ?_ (resetDraw_queueKept _)
  refine QueueKept.trans ?_ (noZones_queueKept _)
  refine QueueKept.trans ?_ (setProber_queueKept .due none none _)
  exact linkUnconfigured_queueKept s

theorem configured_queueKept (s : State) : QueueKept s s.configured := by
  unfold configured
  split
  · unfold passToIdle
    dsimp only
    split
    · refine QueueKept.trans ?_ (frameCycleStart_queueKept _)
      exact .refl s
    · exact .refl s
  · exact .refl s

end Sys2Proof.Machine.State
end

section
/-! PROOFS. What the effector port, a settling pass and the frames heard do keeps the bound and the order of LC's queue. -/

namespace Sys2Proof.Machine.State

open Sys2Proof (Byte Word Data Stamp Datum Side Instr)
open QueueKept

/-! ### EP (6.1, 6.2) -/

theorem loneFails_queueKept (s : State) : QueueKept s s.loneFails := by
  unfold loneFails
  split
  · exact .refl s
  · split
    · dsimp only
      split <;> exact .refl s
    · exact .refl s

theorem effectorFault_queueKept (kind : FailKind) (deadly : Bool) (s : State) : QueueKept s (s.effectorFault kind deadly) := by
  unfold effectorFault
  dsimp only
  refine (raise_queueKept .effectorFault s).trans ?_
  split
  · exact enterHalted_queueKept _ _
  · exact enterFaulted_queueKept _ _

theorem closeFailed_queueKept (s : State) : QueueKept s s.closeFailed := by
  unfold closeFailed
  refine QueueKept.trans ?_ (lowerFlag_queueKept _)
  exact .refl s

theorem portFails_queueKept (kind : FailKind) (extra : Option Command) (s : State) : QueueKept s (s.portFails kind extra) := by
  unfold portFails
  dsimp only
  refine (closeFailed_queueKept s).trans (QueueKept.trans ?_ (effectorFault_queueKept kind _ _))
  split
  · exact .refl _
  · exact (cycleFails_queueKept _ _).trans (loneFails_queueKept _)

theorem placeCommand_queueKept (c : Command) (u : PortUser) (s : State) : QueueKept s (s.placeCommand c u) := by
  unfold placeCommand
  split
  · exact .refl s
  · exact portFails_queueKept _ _ s

theorem commandTaken_queueKept (c : Command) (u : PortUser) (s : State) : QueueKept s (s.commandTaken c u) := by
  unfold commandTaken
  split
  · split <;> exact .refl s
  · split <;> exact .refl s
  · exact .refl s
  · dsimp only
    split <;> exact .refl s

theorem resumeRises_queueKept (s : State) : QueueKept s s.resumeRises := by
  unfold resumeRises
  dsimp only
  split <;> exact .refl s

theorem resumeFalls_queueKept (s : State) : QueueKept s s.resumeFalls := by
  unfold resumeFalls
  dsimp only
  split
  · exact .refl s
  · split
    · split
      · exact .refl s
      · split
        · exact .refl s
        · refine QueueKept.trans ?_ (commandTaken_queueKept _ _ _)
          exact .refl s
    · exact .refl s

theorem responseLate_queueKept (s : State) : QueueKept s s.responseLate := by
  unfold responseLate
  split
  · exact .refl s
  · dsimp only
    split
    · exact .refl s
    · split
      · refine QueueKept.trans ?_ (lowerFlag_queueKept _)
        exact .refl s
      · refine QueueKept.trans ?_ (portFails_queueKept .noResume none _)
        exact .refl s

theorem completionLate_queueKept (s : State) : QueueKept s s.completionLate := by
  unfold completionLate
  split
  · refine QueueKept.trans ?_ (portFails_queueKept .timeout none _)
    exact .refl s
  · exact .refl s

theorem readyFalls_queueKept (width : Nat) (s : State) : QueueKept s (s.readyFalls width) := by
  unfold readyFalls
  dsimp only
  split
  · refine QueueKept.trans ?_ (portFails_queueKept .notReady none _)
    exact .refl s
  · exact .refl s

theorem loneDone_queueKept (stopped : Bool) (s : State) : QueueKept s (s.loneDone stopped) := by
  unfold loneDone
  split
  · exact .refl s
  · split
    · exact .refl s
    · split
      · refine QueueKept.trans ?_ (retreatDone_queueKept _ _)
        exact .refl s
      all_goals exact .refl s

theorem doneCloses_queueKept (st : OpenStream) (s : State) : QueueKept s (s.doneCloses st) := by
  unfold doneCloses
  dsimp only
  cases st.command
  case travel p =>
    cases st.user
    · refine QueueKept.trans ?_ (commandDone_queueKept _ _ _)
      exact .refl s
    · refine QueueKept.trans ?_ (loneDone_queueKept _ _)
      exact .refl s
    · exact .refl s
  all_goals
    cases st.user
    · refine QueueKept.trans ?_ (commandDone_queueKept _ _ _)
      exact .refl s
    · refine QueueKept.trans ?_ (loneDone_queueKept _ _)
      exact .refl s
    · exact .refl s

theorem clearanceStop_queueKept (s : State) : QueueKept s s.clearanceStop := by
  rw [clearanceStop_eq]
  exact .refl s

theorem clearanceChecks_queueKept (s : State) : QueueKept s s.clearanceChecks := by
  unfold clearanceChecks
  split
  · exact clearanceHalt_queueKept _ s
  · exact clearanceStop_queueKept s

theorem positionHeard_queueKept (st : OpenStream) (p : Nat) (s : State) : QueueKept s (s.positionHeard st p) := by
  unfold positionHeard
  dsimp only
  generalize hu : clearanceChecks _ = u
  have checked : QueueKept s u := by
    rw [← hu]
    refine QueueKept.trans ?_ (clearanceChecks_queueKept _)
    exact .refl s
  split
  · exact checked.trans (clearanceHalt_queueKept _ u)
  · exact checked

theorem supplyFaulted_queueKept (s : State) : QueueKept s s.supplyFaulted := by
  unfold supplyFaulted
  split
  · exact enterFaulted_queueKept _ s
  · exact .refl s

theorem acceptReport_queueKept (st : OpenStream) (d : Data) (w : Accepted) (s : State) : QueueKept s (s.acceptReport st d w) := by
  have closed : QueueKept s s.closeStream := .refl s
  cases w with
  | part => exact .refl s
  | done => exact doneCloses_queueKept st s
  | position p => exact positionHeard_queueKept st p s
  | sample v => exact thrustSample_queueKept v s
  | trailing => exact closed.trans (drillDone_queueKept _)
  | sense kind dx dy => exact closed.trans (senseDone_queueKept kind dx dy _)
  | gauge v => exact closed.trans (gaugeDone_queueKept v _)
  | squeeze peak stroke => exact closed.trans (squeezeDone_queueKept peak stroke _)
  | pressure v =>
    have judged := closed.trans (pressureDone_queueKept v s.closeStream)
    unfold acceptReport
    dsimp only
    split
    · exact judged.trans (supplyFaulted_queueKept _)
    · exact judged

theorem takeWord_queueKept (tag : Nat) (d : Data) (mark : Bool) (s : State) : QueueKept s (s.takeWord tag d mark) := by
  have judged : ∀ t : State, QueueKept t (t.judgeWord tag d mark) := by
    intro t
    unfold judgeWord
    split
    · exact .refl t
    · split
      · split
        · exact .refl t
        · exact portFails_queueKept _ _ t
      · split
        · exact portFails_queueKept _ _ t
        · split
          · exact portFails_queueKept _ _ t
          · split
            · exact acceptReport_queueKept _ d _ t
            · exact portFails_queueKept _ _ t
  exact judged { s with lines.reportFlag := true, lines.mark := mark, ep.taken := true }

/-! ### Placing what CS has asked for -/

theorem placeForCycle_queueKept (c : Command) (f : Cycle → Cycle) (s : State) : QueueKept s (s.placeForCycle c f) :=
  (onCycle_queueKept _ s).trans (placeCommand_queueKept c _ _)

theorem tryTravel_queueKept (p : Nat) (asked : Bool) (s : State) : QueueKept s (s.tryTravel p asked) := by
  unfold tryTravel
  dsimp only
  split
  · exact .refl s
  · split
    · exact .refl s
    · split
      · exact takeEnding_queueKept _ _ s
      · split
        · exact placeForCycle_queueKept _ _ s
        · exact .refl s

theorem tryDrill_queueKept (s : State) : QueueKept s s.tryDrill := by
  unfold tryDrill
  split
  · split
    · exact .refl s
    · split
      · exact .refl s
      · refine QueueKept.trans ?_ (placeForCycle_queueKept _ _ _)
        exact .refl s
  · exact .refl s

theorem trySqueeze_queueKept (cy : Cycle) (s : State) : QueueKept s (s.trySqueeze cy) := by
  unfold trySqueeze
  split
  · dsimp only
    split
    · split
      · exact takeEnding_queueKept _ _ s
      · split
        · refine QueueKept.trans ?_ (placeForCycle_queueKept _ _ _)
          exact .refl s
        · exact portFails_queueKept _ _ s
    · exact .refl s
  · exact .refl s

theorem tryPoll_queueKept (s : State) : QueueKept s s.tryPoll := by
  unfold tryPoll
  split
  · refine QueueKept.trans ?_ (placeForCycle_queueKept _ _ _)
    exact .refl s
  · exact .refl s

theorem tryTask_queueKept (c : Command) (asked : Bool) (s : State) : QueueKept s (s.tryTask c asked) := by
  unfold tryTask
  split
  · exact .refl s
  · split
    · exact tryTravel_queueKept _ asked s
    · exact tryDrill_queueKept s
    · exact placeForCycle_queueKept _ _ s
    · split
      · exact placeForCycle_queueKept _ _ s
      · exact .refl s
    · exact .refl s
    · exact placeForCycle_queueKept _ _ s

theorem carryCycle_queueKept (cy : Cycle) (s : State) : QueueKept s (s.carryCycle cy) := by
  unfold carryCycle
  split
  · exact tryTask_queueKept _ _ s
  · exact .refl s
  · split
    · exact (tryPoll_queueKept s).trans (trySqueeze_queueKept cy _)
    · exact finishReporting_queueKept cy s
    · exact .refl s

theorem placeInterject_queueKept (s : State) : QueueKept s s.placeInterject := by
  unfold placeInterject
  split
  · exact .refl s
  · dsimp only
    split
    · exact .refl s
    · split
      all_goals
        split
        · split
          · refine QueueKept.trans ?_ (placeCommand_queueKept _ _ _)
            exact .refl s
          · exact .refl s
        · exact .refl s

theorem windCycle_queueKept (cy : Cycle) (e : Ending) (s : State) : QueueKept s (s.windCycle cy e) := by
  have placed : ∀ (cy' : Cycle) (c : Command), QueueKept s ((s.setCycle cy').placeCommand c .cycle) := fun cy' c =>
    QueueKept.trans (t := s.setCycle cy') (.refl s) (placeCommand_queueKept c _ _)
  unfold windCycle
  dsimp only
  split
  · split
    · exact finishEnding_queueKept cy e s
    · exact .refl s
  · split
    · split
      · exact .refl s
      · split
        all_goals
          split
          · split
            · exact placed _ _
            · exact .refl s
          · exact .refl s
    · split
      · exact placed _ _
      · exact .refl s

theorem stepCycle_queueKept (s : State) : QueueKept s s.stepCycle := by
  unfold stepCycle
  split
  · exact .refl s
  · split
    · split
      · exact carryCycle_queueKept _ s
      · exact windCycle_queueKept _ _ s
    · exact carryCycle_queueKept _ s

theorem stepLone_queueKept (s : State) : QueueKept s s.stepLone := by
  unfold stepLone
  split
  · exact .refl s
  · split
    · split
      · exact .refl s
      · split
        · split
          · exact placeCommand_queueKept _ _ s
          · exact .refl s
        · exact .refl s
    · split
      · exact .refl s
      · split
        · exact .refl s
        · split
          · refine QueueKept.trans ?_ (placeCommand_queueKept _ _ _)
            exact .refl s
          · exact .refl s

theorem stepPark_queueKept (s : State) : QueueKept s s.stepPark := by
  unfold stepPark
  dsimp only
  split
  · refine QueueKept.trans ?_ (placeCommand_queueKept _ _ _)
    exact .refl s
  · exact .refl s

/-! ### Work conditions, zones and selection -/

theorem stepSelection_queueKept (s : State) : QueueKept s s.stepSelection := by
  unfold stepSelection
  split
  · exact .refl s
  · split
    · split
      · exact .refl s
      · exact noSelection_queueKept s _ rfl
    · split
      · exact dropSelection_queueKept s
      · exact .refl s
    · exact .refl s

theorem toWorking_queueKept (s : State) : QueueKept s s.toWorking := by
  unfold toWorking
  dsimp only
  split <;> exact .refl s

theorem stepConditions_queueKept (s : State) : QueueKept s s.stepConditions := by
  unfold stepConditions
  split
  · split
    · exact toWorking_queueKept s
    · exact .refl s
  · split <;> exact .refl s
  · split <;> exact .refl s
  all_goals exact .refl s

theorem stepFinish_queueKept (s : State) : QueueKept s s.stepFinish := by
  unfold stepFinish
  split
  · split
    · unfold toFinished
      dsimp only
      split <;> exact .refl s
    · exact .refl s
  · split
    · exact toWorking_queueKept s
    · exact .refl s
  all_goals exact .refl s

theorem stepZone_queueKept (side : Side) (s : State) : QueueKept s (s.stepZone side) :=
  (withdrawRequest_queueKept side s).trans ((considerRelease_queueKept side _).trans (carryRelease_queueKept side _))

theorem stepZones_queueKept (s : State) : QueueKept s s.stepZones := (stepZone_queueKept .left s).trans (stepZone_queueKept .right _)

theorem stepRequests_queueKept (s : State) : QueueKept s s.stepRequests :=
  (makeRequest_queueKept .left s).trans (makeRequest_queueKept .right _)

/-- WS offers a CLAIM under the name its selection keeps. -/
theorem offerClaim_queueKept (ch : Choice) (s : State) : QueueKept s (s.offerClaim ch) := by
  unfold offerClaim offer
  split
  · exact .refl s
  · dsimp only
    split
    · rename_i hroom
      exact of_entry rfl rfl (.inl ⟨hroom, rfl, rfl⟩) (claim := fun _ h => .inr ⟨_, rfl, Option.some.inj h, nofun⟩)
    · exact of_entry rfl rfl (.inr ⟨rfl, rfl⟩) (claim := fun _ h => .inr ⟨_, rfl, Option.some.inj h, nofun⟩)

/-- A selection whose CLAIM is not with LC keeps no name. -/
theorem unnamed_queueKept {x : Selection} (h : x.stage = .seizeWait ∨ x.stage = .inCycle) (s : State) :
    QueueKept s { s with ws.selection := some x } := by
  refine of_shrinks { claim := fun id hid => ?_ }
  rcases h with h | h <;> simp [linkView, Selection.frameName, h] at hid

theorem askSeize_queueKept {side : Side} {x : Selection} (hx : x.stage = .seizeWait) {s t : State} (h : s.askSeize side x = some t) :
    QueueKept s t := by
  unfold askSeize at h
  split at h
  · obtain rfl := Option.some.inj h
    exact (sendOutstanding_queueKept side _ _ s).trans (unnamed_queueKept (.inl hx) _)
  · obtain rfl := Option.some.inj h
    exact unnamed_queueKept (.inl hx) s
  · cases h

theorem takeDatum_queueKept (p : Int × Int) (z : Option Side) (s : State) : QueueKept s (s.takeDatum p z) := by
  unfold takeDatum
  split
  · exact probeFailed_queueKept s
  · refine QueueKept.trans ?_ (countCycle_queueKept _)
    exact (setProber_queueKept .inCycle none none s).trans (unnamed_queueKept (.inr rfl) _)

theorem takeChoice_queueKept (ch : Choice) (s : State) : QueueKept s (s.takeChoice ch).1 := by
  unfold takeChoice
  split
  · exact offerClaim_queueKept ch s
  · split
    · exact offerClaim_queueKept ch s
    · split
      · exact askSeize_queueKept rfl ‹_›
      · exact .refl s

theorem choose_queueKept (refused : List Side) (s : State) : QueueKept s (s.choose refused).1 := by
  unfold choose
  split
  · split
    · exact takeDatum_queueKept _ _ s
    · split
      · exact takeDatum_queueKept _ _ s
      · split
        · exact askSeize_queueKept rfl ‹_›
        · exact .refl s
  · split
    · split
      · exact takeChoice_queueKept _ s
      · split
        · exact takeChoice_queueKept _ s
        · exact .refl s
    · exact .refl s

theorem select_queueKept (n : Nat) (refused : List Side) (s : State) : QueueKept s (select n refused s) := by
  induction n generalizing refused s with
  | zero => exact .refl s
  | succ n ih =>
    have chosen := choose_queueKept refused s
    unfold select
    split
    · rename_i t h
      rw [h] at chosen
      exact chosen
    · rename_i t side h
      rw [h] at chosen
      exact QueueKept.trans (t := t) chosen (ih _ t)

theorem stepSelect_queueKept (s : State) : QueueKept s s.stepSelect := by
  unfold stepSelect
  split
  · exact select_queueKept 3 [] s
  · exact .refl s

theorem settleOnce_queueKept (s : State) : QueueKept s s.settleOnce := by
  unfold settleOnce
  split
  · dsimp only
    generalize hu : stepPark _ = u
    have passed : QueueKept s u := by
      rw [← hu]
      refine QueueKept.trans ?_ (stepPark_queueKept _)
      refine QueueKept.trans ?_ (stepSelect_queueKept _)
      refine QueueKept.trans ?_ (stepRequests_queueKept _)
      refine QueueKept.trans ?_ (stepFinish_queueKept _)
      refine QueueKept.trans ?_ (stepZones_queueKept _)
      refine QueueKept.trans ?_ (stepConditions_queueKept _)
      exact (placeInterject_queueKept s).trans ((stepCycle_queueKept _).trans ((stepLone_queueKept _).trans
        (stepSelection_queueKept _)))
    split
    · exact passed.trans (offerOwed_queueKept u)
    · exact passed
  · exact .refl s

theorem settle_queueKept (s : State) : QueueKept s s.settle := .repeatState settleOnce_queueKept 8 s

/-! ### Frames heard (3.7, 5.5) -/

theorem settleConflict_queueKept (h : Heard) (n : Nat) (s : State) : QueueKept s (s.settleConflict h n) := by
  unfold settleConflict
  split
  · exact oweCorrection_queueKept n s
  · split
    · exact .refl s
    · split
      · exact oweCorrection_queueKept n s
      · refine QueueKept.trans ?_ (takeEnding_queueKept _ _ _)
        exact .refl s

theorem hearHole_queueKept (h : Heard) (s : State) : QueueKept s (s.hearHole h) := by
  unfold hearHole
  split
  · exact .refl s
  · split
    · exact .refl s
    · split
      · split
        · exact settleConflict_queueKept h _ s
        · exact applyHeld_queueKept h s
      · exact applyToEntry_queueKept h s

theorem evalConflict_queueKept (s : State) : QueueKept s s.evalConflict := by
  rw [evalConflict_eq]
  exact .refl s

theorem hearPresence_queueKept (j : Nat) (p : Presence) (s : State) : QueueKept s (s.hearPresence j p) := by
  unfold hearPresence
  extract_lets passes mismatch peer demanded fresh bounded conflicted checked zoned
  have hdemanded : QueueKept s demanded := by
    refine QueueKept.trans ?_ (demand_queueKept p peer)
    show QueueKept s mismatch
    rw [show mismatch = s.planMismatch j p from rfl, (planMismatch_eq j p s).1]
    exact .refl s
  have hbounded : QueueKept demanded bounded := by
    show QueueKept demanded (match demanded.cfg.sideOf j with
      | some side => demanded.rebound side
      | none => demanded)
    split
    · exact rebound_queueKept _ demanded
    · exact .refl demanded
  have hchecked : QueueKept bounded checked := by
    refine (evalConflict_queueKept bounded).trans ?_
    show QueueKept conflicted (match conflicted.cfg.sideOf j with
      | some _ => conflicted.clearanceChecks
      | none => conflicted)
    split
    · exact clearanceChecks_queueKept conflicted
    · exact .refl conflicted
  have hzoned : QueueKept checked zoned := by
    show QueueKept checked (match checked.cfg.sideOf j with
      | some side => if fresh then checked else checked.reconcileZone side
      | none => checked)
    split
    · split
      · exact .refl checked
      · exact reconcileZone_queueKept _ checked
    · exact .refl checked
  have heard := hdemanded.trans (hbounded.trans hchecked)
  split
  · exact heard
  · split
    · exact heard.trans (hzoned.trans (reconcileClaims_queueKept j p.claim zoned))
    · exact heard.trans hzoned

theorem dispatchKind_queueKept (j : Nat) (b : Body) (stamp : Stamp) (s : State) : QueueKept s (s.dispatchKind j b stamp) := by
  unfold dispatchKind
  split
  · split
    · exact applyDatum_queueKept _ _ _ j stamp s
    · exact .refl s
  · split
    · exact .refl s
    · split
      · exact hearSeize_queueKept _ s
      · exact hearRelease_queueKept _ s
      · exact hearRequest_queueKept _ s
  · split
    · exact hearIntent_queueKept j _ _ stamp s
    · exact emptyDraw_queueKept j s
    · exact emptyDraw_queueKept j s
  case h_8 | h_9 => exact .refl s
  all_goals exact hearHole_queueKept _ s

theorem dispatch_queueKept (j : Nat) (b : Body) (s : State) : QueueKept s (s.dispatch j b) := by
  unfold dispatch
  split
  · exact hearPresence_queueKept j _ s
  · split
    · exact dispatchKind_queueKept j b _ s
    · exact .refl s

theorem receive_queueKept (bytes : List Byte) (s : State) : QueueKept s (s.receive bytes) := by
  unfold receive
  split
  · exact .refl s
  · split
    · exact .refl s
    · split
      · unfold hearForeign
        refine QueueKept.trans ?_ (raiseFault_queueKept _ _ _)
        exact .refl s
      · split
        · exact .refl s
        · exact dispatch_queueKept _ _ s

theorem hearFrame_queueKept (bytes : List Byte) (s : State) : QueueKept s (s.hearFrame bytes) := by
  unfold hearFrame
  dsimp only
  split
  · exact .refl s
  · split
    · refine QueueKept.trans ?_ (receive_queueKept bytes _)
      exact .refl s
    · exact .refl s

/-! ### Own frames read back (3.8, 5.6) -/

theorem claimBack_queueKept (f : TxFrame) (c : Claim) (stamp : Stamp) (s : State) : QueueKept s (s.claimBack f c stamp) := by
  unfold claimBack
  split
  · exact .refl s
  · extract_lets mine queued ws dropped
    have hdropped : QueueKept s dropped := by
      show QueueKept s (if mine.isSome then { s with ws.selection := none } else s)
      split
      · exact noSelection_queueKept s _ rfl
      · exact .refl s
    split
    · unfold confirmClaim
      refine QueueKept.trans ?_ (countCycle_queueKept _)
      exact (putEntry_queueKept _ _ s).trans (unnamed_queueKept (.inr rfl) _)
    · exact .refl s
    · exact hdropped
    · exact hdropped
    · exact hdropped.trans (offer_queueKept .ws _ _)

theorem ownerBack_queueKept (f : TxFrame) (s : State) : QueueKept s (s.ownerBack f) := by
  have closed : QueueKept s (s.closeClaim f) := by
    unfold closeClaim
    split
    · exact .refl s
    · split <;> exact .refl s
  unfold ownerBack
  split
  · exact .refl s
  · split
    · exact .refl s
    · exact datumBack_queueKept _ _ _ _ s
  · exact claimBack_queueKept f _ _ s
  · exact closed
  · exact closed
  · exact closed
  · split
    · exact seizeBack_queueKept f _ _ s
    · exact requestBack_queueKept f _ s
    · exact releaseBack_queueKept _ s
  · split
    · exact intentBack_queueKept f _ _ _ s
    · exact announceBack_queueKept f s
    · exact announceBack_queueKept f s
  · exact .refl s

theorem readBack_queueKept (named : Body → Bool) (s : State) : QueueKept s (s.readBack named) := by
  unfold readBack
  split
  · exact .refl s
  · split
    · exact (readBackWhole_queueKept _ s).trans (ownerBack_queueKept _ _)
    · exact .refl s

theorem failAttempt_queueKept (s : State) : QueueKept s s.failAttempt := by
  have failed : QueueKept s s.attemptEndsFailed.retryWithdrawal := by
    refine QueueKept.trans (t := s.attemptEndsFailed) (.refl s) ?_
    unfold retryWithdrawal
    split
    · split
      · exact dropSelection_queueKept _
      · exact .refl _
    · exact .refl _
  unfold failAttempt
  split
  · exact .refl s
  · dsimp only
    split
    · exact failed.trans (raiseFault_queueKept _ _ _)
    · exact failed

/-! ### Timers -/

theorem silence_queueKept (j : Nat) (s : State) : QueueKept s (s.silence j) := by
  unfold silence
  dsimp only
  split
  · refine QueueKept.trans ?_ (neighbourSilent_queueKept _ _)
    exact .refl s
  · exact .refl s

theorem lose_queueKept (j : Nat) (s : State) : QueueKept s (s.lose j) := by
  unfold lose
  dsimp only
  generalize hu : emptyDraw j _ = u
  have emptied : QueueKept s u := by
    rw [← hu]
    refine QueueKept.trans ?_ (emptyDraw_queueKept j _)
    refine QueueKept.trans ?_ (reconcileClaims_queueKept j none _)
    exact .refl s
  split
  · exact emptied.trans (applyBlock_queueKept _ u)
  · exact emptied

theorem loseAfterSilence_queueKept (j : Nat) (s : State) : QueueKept s (s.loseAfterSilence j) := by
  unfold loseAfterSilence
  split
  · exact (silence_queueKept j s).trans (lose_queueKept j _)
  · exact lose_queueKept j s

theorem limitPasses_queueKept (s : State) : QueueKept s s.limitPasses :=
  (supplyFails_queueKept s).trans (supplyFaulted_queueKept _)

theorem expire_queueKept {effect : State → State} (h : ∀ s, QueueKept s (effect s)) (due : Option Nat) (s : State) :
    QueueKept s (s.expire due effect) := by
  unfold expire
  split
  · exact .refl s
  · exact QueueKept.trans (t := s.reach _) (.refl s) (h _)

end Sys2Proof.Machine.State
end

section
/-! PROOFS. The bound and the order of LC's queue through every step. -/

namespace Sys2Proof.Machine

open Sys2Proof (Byte Word Data Stamp Datum Side Instr)

namespace State

open QueueKept

/-! ### The service port (ch. 10) -/

theorem applySetup_queueKept (c : Setup) (s : State) : QueueKept s (s.applySetup c) := by
  have expired : ∀ (d : Datum) (t : State), QueueKept t (t.expireIfOld d) := by
    intro d t
    unfold expireIfOld
    split
    · split
      · exact expireDatum_queueKept d t
      · exact .refl t
    · exact .refl t
  have positioned : ∀ (old : Option DatumRole) (t : State), QueueKept t (t.setupAtPosition old) := by
    intro old t
    have both := (expired .a t).trans (expired .b _)
    unfold setupAtPosition
    dsimp only
    split
    · exact both.trans (computeCorrection_queueKept _)
    · exact both
  unfold applySetup
  dsimp only
  refine QueueKept.trans ?_ (configured_queueKept _)
  refine QueueKept.trans ?_ (positioned _ _)
  refine QueueKept.trans ?_ (forgetPeers_queueKept _)
  refine QueueKept.trans ?_ (noZones_queueKept _)
  exact .refl s

/-- What a request does at once, and what follows from it. -/
theorem accept_queueKept {s t : State} (h : QueueKept s t) : QueueKept s t.accept.state := h.trans (settle_queueKept t)

theorem serveHeader_queueKept (h : PlanHeader) (s : State) : QueueKept s (s.serveHeader h).state := by
  unfold serveHeader
  split
  · exact .refl s
  · split
    · exact .refl s
    · refine accept_queueKept ?_
      split
      · refine QueueKept.trans ?_ (enterUnconfigured_queueKept _)
        exact .refl s
      · exact .refl s

theorem serveRework_queueKept (n : Nat) (target : ReworkTarget) (s : State) : QueueKept s (s.serveRework n target).state := by
  unfold serveRework
  split
  · exact .refl s
  · split
    · exact .refl s
    · split_ifs
      · exact .refl s
      · exact .refl s
      · exact accept_queueKept ((putEntry_queueKept _ _ s).trans (offer_queueKept .ht _ _))
      · exact .refl s

theorem serveErrorClear_queueKept (s : State) : QueueKept s s.serveErrorClear.state := by
  unfold serveErrorClear
  split_ifs
  case neg =>
    refine accept_queueKept ?_
    unfold clearFault
    refine QueueKept.trans ?_ (land_queueKept _)
    exact .refl s
  all_goals exact .refl s

theorem serve_queueKept (r : Request) (s : State) : QueueKept s (s.serve r).state := by
  cases r with
  | writeSetup c n =>
    show QueueKept s (s.serveWriteSetup c n).state
    unfold serveWriteSetup
    split
    · exact .refl s
    · split
      · exact .refl s
      · exact accept_queueKept (applySetup_queueKept c s)
  | loadPlanHeader h => exact serveHeader_queueKept h s
  | loadPlanGroup n g =>
    show QueueKept s (s.serveGroup n g).state
    unfold serveGroup
    split_ifs
    · exact .refl s
    · exact .refl s
    · exact settle_queueKept { s with ps := s.ps.withGroup n g }
  | loadPlanHole n h =>
    show QueueKept s (s.serveHole n h).state
    unfold serveHole
    split_ifs
    · exact .refl s
    · exact .refl s
    · exact settle_queueKept { s with ps := s.ps.withHole n h }
  | commitPlan =>
    show QueueKept s s.serveCommit.state
    unfold serveCommit
    split
    · exact .refl s
    · split
      · exact .refl s
      · refine accept_queueKept (QueueKept.trans ?_ (configured_queueKept _))
        exact .refl s
  | readSetup =>
    show QueueKept s s.serveReadSetup.state
    unfold serveReadSetup
    split <;> exact .refl s
  | readStatus => exact .refl s
  | readHole n =>
    show QueueKept s (s.serveReadHole n).state
    unfold serveReadHole
    split
    · exact .refl s
    · split <;> exact .refl s
  | readPeer j =>
    show QueueKept s (s.serveReadPeer j).state
    unfold serveReadPeer
    split_ifs <;> exact .refl s
  | readEvents => exact .refl s
  | errorClear => exact serveErrorClear_queueKept s
  | stationClear => exact accept_queueKept (stationClear_queueKept s)
  | reworkHole n target => exact serveRework_queueKept n target s

theorem hearByte_queueKept (b : Byte) (s : State) : QueueKept s (s.hearByte b) := by
  have taken : ∀ (bytes : List Byte) (t : State), QueueKept t (t.takeRequest bytes) := by
    intro bytes t
    show QueueKept t (judgeRequest bytes { t with sp.buffer := bytes, sp.rx := .answering }).state
    unfold judgeRequest
    split
    · exact .refl t
    · exact serve_queueKept _ { t with sp.buffer := bytes, sp.rx := .answering }
  have stored : ∀ t : State, QueueKept t (t.storeByte b) := by
    intro t
    unfold storeByte
    dsimp only
    split_ifs
    · exact .refl t
    · exact .refl t
    · exact taken _ t
    · exact .refl t
  unfold hearByte
  dsimp only
  split
  · split <;> exact .refl s
  · split
    · exact .refl s
    · exact stored { s with sp.lastByte := s.clock }
  · exact .refl s

theorem hearBytes_queueKept (bytes : List Byte) (s : State) : QueueKept s (s.hearBytes bytes) :=
  .foldl (fun t b => hearByte_queueKept b t) bytes s

end State

/-! ### Every command -/

/-- A station without frames and without names for any. -/
theorem State.ordered_of_no_frames {s : State}
    (h : s.linkView = { queue := [], held := [], nextId := 0, left := none, right := none, claim := none, withdraw := none, intent := none }) :
    s.queueFits ∧ s.queueOrdered := by
  rw [State.queueOrdered_iff]
  refine ⟨(congrArg (·.queue.length) h).trans_le (Nat.zero_le _), ?_⟩
  rw [h]
  constructor <;> simp [LinkView.Rising, LinkView.frames, LinkView.names0, LinkView.namesOwn]

open State in
/-- Every command but power-on keeps the bound and the order of the queue. -/
theorem exec_queueKept {c : Instr} (hc : c ≠ .powerOn) (s : State) : ∃ t : State, exec c s = .next t ∧ s.QueueKept t := by
  have settled : ∀ {u : State}, s.QueueKept u →
      ∃ t : State, Host.Outcome.next u.settle = (.next t : Host.Outcome State Fault Refusal) ∧ s.QueueKept t :=
    fun {u} hu => ⟨u.settle, rfl, hu.trans (settle_queueKept u)⟩
  cases c with
  | powerOn => exact absurd rfl hc
  | jigClosed => exact settled (jigCloses_queueKept s)
  | jigOpen => exact settled (jigOpens_queueKept s)
  | stationReset w => exact settled (stationClear_queueKept { s with lines.resetHighUntil := s.clock + w })
  | ack w =>
    refine ⟨_, rfl, ?_⟩
    unfold State.acknowledge
    split <;> exact .refl s
  | effectorReadyFall w => exact settled (readyFalls_queueKept w s)
  | serviceByte b => exact ⟨_, rfl, (hearByte_queueKept b s)⟩
  | writeSetup l | readSetup l | loadPlanHeader l | loadPlanGroup l | loadPlanHole l | commitPlan l | readStatus l | readHole l
  | readPeer l | readEvents l | errorClear l | stationClear l | reworkHole l => exact ⟨_, rfl, (hearBytes_queueKept l s)⟩
  | serviceByteGap => exact ⟨_, rfl, (expire_queueKept (effect := State.dropPartial) .refl _ s)⟩
  | serviceLineQuiet => exact ⟨_, rfl, (expire_queueKept (effect := State.lineQuiet) .refl _ s)⟩
  | answerSent =>
    refine ⟨_, rfl, ?_⟩
    unfold State.answerEnds
    split <;> exact .refl s
  | frameDiscarded f | presenceReceived f | datumReceived f | claimReceived f | releaseReceived f | reportDrilledReceived f
  | reportSetReceived f | reportRejectedReceived f | correctionReceived f | reworkCorrectionReceived f | zoneSeizeReceived f
  | zoneReleaseReceived f | zoneRequestReceived f | drawIntentReceived f | drawDoneReceived f | drawWithdrawReceived f =>
    exact settled (hearFrame_queueKept f s)
  | transmitStart q => exact ⟨_, rfl, (transmit_queueKept q s)⟩
  | attemptFailed => exact settled (failAttempt_queueKept s)
  | presenceReadBack | datumReadBack | claimReadBack | releaseReadBack | reportReadBack | correctionReadBack | zoneSeizeReadBack
  | zoneRequestReadBack | zoneReleaseReadBack | drawIntentReadBack | drawWithdrawReadBack | drawDoneReadBack =>
    exact settled (readBack_queueKept _ s)
  | presenceIntervalExpiry => exact settled (expire_queueKept (effect := State.presenceExpires) .refl _ s)
  | datumExpiry d => exact settled (expire_queueKept (expireDatum_queueKept d) _ s)
  | proberAgeDue => exact settled (expire_queueKept proberDue_queueKept _ s)
  | retryDeadline => exact settled (expire_queueKept (effect := State.retry) (fun t => setProber_queueKept _ none none t) _ s)
  | peerSilent j => exact settled (expire_queueKept (silence_queueKept j) _ s)
  | peerLost j => exact settled (expire_queueKept (loseAfterSilence_queueKept j) _ s)
  | selfLapse side => exact settled (expire_queueKept (selfLapsed_queueKept side) _ s)
  | yieldDeadline side => exact settled (expire_queueKept (yieldOver_queueKept side) _ s)
  | drawEntryExpiry j => exact settled (expire_queueKept (emptyDraw_queueKept j) _ s)
  | settleDeadline => exact settled (expire_queueKept decideDraw_queueKept _ s)
  | waitDeadline => exact settled (expire_queueKept freshIntent_queueKept _ s)
  | nextPoll => exact settled (expire_queueKept (effect := State.askPressure) .refl _ s)
  | pressureWaitLimit => exact settled (expire_queueKept limitPasses_queueKept _ s)
  | ownIntentRenewal => exact settled (expire_queueKept queueIntent_queueKept _ s)
  | clampSettleExpiry | ramRecoveryExpiry => exact settled (expire_queueKept (effect := id) .refl _ s)
  | resumeRise => exact settled (resumeRises_queueKept s)
  | resumeFall => exact settled (resumeFalls_queueKept s)
  | responseTimeout => exact settled (responseLate_queueKept s)
  | completionDeadline => exact settled (completionLate_queueKept s)
  | reportFlagFall => exact ⟨_, rfl, (.refl s)⟩
  | reportWord | doneReport | positionReport | thrustReport | senseReport | gaugeReport | squeezeReport | pressureReport
  | faultReport | refusedReport => exact settled (takeWord_queueKept _ _ _ s)

theorem State.tick_queueKept (s : State) : s.QueueKept s.tick := by
  unfold State.QueueKept State.linkView State.tick
  exact State.QueueKept.refl s

/-- A step keeps the bound and the order of the queue, or it is power-on's and leaves no frame. -/
theorem step_keeps_queue {s t : State} (h : step s = .next t) : s.QueueKept t ∨ t.queueFits ∧ t.queueOrdered := by
  unfold step at h
  split at h
  · obtain rfl := Host.Outcome.next.inj h
    exact .inl s.tick_queueKept
  · rename_i c rest _
    by_cases hc : c = .powerOn
    · subst hc
      obtain rfl := Host.Outcome.next.inj h
      exact .inr (State.ordered_of_no_frames rfl)
    · obtain ⟨u, hu, kept⟩ := exec_queueKept hc { s with pending := rest }
      obtain rfl := Host.Outcome.next.inj (hu.symm.trans h)
      exact .inl (State.QueueKept.trans (t := { s with pending := rest }) (.refl s) kept)

/-- Settles O10: no operation admits a frame to a full queue. -/
theorem stepKeepsQueueBound : Obligations.StepKeepsQueueBound := fun _ _ hs h =>
  (step_keeps_queue h).elim (fun kept => kept.fits hs) And.left

/-- Settles O14: every operation changes the frames and the names kept for them as `LinkView.Changes` allows, and what enters the queue
enters it by its class. -/
theorem stepKeepsQueueOrder : Obligations.StepKeepsQueueOrder := fun s t hs h =>
  (step_keeps_queue h).elim (fun kept => t.queueOrdered_iff.mpr (kept.ordered (s.queueOrdered_iff.mp hs))) And.right

end Sys2Proof.Machine
end

section
/-! PROOFS. What entry into FAULTED leaves alone, and the frames that reception holds back. -/

namespace Sys2Proof.Machine

open Sys2Proof (Byte Word Data Stamp Datum Side Instr)

/-! ### LC's own record, the events and the station state -/

/-- An attempt, whether or not its owner still acts on it. -/
def Attempt.unvoided (a : Attempt) : Attempt := { a with frame := { a.frame with void := false } }

/-- LC's record but for the frames waiting and their names. -/
def LinkController.own (l : LinkController) : LinkController :=
  { l with queue := [], held := [], nextId := 0, attempt := l.attempt.map Attempt.unvoided }

/-- What no owner's request to LC, and no owner's giving up, touches: LC's own record, the events and the station state. -/
def State.duties (s : State) : LinkController × EventUnit × WorkState := (s.lc.own, s.eu, s.ws.state)

namespace State

theorem putEntry_duties (h : Nat) (e : HoleEntry) (s : State) : (s.putEntry h e).duties = s.duties := by
  rw [putEntry_eq]
  rfl

theorem queueOwed_duties (h : Nat) (s : State) : (s.queueOwed h).duties = s.duties := by
  unfold queueOwed
  split
  · rfl
  · exact putEntry_duties _ _ _

theorem admitOne_duties (s : State) : s.admitOne.duties = s.duties := by
  unfold admitOne
  split
  · split
    · rfl
    · dsimp only
      split
      · split
        · exact queueOwed_duties _ _
        · rfl
      · rfl
  · rfl

theorem admitHeld_duties (s : State) : s.admitHeld.duties = s.duties :=
  repeatState_keeps (P := fun t => t.duties = s.duties) (fun t ht => (admitOne_duties t).trans ht) _ s rfl

theorem offer_duties (o : Owner) (b : Body) (s : State) : (s.offer o b).duties = s.duties := by
  rw [offer_eq]
  rfl

theorem removeFrame_duties (id : Nat) (s : State) : (s.removeFrame id).duties = s.duties := by
  unfold removeFrame
  split
  · rfl
  · exact admitHeld_duties _

theorem voidInFlight_duties (p : Body → Bool) (s : State) : (s.voidInFlight p).duties = s.duties := by
  unfold voidInFlight
  split
  · rename_i a ha
    split
    · simp only [duties, LinkController.own, ha]
      rfl
    · rfl
  · rfl

theorem putZone_duties (side : Side) (z : ZoneRecord) (s : State) : (s.putZone side z).duties = s.duties := by
  cases side <;> rfl

theorem giveUpZone_duties (side : Side) (s : State) : (s.giveUpZone side).duties = s.duties := by
  have reset : ∀ t : State, (t.resetZone side).duties = t.duties := by
    intro t
    unfold resetZone
    dsimp only
    split
    · rfl
    · exact putZone_duties _ _ _
  have release : ∀ t : State, (if (s.zone side).state = .heldOwn then t.offerZone side .release else t).duties = t.duties := by
    intro t
    split
    · exact offer_duties _ _ _
    · rfl
  unfold giveUpZone
  dsimp only
  rw [reset, release]
  split
  · rfl
  · split
    · exact voidInFlight_duties _ s
    · exact removeFrame_duties _ s

theorem giveUpZones_duties (s : State) : s.giveUpZones.duties = s.duties :=
  (giveUpZone_duties .right _).trans (giveUpZone_duties .left s)

theorem giveUpIntent_duties (s : State) : s.giveUpIntent.duties = s.duties := by
  unfold giveUpIntent
  split
  case h_1 | h_2 | h_7 => rfl
  case h_3 =>
    dsimp only
    split
    · exact removeFrame_duties _ s
    · rfl
  all_goals exact offer_duties .du _ (s.setDraw s.k none)

theorem takeEnding_duties (cause : EndCause) (through : Bool) (s : State) : (s.takeEnding cause through).duties = s.duties := by
  unfold takeEnding
  split
  · rfl
  · split
    · rfl
    · dsimp only
      split
      · rfl
      · split
        · exact giveUpIntent_duties _
        · rfl

theorem endLone_duties (how : LoneEnd) (s : State) : (s.endLone how).duties = s.duties := by
  unfold endLone
  split
  · rfl
  · split
    · rfl
    · split <;> rfl

theorem dropSelection_duties (s : State) : s.dropSelection.duties = s.duties := by
  have removed : ∀ (x : Selection) (id : Nat), (if s.inFlight id then { s with ws.selection := some x }
      else removeFrame id { s with ws.selection := none }).duties = s.duties := by
    intro x id
    split
    · rfl
    · exact removeFrame_duties _ _
  unfold dropSelection
  split
  · rfl
  · split
    · exact removed _ _
    · exact removed _ _
    all_goals rfl


/-- The states that a fault takes into FAULTED (R167). -/
def faultable (s : State) : Prop :=
  s.ws.state = .idle ∨ s.ws.state = .waiting ∨ s.ws.state = .working ∨ s.ws.state = .finished

/-- Entry into FAULTED records its cause and clears the link success mark (R166, R172); it leaves LC's own record and the sources. -/
theorem enterFaulted_duties (src : FaultSource) {s : State} (hs : s.faultable) :
    (s.enterFaulted src).duties = (s.lc.own,
      { s.eu with cause := some { source := src, stateLeft := s.ws.state, time := s.clock, cleared := false },
                  linkSuccess := false }, .faulted) := by
  have entered : ∀ opened : Bool, (giveUpIntent (giveUpZones
      { dropSelection (endLone .fault (takeEnding .fault true (setWork .faulted
          { s.recordCause src with eu.linkSuccess := false, ws.jigOpened := opened }))) with ws.park := .no })).duties
      = (s.lc.own, { s.eu with cause := some { source := src, stateLeft := s.ws.state, time := s.clock, cleared := false },
                               linkSuccess := false }, .faulted) := fun opened =>
    (giveUpIntent_duties _).trans ((giveUpZones_duties _).trans ((dropSelection_duties _).trans
      ((endLone_duties .fault _).trans (takeEnding_duties .fault true _))))
  unfold enterFaulted
  split
  case h_1 | h_2 | h_3 | h_4 => exact entered _
  all_goals
    rename_i h
    simp [faultable, h] at hs

/-- In FAULTED, HALTED and UNCONFIGURED a fault changes nothing more (R168). -/
theorem enterFaulted_rests (src : FaultSource) {s : State} (hs : ¬ s.faultable) : s.enterFaulted src = s := by
  unfold faultable at hs
  unfold enterFaulted
  split <;> simp_all

/-- One raising of a source, by its place in the table of R161. -/
theorem raise_source (e : EventSource) {s : State} {x : SourceRecord} (hx : s.eu.sources[e.index]? = some x) :
    (s.raise e).eu.sources[e.index]? = some (x.raised (s.levels.getD e.index 0)) := by
  rw [raise_sources, List.getElem?_modify_eq, hx]
  rfl

/-- A fault raises its source and no other, and leaves LC's own record (R167). -/
theorem raiseFault_own (e : EventSource) (src : FaultSource) (s : State) :
    (s.raiseFault e src).lc.own = s.lc.own ∧ (s.raiseFault e src).eu.sources = (s.raise e).eu.sources := by
  unfold raiseFault
  by_cases hs : (s.raise e).faultable
  · have h := enterFaulted_duties src hs
    exact ⟨congrArg Prod.fst h, congrArg (·.2.1.sources) h⟩
  · rw [enterFaulted_rests src hs]
    exact ⟨rfl, rfl⟩

/-- The station state after a fault (R167, R168). -/
theorem raiseFault_work (e : EventSource) (src : FaultSource) (s : State) :
    (s.faultable → (s.raiseFault e src).ws.state = .faulted)
    ∧ (¬ s.faultable → (s.raiseFault e src).ws.state = s.ws.state) := by
  unfold raiseFault
  refine ⟨fun hs => congrArg (·.2.2) (enterFaulted_duties src (s := s.raise e) hs), fun hs => ?_⟩
  rw [enterFaulted_rests src (s := s.raise e) hs]
  rfl

/-- The fault cause after a fault (R166). -/
theorem raiseFault_cause (e : EventSource) (src : FaultSource) (s : State) :
    (s.faultable → (s.raiseFault e src).eu.cause
      = some { source := src, stateLeft := s.ws.state, time := s.clock, cleared := false })
    ∧ (¬ s.faultable → (s.raiseFault e src).eu.cause = s.eu.cause) := by
  unfold raiseFault
  refine ⟨fun hs => congrArg (·.2.1.cause) (enterFaulted_duties src (s := s.raise e) hs), fun hs => ?_⟩
  rw [enterFaulted_rests src (s := s.raise e) hs]
  rfl

/-! ### Frames held back (R55 to R59) -/

/-- A frame whose CRC fails is kept in the receive buffer, and no more (R55). -/
theorem hearFrame_badCrc {f : List Byte} (hf : crcChecks f = false) (s : State) :
    s.hearFrame f = { s with lc.rxBuffer := f, lc.quiet := some 20 } := by
  simp only [hearFrame, hf, Bool.not_false, if_true, Config.frameEndRest]

/-- A frame whose CRC checks is stamped, and then judged where the station is online (R48, R55). -/
theorem hearFrame_goodCrc {f : List Byte} (hf : crcChecks f = true) (s : State) :
    s.hearFrame f = if s.ws.state.online then (s.heard f).receive f else s.heard f := by
  simp only [hearFrame, hf, Bool.not_true, Bool.false_eq_true, if_false]
  rfl

/-- A frame of no kind, of another length, or of a sender that the line does not have is not received (R55). -/
theorem receive_ignored {f : List Byte} {s : State}
    (h : splitFrame f = none ∨ ∃ r, splitFrame f = some r ∧ (r.sender = 0 ∨ s.cfg.stations < r.sender)) : s.receive f = s := by
  unfold receive
  rcases h with h | ⟨r, h, hsender⟩
  · rw [h]
  · rw [h]
    refine if_pos ?_
    simpa using hsender

/-- A frame that is stamped and no more leads to what follows the stamp. -/
theorem hearFrame_stamped {f : List Byte} (hf : crcChecks f = true) {s : State} (h : (s.heard f).receive f = s.heard f) :
    s.hearFrame f = s.heard f := by
  rw [hearFrame_goodCrc hf, h, ite_self]

/-- A frame with this station's number (R56). -/
theorem receive_foreign {f : List Byte} {s : State} {r : RawFrame} (hr : splitFrame f = some r) (hk : r.sender = s.k) (hone : 1 ≤ s.k)
    (hline : s.k ≤ s.cfg.stations) : s.receive f = s.hearForeign := by
  unfold receive
  rw [hr]
  dsimp only
  rw [if_neg (by simp only [Bool.or_eq_true, decide_eq_true_eq]; omega), if_pos hk]

/-- A frame other than PRESENCE is dispatched only where the state lets it be and the plan filter passes it (R57, R59). -/
theorem dispatch_heldBack {j : Nat} {b : Body} {s : State} (hb : ∀ p, b ≠ .presence p)
    (h : s.ws.state.active = false ∨ s.planFilter j b = false) : s.dispatch j b = s := by
  have hheld : (s.ws.state.active && s.planFilter j b) = false := by rwa [Bool.and_eq_false_iff]
  cases b with
  | presence p => exact absurd rfl (hb p)
  | _ => exact if_neg (by rw [hheld]; exact Bool.false_ne_true)

/-- The filter of R57 for a frame other than PRESENCE, but for what a DATUM under this plan is to PU. -/
theorem planFilter_false {j : Nat} {b : Body} {s : State} (hb : ∀ p, b ≠ .presence p) (hdatum : ∀ d r q w, b ≠ .datum d r q w)
    (h : (s.peer j).info = none) : s.planFilter j b = false := by
  unfold planFilter
  rw [h]
  cases b with
  | presence p => exact absurd rfl (hb p)
  | datum d r q w => exact absurd rfl (hdatum d r q w)
  | _ => rfl

/-- A frame under another plan is ignored, whether the filter or PU holds it back (R24, R57, R59). -/
theorem dispatch_otherPlan {j : Nat} {b : Body} {s : State} (hb : ∀ p, b ≠ .presence p)
    (h : s.ws.state = .idle ∨ (∃ i, (s.peer j).info = some i ∧ i.check ≠ s.planCheck)
      ∨ ((s.peer j).info = none ∧ ∀ d r q, b ≠ .datum d r q s.planCheck)) : s.dispatch j b = s := by
  rcases h with h | ⟨i, hi, hcheck⟩ | ⟨hnone, hdatum⟩
  · exact dispatch_heldBack hb (.inl (by rw [h]; rfl))
  · refine dispatch_heldBack hb (.inr ?_)
    unfold planFilter
    rw [hi]
    exact decide_eq_false hcheck
  · cases b with
    | datum d r q w =>
      have hw : w ≠ s.planCheck := fun hw => hdatum d r q (hw ▸ rfl)
      unfold dispatch
      dsimp only
      split
      · exact if_neg hw
      · rfl
    | presence p => exact absurd rfl (hb p)
    | _ => exact dispatch_heldBack hb (.inr (planFilter_false hb nofun hnone))

end State

/-- Every row that brings a frame is heard by the same checks. -/
theorem exec_frameRow {c : Instr} {f : List Byte} (hc : c ∈ frameRows f) (s : State) : exec c s = .next (s.hearFrame f).settle := by
  simp only [frameRows, List.mem_cons, List.not_mem_nil, or_false] at hc
  rcases hc with rfl | rfl | rfl | rfl | rfl | rfl | rfl | rfl | rfl | rfl | rfl | rfl | rfl | rfl | rfl | rfl <;> rfl

theorem exec_frameDiscarded (f : List Byte) (s : State) : exec (.frameDiscarded f) s = .next (s.hearFrame f).settle := rfl

/-- Settles O35: the checks of reception in their order, and the filter. -/
theorem framesHeldBack : Obligations.FramesHeldBack := by
  intro f s
  refine ⟨fun hf => ?_, fun hf hsplit => ?_, fun r hf hr hsender => ?_, fun hoff hf c hc => ?_,
    fun r hon hf hr hk hone hline => ?_, fun j b hon hj hb hbody h => ?_⟩
  · rw [exec_frameDiscarded, State.hearFrame_badCrc hf]
  · rw [exec_frameDiscarded, State.hearFrame_stamped hf (State.receive_ignored (.inl hsplit))]
  · rw [exec_frameDiscarded, State.hearFrame_stamped hf (State.receive_ignored (.inr ⟨r, hr, hsender⟩))]
  · rw [exec_frameRow hc, State.hearFrame_goodCrc hf, hoff, if_neg Bool.false_ne_true, (s.heard f).settle_rest hoff]
  · have heard : s.hearFrame f = (s.heard f).hearForeign := by
      rw [State.hearFrame_goodCrc hf, if_pos hon, State.receive_foreign (s := s.heard f) hr hk hone hline]
    refine ⟨(s.heard f).hearForeign, fun c hc => by rw [exec_frameRow hc, heard], ?_⟩
    generalize ht : ({ s.heard f with lc.foreignTime := some (s.heard f).clock } : State) = t
    have hforeign : (s.heard f).hearForeign = t.raiseFault .duplicateStation .duplicateStation := by rw [← ht]; rfl
    obtain ⟨hown, hsources⟩ := t.raiseFault_own .duplicateStation .duplicateStation
    obtain ⟨hcause, hnocause⟩ := t.raiseFault_cause .duplicateStation .duplicateStation
    obtain ⟨hwork, hnowork⟩ := t.raiseFault_work .duplicateStation .duplicateStation
    rw [hforeign]
    have hfaultable : t.faultable ↔ s.ws.state ≠ .faulted := by
      subst ht
      show s.faultable ↔ _
      revert hon
      unfold State.faultable
      cases s.ws.state <;> simp [WorkState.online]
    refine ⟨?_, ?_, ?_, fun x hx => ?_, fun hs => ?_, fun hs => ?_⟩
    · exact (congrArg LinkController.foreignTime hown).trans (by rw [← ht]; rfl)
    · exact (congrArg LinkController.stamp hown).trans (by rw [← ht]; rfl)
    · by_cases hs : s.ws.state = .faulted
      · rw [hnowork fun hne => hfaultable.mp hne hs]
        subst ht
        exact hs
      · exact hwork (hfaultable.mpr hs)
    · rw [hsources]
      subst ht
      exact State.raise_source .duplicateStation hx
    · rw [hcause (hfaultable.mpr hs)]
      subst ht
      rfl
    · rw [hnocause fun hne => hfaultable.mp hne hs]
      subst ht
      rfl
  · rw [exec_heardRow, State.hearFrame_frameBytes hb hon hj, State.dispatch_otherPlan (s := s.heard (frameBytes j b)) hbody h]

end Sys2Proof.Machine
end

section
/-! PROOFS. Own frames read back whole, the held frame then admitted, and the CORRECTIONs owed (R14, R46, R49). -/

namespace Sys2Proof.Machine

open Sys2Proof (Byte Word Data Stamp Datum Side Instr)

/-! ### The read-back commands -/

/-- The kind each read-back command names, by the row of the frame in the attempt. -/
theorem Body.kinds_iff (b : Body) :
    (b.isPresence = true ↔ readBackRow b = .presenceReadBack) ∧ (b.isDatum = true ↔ readBackRow b = .datumReadBack)
    ∧ (b.isClaim = true ↔ readBackRow b = .claimReadBack) ∧ (b.isRelease = true ↔ readBackRow b = .releaseReadBack)
    ∧ (b.isReport = true ↔ readBackRow b = .reportReadBack) ∧ (b.isCorrection = true ↔ readBackRow b = .correctionReadBack)
    ∧ (b.isSeize = true ↔ readBackRow b = .zoneSeizeReadBack) ∧ (b.isZoneRequest = true ↔ readBackRow b = .zoneRequestReadBack)
    ∧ (b.isZoneRelease = true ↔ readBackRow b = .zoneReleaseReadBack) ∧ (b.isIntent = true ↔ readBackRow b = .drawIntentReadBack)
    ∧ (b.isWithdraw = true ↔ readBackRow b = .drawWithdrawReadBack) ∧ (b.isDone = true ↔ readBackRow b = .drawDoneReadBack) := by
  cases b with
  | zone side a =>
    cases a <;> simp [readBackRow, isPresence, isDatum, isClaim, isRelease, isReport, isCorrection, isSeize, isZoneRequest,
      isZoneRelease, isIntent, isWithdraw, isDone]
  | draw a n h =>
    cases a <;> simp [readBackRow, isPresence, isDatum, isClaim, isRelease, isReport, isCorrection, isSeize, isZoneRequest,
      isZoneRelease, isIntent, isWithdraw, isDone]
  | _ =>
    simp [readBackRow, isPresence, isDatum, isClaim, isRelease, isReport, isCorrection, isSeize, isZoneRequest,
      isZoneRelease, isIntent, isWithdraw, isDone]

/-- A read-back command names the frames of its own row and no others. -/
theorem exec_readBackRow {b : Body} (hb : b ≠ .owed) : ∃ named : Body → Bool,
    (∀ s, exec (readBackRow b) s = .next (s.readBack named).settle) ∧ ∀ b', named b' = true ↔ readBackRow b' = readBackRow b := by
  have kinds := fun b' : Body => b'.kinds_iff
  simp only [forall_and] at kinds
  obtain ⟨hpresence, hdatum, hclaim, hrelease, hreport, hcorrection, hseize, hrequest, hzrelease, hintent, hwithdraw, hdone⟩ := kinds
  cases b with
  | presence p => exact ⟨_, fun _ => rfl, hpresence⟩
  | datum d r q w => exact ⟨_, fun _ => rfl, hdatum⟩
  | claim c => exact ⟨_, fun _ => rfl, hclaim⟩
  | release c => exact ⟨_, fun _ => rfl, hrelease⟩
  | report r => exact ⟨_, fun _ => rfl, hreport⟩
  | correction m => exact ⟨_, fun _ => rfl, hcorrection⟩
  | zone side a =>
    cases a with
    | seize => exact ⟨_, fun _ => rfl, hseize⟩
    | release => exact ⟨_, fun _ => rfl, hzrelease⟩
    | request => exact ⟨_, fun _ => rfl, hrequest⟩
  | draw a n h =>
    cases a with
    | intent => exact ⟨_, fun _ => rfl, hintent⟩
    | done => exact ⟨_, fun _ => rfl, hdone⟩
    | withdraw => exact ⟨_, fun _ => rfl, hwithdraw⟩
  | owed => exact absurd rfl hb

namespace State

/-! ### LC's account of a read-back (R46 to R48) -/

/-- LC's record once the frame read back has left it, before any held frame moves up. -/
def readBackDone (f : TxFrame) (s : State) : State :=
  { s with lc.stamp := s.lc.stamp + 1, lc.attempt := none, lc.recovery := true, lc.failures := 0, lc.quiet := some 20,
           lc.queue := s.lc.queue.filter (fun g => g.id != f.id),
           eu.linkSuccess := s.eu.linkSuccess || decide (s.ws.state = .faulted) }

theorem readBackWhole_eq (f : TxFrame) (s : State) : s.readBackWhole f = (s.readBackDone f).admitHeld := rfl

theorem readBackWhole_duties (f : TxFrame) (s : State) : (s.readBackWhole f).duties = (s.readBackDone f).duties :=
  admitHeld_duties _

/-! ### The held frame admitted (R49) -/

theorem admitHeld_none {s : State} (h : s.lc.held = []) : s.admitHeld = s := by
  unfold admitHeld
  rw [h]
  rfl

theorem admitOne_full {s : State} (h : Config.queueSize ≤ s.lc.queue.length) : s.admitOne = s := if_neg (by omega)

/-- With one place free, one held frame is admitted. -/
theorem admitHeld_one {s : State} (hheld : s.lc.held ≠ [])
    (hfull : s.admitOne.lc.queue.length = Config.queueSize) : s.admitHeld = s.admitOne := by
  unfold admitHeld
  obtain ⟨n, hn⟩ := Nat.exists_eq_succ_of_ne_zero (mt List.length_eq_zero_iff.mp hheld)
  rw [hn]
  exact repeatState_fixed (admitOne_full hfull.ge) n

end State

/-- The frame held longest among those of class 0, or where there is none the one held longest. -/
theorem nextHeld_eq {pre post : List TxFrame} {f : TxFrame}
    (h : f.body.accessClass = 0 ∧ (∀ g ∈ pre, g.body.accessClass ≠ 0) ∨ pre = [] ∧ ∀ g ∈ f :: post, g.body.accessClass ≠ 0) :
    nextHeld (pre ++ f :: post) = some f ∧ (pre ++ f :: post).erase f = pre ++ post := by
  rcases h with ⟨hf, hpre⟩ | ⟨rfl, hnone⟩
  · have hfind : (pre ++ f :: post).find? (fun f => f.body.accessClass = 0) = some f := by
      rw [List.find?_append, List.find?_eq_none.mpr (by simpa using hpre)]
      simp [hf]
    have hmem : f ∉ pre := fun hmem => hpre f hmem hf
    exact ⟨by rw [nextHeld, hfind], by rw [List.erase_append_right _ hmem, List.erase_cons_head]⟩
  · have hfind : (f :: post).find? (fun f => f.body.accessClass = 0) = none := List.find?_eq_none.mpr (by simpa using hnone)
    exact ⟨by rw [List.nil_append, nextHeld, hfind]; rfl, List.erase_cons_head _ _⟩

/-- A frame enters the queue behind the frames of its class and of lower classes that lead it (R49). -/
theorem insertByClass_split (f : TxFrame) (q : List TxFrame) :
    ∃ x y, q = x ++ y ∧ insertByClass f q = x ++ f :: y ∧ (∀ g ∈ x, g.body.accessClass ≤ f.body.accessClass)
      ∧ ∀ g, y.head? = some g → f.body.accessClass < g.body.accessClass := by
  induction q with
  | nil => exact ⟨[], [], rfl, rfl, by simp, by simp⟩
  | cons g q ih =>
    unfold insertByClass
    split
    · rename_i hg
      obtain ⟨x, y, hq, hins, hx, hy⟩ := ih
      refine ⟨g :: x, y, by rw [hq, List.cons_append], by rw [hins, List.cons_append], fun k hk => ?_, hy⟩
      rcases List.mem_cons.mp hk with rfl | hk
      · exact hg
      · exact hx k hk
    · rename_i hg
      refine ⟨[], g :: q, rfl, rfl, by simp, fun k hk => ?_⟩
      obtain rfl := Option.some.inj hk
      exact Nat.lt_of_not_le hg

/-- A frame that no queued frame is of a higher class than enters the queue at its end. -/
theorem insertByClass_last {f : TxFrame} {q : List TxFrame} (h : ∀ g ∈ q, g.body.accessClass ≤ f.body.accessClass) :
    insertByClass f q = q ++ [f] := by
  induction q with
  | nil => rfl
  | cons g q ih =>
    rw [List.forall_mem_cons] at h
    rw [insertByClass, if_pos h.1, ih h.2, List.cons_append]

namespace State

/-- The frame of an entry's CORRECTION, as HT queues it. -/
def owedFrame (h : Nat) (e : HoleEntry) (s : State) : TxFrame :=
  { id := s.lc.nextId, owner := .ht, body := .correction (e.correction h) }

theorem queueOwed_of_entry {h : Nat} {e : HoleEntry} {s : State} (he : s.ht[h]? = some e) :
    (s.queueOwed h).lc.queue = insertByClass (s.owedFrame h e) s.lc.queue ∧ (s.queueOwed h).lc.held = s.lc.held
    ∧ (s.queueOwed h).ht = s.ht.set h { e with owed := false } := by
  unfold queueOwed
  rw [he]
  dsimp only
  rw [putEntry_lc, putEntry_ht]
  exact ⟨rfl, rfl, rfl⟩

/-- A held frame of a block is admitted as it is. -/
theorem admitOne_frame {f : TxFrame} {s : State} (hroom : s.lc.queue.length < Config.queueSize)
    (hnext : nextHeld s.lc.held = some f) (hf : f.body ≠ .owed) :
    s.admitOne = { s with lc.queue := insertByClass f s.lc.queue, lc.held := s.lc.held.erase f } := by
  unfold admitOne
  rw [if_pos hroom, hnext]
  dsimp only
  split
  · exact absurd ‹_› hf
  · rfl

/-- HT's held place is taken by the CORRECTION of the lowest entry owed. -/
theorem admitOne_owed {f : TxFrame} {s : State} {h : Nat} (hroom : s.lc.queue.length < Config.queueSize)
    (hnext : nextHeld s.lc.held = some f) (hf : f.body = .owed) (hlowest : s.lowestOwed = some h) :
    s.admitOne = queueOwed h { s with lc.held := s.lc.held.erase f } := by
  have hlowest' : lowestOwed { s with lc.held := s.lc.held.erase f } = some h := hlowest
  unfold admitOne
  rw [if_pos hroom, hnext]
  dsimp only
  rw [hf]
  dsimp only
  rw [hlowest']

/-- The lowest entry owed, by the entries before it. -/
theorem lowestOwed_eq {s : State} {h : Nat} {e : HoleEntry} (he : s.ht[h]? = some e) (howed : e.owed = true)
    (hbefore : ∀ n x, n < h → s.ht[n]? = some x → x.owed = false) : s.lowestOwed = some h := by
  obtain ⟨hlt, rfl⟩ := List.getElem?_eq_some_iff.mp he
  refine List.findIdx?_eq_some_iff_getElem.mpr ⟨hlt, howed, fun n hn => ?_⟩
  rw [hbefore n _ hn (List.getElem?_eq_getElem (hn.trans hlt))]
  exact Bool.false_ne_true

/-! ### CORRECTIONs owed (R14, R49) -/

/-- The entries owed, in ascending hole number. -/
def owedHoles (s : State) : List Nat := (List.range s.ht.length).filter fun h => ((s.ht[h]?).map (·.owed)).getD false

theorem mem_owedHoles (s : State) (h : Nat) : h ∈ s.owedHoles ↔ ∃ e, s.ht[h]? = some e ∧ e.owed = true := by
  unfold owedHoles
  cases he : s.ht[h]? with
  | none => simp [he]
  | some e =>
    obtain ⟨hlt, rfl⟩ := List.getElem?_eq_some_iff.mp he
    simp [hlt]

theorem lowestOwed_eq_head (s : State) : s.lowestOwed = s.owedHoles.head? := by
  rw [owedHoles, List.head?_filter]
  apply Option.ext
  intro h
  rw [lowestOwed, List.findIdx?_eq_some_iff_getElem, List.find?_range_eq_some]
  constructor
  · rintro ⟨hlt, howed, hbefore⟩
    refine ⟨by simpa [hlt] using howed, by simpa using hlt, fun n hn => ?_⟩
    have := hbefore n hn
    simpa [hn.trans hlt] using this
  · rintro ⟨howed, hlt, hbefore⟩
    rw [List.mem_range] at hlt
    refine ⟨hlt, by simpa [hlt] using howed, fun n hn => ?_⟩
    have := hbefore n hn
    simpa [hn.trans hlt] using this

/-- One step of HT's offering: the lowest entry owed is queued where there is room and nothing is held. -/
def offerOne (s : State) : State :=
  if s.lc.queue.length < Config.queueSize && s.lc.held.isEmpty then
    match s.lowestOwed with
    | some h => s.queueOwed h
    | none => s
  else s

/-- What HT still has to hold a place for. -/
def holdOwed (s : State) : State :=
  match s.lowestOwed with
  | none => { s with lc.held := s.lc.held.filter (fun f => f.body != .owed) }
  | some _ =>
    if s.lc.held.any (fun f => f.body == .owed) then s
    else { s with lc.held := s.lc.held ++ [{ id := s.lc.nextId, owner := .ht, body := .owed }], lc.nextId := s.lc.nextId + 1 }

theorem offerOwed_eq (s : State) : s.offerOwed = (repeatState offerOne s.ht.length s).holdOwed := rfl

theorem offerOne_rests {s : State} (h : s.owedHoles = [] ∨ Config.queueSize ≤ s.lc.queue.length ∨ s.lc.held ≠ []) : s.offerOne = s := by
  unfold offerOne
  rw [lowestOwed_eq_head]
  rcases h with h | h | h
  · rw [h]
    split <;> rfl
  · exact if_neg (by simp only [Bool.and_eq_true, decide_eq_true_eq]; omega)
  · exact if_neg (by simp [h])

end State

end Sys2Proof.Machine
end

section
/-! PROOFS. The account of the link's read-backs and of the CORRECTIONs owed (O44). -/

namespace Sys2Proof.Machine

open Sys2Proof (Byte Word Data Stamp Datum Side Instr)

namespace State

/-- What the frame read back makes room for: the admission of a held frame into a queue that was full (R49). -/
theorem readBackWhole_admits {f g : TxFrame} {pre post : List TxFrame} {s : State}
    (hfull : (s.readBackDone f).lc.queue.length = 15) (hheld : s.lc.held = pre ++ g :: post)
    (hg : g.body.accessClass = 0 ∧ (∀ k ∈ pre, k.body.accessClass ≠ 0) ∨ pre = [] ∧ ∀ k ∈ g :: post, k.body.accessClass ≠ 0) :
    (g.body ≠ .owed → s.readBackWhole f
      = { s.readBackDone f with lc.queue := insertByClass g (s.readBackDone f).lc.queue, lc.held := pre ++ post })
    ∧ ∀ h, g.body = .owed → s.lowestOwed = some h → (∃ e, s.ht[h]? = some e) →
        s.readBackWhole f = queueOwed h { s.readBackDone f with lc.held := pre ++ post } := by
  obtain ⟨hnext, herase⟩ := nextHeld_eq hg
  have hheld' : (s.readBackDone f).lc.held = pre ++ g :: post := hheld
  rw [← hheld'] at hnext herase
  have hroom : (s.readBackDone f).lc.queue.length < Config.queueSize := by
    rw [hfull]
    decide
  have hne : (s.readBackDone f).lc.held ≠ [] := by simp [hheld']
  rw [readBackWhole_eq, ← herase]
  refine ⟨fun hbody => ?_, fun h hbody hlowest hentry => ?_⟩
  · have hone := admitOne_frame hroom hnext hbody
    rw [← hone]
    refine admitHeld_one hne ?_
    rw [hone]
    exact (insertByClass_length _ _).trans (by rw [hfull]; rfl)
  · obtain ⟨e, he⟩ := hentry
    have hone := admitOne_owed (h := h) hroom hnext hbody hlowest
    rw [← hone]
    refine admitHeld_one hne ?_
    rw [hone, (queueOwed_of_entry (s := { s.readBackDone f with lc.held := _ }) he).1, insertByClass_length]
    exact congrArg (· + 1) hfull

/-! ### CORRECTIONs owed, queued in turn -/

/-- A CORRECTION queued takes its entry off the list of those owed. -/
theorem offerOne_queues {h : Nat} {rest : List Nat} {s : State} (hroom : s.lc.queue.length < Config.queueSize)
    (hheld : s.lc.held = []) (howed : s.owedHoles = h :: rest) : s.offerOne = s.queueOwed h := by
  unfold offerOne
  rw [lowestOwed_eq_head, howed, hheld, if_pos (by simpa using hroom)]
  rfl

theorem queueOwed_owedHoles {h : Nat} {rest : List Nat} {s : State} (howed : s.owedHoles = h :: rest) :
    (s.queueOwed h).owedHoles = rest := by
  obtain ⟨e, he, -⟩ := (mem_owedHoles s h).mp (howed ▸ List.mem_cons_self)
  have hnodup : (h :: rest).Nodup := howed ▸ List.nodup_range.filter _
  have hrest : rest = s.owedHoles.filter (· != h) := by
    rw [howed, List.filter_cons_of_neg (by simp)]
    exact (List.filter_eq_self.mpr fun n hn => bne_iff_ne.mpr (ne_of_mem_of_not_mem hn (List.nodup_cons.mp hnodup).1)).symm
  rw [hrest, owedHoles, owedHoles, List.filter_filter, (queueOwed_of_entry he).2.2, List.length_set]
  refine List.filter_congr fun n _ => ?_
  by_cases hn : n = h
  · subst hn
    simp [(List.getElem?_eq_some_iff.mp he).1]
  · simp [List.getElem?_set_ne (Ne.symm hn), hn]

end State

/-- The frames that HT queues for a list of entries owed. -/
def correctionsOf (ht : List HoleEntry) (owed : List Nat) : List (Owner × Body) :=
  owed.map fun h => (.ht, .correction (((ht[h]?).getD {}).correction h))

namespace State

/-- With room for them all and nothing held, the CORRECTIONs owed go into the queue in ascending hole number. -/
theorem offerOne_repeated (n : Nat) : ∀ s : State, s.owedHoles.length ≤ n → s.lc.held = [] →
    s.lc.queue.length + s.owedHoles.length ≤ Config.queueSize → (∀ f ∈ s.lc.queue, f.body.accessClass ≤ 1) →
    (repeatState offerOne n s).owedHoles = [] ∧ (repeatState offerOne n s).lc.held = []
    ∧ (repeatState offerOne n s).lc.queue.map (fun f => (f.owner, f.body))
        = s.lc.queue.map (fun f => (f.owner, f.body)) ++ correctionsOf s.ht s.owedHoles
    ∧ (repeatState offerOne n s).ht.map HoleEntry.unowed = s.ht.map HoleEntry.unowed := by
  induction n with
  | zero =>
    intro s hn hheld _ _
    have howed : s.owedHoles = [] := List.length_eq_zero_iff.mp (Nat.le_zero.mp hn)
    exact ⟨howed, hheld, by simp [howed, correctionsOf, repeatState], rfl⟩
  | succ n ih =>
    intro s hn hheld hroom hclass
    rw [repeatState]
    cases howed : s.owedHoles with
    | nil =>
      rw [offerOne_rests (.inl howed), repeatState_fixed (offerOne_rests (.inl howed))]
      exact ⟨howed, hheld, by simp [correctionsOf], rfl⟩
    | cons h rest =>
      rw [howed, List.length_cons] at hroom hn
      obtain ⟨e, he, -⟩ := (mem_owedHoles s h).mp (howed ▸ List.mem_cons_self)
      have hnodup : (h :: rest).Nodup := howed ▸ List.nodup_range.filter _
      rw [offerOne_queues (by omega) hheld howed]
      obtain ⟨hqueue, hheld', hht⟩ := queueOwed_of_entry (s := s) he
      have hlast : (s.queueOwed h).lc.queue = s.lc.queue ++ [s.owedFrame h e] :=
        hqueue.trans (insertByClass_last hclass)
      have hrest := queueOwed_owedHoles howed
      obtain ⟨h1, h2, h3, h4⟩ := ih (s.queueOwed h) (by rw [hrest]; omega) (hheld'.trans hheld)
        (by rw [hrest, hlast, List.length_append, List.length_singleton]; omega)
        (by
          rw [hlast]
          intro f hf
          rcases List.mem_append.mp hf with hf | hf
          · exact hclass f hf
          · rw [List.mem_singleton.mp hf]
            exact le_refl 1)
      refine ⟨h1, h2, ?_, ?_⟩
      · have hsame : correctionsOf (s.queueOwed h).ht rest = correctionsOf s.ht rest :=
          List.map_congr_left fun n hn => by
            rw [hht, List.getElem?_set_ne (ne_of_mem_of_not_mem hn (List.nodup_cons.mp hnodup).1).symm]
        rw [h3, hrest, hsame, hlast]
        simp [correctionsOf, he, owedFrame]
      · rw [h4, hht, List.map_set]
        obtain ⟨hlt, rfl⟩ := List.getElem?_eq_some_iff.mp he
        have hpaid : HoleEntry.unowed { s.ht[h] with owed := false } = (s.ht.map HoleEntry.unowed)[h]'(by simpa using hlt) := by
          simp [HoleEntry.unowed]
        rw [hpaid, List.set_getElem_self]

/-- Where nothing is owed and no place is held, HT offers nothing. -/
theorem offerOwed_of_none {s : State} (howed : s.owedHoles = []) (hheld : ∀ f ∈ s.lc.held, f.body ≠ .owed) : s.offerOwed = s := by
  rw [offerOwed_eq, repeatState_fixed (offerOne_rests (.inl howed)), holdOwed, lowestOwed_eq_head, howed]
  have : s.lc.held.filter (fun f => f.body != .owed) = s.lc.held := List.filter_eq_self.mpr fun f hf => by simpa using hheld f hf
  show { s with lc.held := s.lc.held.filter (fun f => f.body != .owed) } = s
  rw [this]

/-- Where HT's place is already held, it stays. -/
theorem offerOwed_of_held {s : State} (howed : s.owedHoles ≠ []) (hheld : ∃ f ∈ s.lc.held, f.body = .owed) : s.offerOwed = s := by
  obtain ⟨f, hf, hbody⟩ := hheld
  obtain ⟨h, rest, hcons⟩ := List.exists_cons_of_ne_nil howed
  rw [offerOwed_eq, repeatState_fixed (offerOne_rests (.inr (.inr (List.ne_nil_of_mem hf)))), holdOwed, lowestOwed_eq_head, hcons]
  exact if_pos (List.any_eq_true.mpr ⟨f, hf, by simp [hbody]⟩)

/-- Where there is no room, HT holds one place. -/
theorem offerOwed_of_full {s : State} (howed : s.owedHoles ≠ [])
    (hfull : Config.queueSize ≤ s.lc.queue.length ∨ s.lc.held ≠ []) (hheld : ∀ f ∈ s.lc.held, f.body ≠ .owed) :
    s.offerOwed = { s with lc.held := s.lc.held ++ [{ id := s.lc.nextId, owner := .ht, body := .owed }], lc.nextId := s.lc.nextId + 1 } := by
  obtain ⟨h, rest, hcons⟩ := List.exists_cons_of_ne_nil howed
  rw [offerOwed_eq, repeatState_fixed (offerOne_rests (.inr hfull)), holdOwed, lowestOwed_eq_head, hcons]
  exact if_neg (by simpa using hheld)

/-- With room and nothing held, every CORRECTION owed is queued and none is owed any longer. -/
theorem offerOwed_of_room {s : State} (hheld : s.lc.held = []) (hroom : s.lc.queue.length + s.owedHoles.length ≤ Config.queueSize)
    (hclass : ∀ f ∈ s.lc.queue, f.body.accessClass ≤ 1) :
    s.offerOwed.lc.queue.map (fun f => (f.owner, f.body))
        = s.lc.queue.map (fun f => (f.owner, f.body)) ++ correctionsOf s.ht s.owedHoles
    ∧ s.offerOwed.lc.held = [] ∧ s.offerOwed.ht = s.ht.map HoleEntry.unowed := by
  have hlength : s.owedHoles.length ≤ s.ht.length := (List.length_filter_le _ _).trans_eq List.length_range
  obtain ⟨hnone, hheld', hqueue, hpaid⟩ := offerOne_repeated s.ht.length s hlength hheld hroom hclass
  rw [offerOwed_eq]
  generalize repeatState offerOne s.ht.length s = t at hnone hheld' hqueue hpaid
  have hrest : t.holdOwed = { t with lc.held := t.lc.held.filter (fun f => f.body != .owed) } := by
    rw [holdOwed, lowestOwed_eq_head, hnone]
    rfl
  rw [hrest]
  refine ⟨hqueue, by rw [hheld']; rfl, hpaid ▸ ?_⟩
  have hall : ∀ e ∈ t.ht, e.unowed = e := fun e he => by
    obtain ⟨h, hlt, rfl⟩ := List.getElem_of_mem he
    cases howed : t.ht[h].owed with
    | false => rw [HoleEntry.unowed, ← howed]
    | true => exact absurd ((mem_owedHoles t h).mpr ⟨_, List.getElem?_eq_getElem hlt, howed⟩) (by simp [hnone])
  exact ((List.map_congr_left hall).trans (List.map_id _)).symm

end State

open State in
/-- Settles O44, from LC's account of a read-back, the one held frame admitted in its place, and an induction over the CORRECTIONs
owed. -/
theorem readBacksAccounted : Obligations.ReadBacksAccounted := by
  refine ⟨fun a s ha hbody => ?_, ?_⟩
  · have hreads : ∀ named : Body → Bool, s.readBack named
        = if named a.frame.body then (s.readBackWhole a.frame).ownerBack a.frame else s := fun named => by
      unfold readBack
      rw [ha]
    have hduties := readBackWhole_duties a.frame s
    have hlc : (s.readBackWhole a.frame).lc.own = (s.readBackDone a.frame).lc.own := congrArg Prod.fst hduties
    have heu : (s.readBackWhole a.frame).eu = (s.readBackDone a.frame).eu := congrArg (·.2.1) hduties
    have hattempt := congrArg LinkController.attempt hlc
    simp only [LinkController.own, Option.map_eq_none_iff, readBackDone, Option.map_none] at hattempt
    refine ⟨?_, fun b hb hrow => ?_, hattempt, congrArg LinkController.recovery hlc, congrArg LinkController.quiet hlc,
      congrArg LinkController.failures hlc, congrArg LinkController.stamp hlc, fun hheld => ?_, fun hfaulted => ?_,
      fun q pre post f hq hlength hheld hf => ?_⟩
    · obtain ⟨named, hexec, hnamed⟩ := exec_readBackRow hbody
      rw [hexec, hreads, if_pos ((hnamed _).mpr rfl)]
    · obtain ⟨named, hexec, hnamed⟩ := exec_readBackRow hb
      rw [hexec, hreads, if_neg (fun h => hrow ((hnamed _).mp h).symm)]
    · rw [readBackWhole_eq, admitHeld_none (s := s.readBackDone a.frame) hheld]
      rfl
    · rw [heu]
      simp [readBackDone, hfaulted]
    · subst hq
      obtain ⟨hframe, howed⟩ := readBackWhole_admits hlength hheld hf
      refine ⟨fun hne => ?_, fun h e hbody he hflag hbefore => ?_⟩
      · rw [hframe hne]
        obtain ⟨x, y, hsplit, hins, hx, hy⟩ := insertByClass_split f (s.readBackDone a.frame).lc.queue
        exact ⟨x, y, hsplit, hins, hx, hy, rfl, rfl⟩
      · rw [howed h hbody (lowestOwed_eq he hflag hbefore) ⟨e, he⟩]
        obtain ⟨hqueue, hheld', hht⟩ := queueOwed_of_entry (s := { s.readBackDone a.frame with lc.held := pre ++ post }) he
        refine ⟨⟨owedFrame h e { s.readBackDone a.frame with lc.held := pre ++ post }, ?_, rfl, rfl⟩, hheld', ?_, hht⟩
        · rw [hqueue]
          exact List.mem_append_left _ ((mem_insertByClass _ _ _).mpr (.inl rfl))
        · rw [hqueue, insertByClass_length]
          exact congrArg (· + 1) hlength
  · rintro owed s rfl
    refine ⟨offerOwed_of_none, offerOwed_of_room, fun hne hfull hheld => ?_, offerOwed_of_held⟩
    rw [offerOwed_of_full hne hfull hheld]
    exact ⟨_, rfl, rfl, rfl, rfl, rfl⟩

end Sys2Proof.Machine
end

section
/-! PROOFS. LC's candidate, the start of an attempt, and the attempt that fails (R41 to R47, R53, R54, R100). -/

namespace Sys2Proof.Machine

open Sys2Proof (Byte Word Data Stamp Datum Side Instr)

namespace State

/-! ### The candidate (R43, R54, R59) -/

theorem candidate_offline {s : State} (h : s.ws.state = .unconfigured ∨ s.ws.state = .halted) : s.candidate = none := by
  unfold candidate
  rcases h with h | h <;> rw [h] <;> rfl

/-- Where no queued frame may go the candidate is the due PRESENCE. -/
theorem candidate_presence {s : State} (h : s.ws.state = .idle ∨ s.ws.state.active = true ∧ s.lc.queue = []) :
    s.candidate = if s.lc.due = true then some .presence else none := by
  have hon : s.ws.state.online = true := by
    rcases h with h | ⟨h, -⟩
    · rw [h]
      rfl
    · cases hs : s.ws.state <;> simp [hs, WorkState.active, WorkState.online] at h ⊢
  have hhead : s.sendableHead = none := by
    unfold sendableHead
    rcases h with h | ⟨-, h⟩
    · rw [h]
      rfl
    · rw [h, List.head?_nil, ite_self]
  simp [candidate, hon, hhead]

theorem candidate_head {s : State} {f : TxFrame} {q : List TxFrame} (hs : s.ws.state.active = true) (hq : s.lc.queue = f :: q) :
    s.candidate = if s.lc.due = true ∧ s.lc.promoted = true ∧ s.candidateClass (.queued f) ≠ 0 then some .presence
      else some (.queued f) := by
  have hon : s.ws.state.online = true := by
    cases h : s.ws.state <;> simp [h, WorkState.active, WorkState.online] at hs ⊢
  have hhead : s.sendableHead = some f := by
    rw [sendableHead, if_pos hs, hq, List.head?_cons]
  unfold candidate
  rw [hon, hhead]
  refine (if_neg Bool.false_ne_true).trans (if_congr ?_ rfl rfl)
  simp [candidateClass, and_assoc]

/-! ### The start of an attempt (R41, R44, R45) -/

theorem transmit_busy {q : Nat} {s : State} (h : s.lc.attempt ≠ none) : s.transmit q = s := by
  obtain ⟨a, ha⟩ := Option.ne_none_iff_exists'.mp h
  have hquiet : s.quietFor q = s := if_pos (by rw [ha]; rfl)
  unfold transmit
  dsimp only
  rw [hquiet, ha]

/-- Without an attempt LC takes the quiet time and begins its candidate where it may. -/
theorem transmit_idle {q : Nat} {s : State} (h : s.lc.attempt = none) :
    s.transmit q = match s.candidate with
      | none => { s with lc.quiet := some q }
      | some c => if s.mayBegin c q then beginAttempt c { s with lc.quiet := some q } else { s with lc.quiet := some q } := by
  have hquiet : s.quietFor q = { s with lc.quiet := some q } := if_neg (by rw [h]; exact Bool.false_ne_true)
  unfold transmit
  dsimp only
  rw [hquiet]
  split
  · rename_i c _ hq hc
    obtain rfl : q = _ := Option.some.inj hq
    rw [show s.candidate = some c from hc]
    rfl
  · rename_i hrest
    cases hc : s.candidate with
    | none => rfl
    | some c => exact absurd hc (hrest q c h rfl)

theorem transmit_waits {q : Nat} {c : Candidate} {s : State} (h : s.lc.attempt = none) (hc : s.candidate = some c)
    (hq : s.mayBegin c q = false) : s.transmit q = { s with lc.quiet := some q } := by
  rw [transmit_idle h, hc]
  exact if_neg (by rw [hq]; exact Bool.false_ne_true)

theorem transmit_begins {q : Nat} {c : Candidate} {s : State} (h : s.lc.attempt = none) (hc : s.candidate = some c)
    (hq : s.mayBegin c q = true) : s.transmit q = beginAttempt c { s with lc.quiet := some q } := by
  rw [transmit_idle h, hc]
  exact if_pos hq

/-! ### A selection dropped stays dropped -/

theorem giveUpZone_linkStep (side : Side) (s : State) : LinkStep s (s.giveUpZone side) := by
  have dropped : LinkStep s (if (s.zone side).outstanding = .no then s
      else if s.inFlight (s.zone side).frameId then s.voidInFlight (fun _ => true)
      else s.removeFrame (s.zone side).frameId) := by
    split
    · exact .refl s
    · split
      · exact voidInFlight_linkStep _ s
      · exact removeFrame_linkStep _ s
  unfold giveUpZone
  dsimp only
  refine LinkStep.trans ?_ (resetZone_linkStep side _)
  split
  · exact dropped.trans (offer_linkStep .zc _ _)
  · exact dropped

theorem LinkStep.selection {s t : State} (h : LinkStep s t) : t.ws.selection = s.ws.selection := by rw [h.frame]

theorem giveUpIntent_selection (s : State) : s.giveUpIntent.ws.selection = s.ws.selection := by
  unfold giveUpIntent
  split
  case h_3 =>
    dsimp only
    split
    · exact (removeFrame_linkStep _ s).selection
    · rfl
  case h_4 | h_5 | h_6 => exact (offer_linkStep .du _ (s.setDraw s.k none)).selection
  all_goals rfl

theorem takeEnding_selection (cause : EndCause) (through : Bool) (s : State) :
    (s.takeEnding cause through).ws.selection = s.ws.selection := by
  unfold takeEnding
  split
  · rfl
  · split
    · rfl
    · dsimp only
      split
      · rfl
      · split
        · exact giveUpIntent_selection _
        · rfl

theorem endLone_selection (how : LoneEnd) (s : State) : (s.endLone how).ws.selection = s.ws.selection := by
  unfold endLone
  split
  · rfl
  · split
    · rfl
    · split <;> rfl

/-- A fault takes up no selection. -/
theorem raiseFault_selection (e : EventSource) (src : FaultSource) {s : State} (h : s.ws.selection = none) :
    (s.raiseFault e src).ws.selection = none := by
  have dropSelection_none : ∀ t : State, t.ws.selection = none → t.dropSelection = t := fun t ht => by
    unfold dropSelection
    rw [ht]
  have entered : ∀ t : State, t.ws.selection = none → (giveUpIntent (giveUpZones
      { dropSelection (endLone .fault (takeEnding .fault true t)) with ws.park := .no })).ws.selection = none := fun t ht => by
    have hended : (endLone .fault (takeEnding .fault true t)).ws.selection = none := by
      rw [endLone_selection, takeEnding_selection, ht]
    rw [giveUpIntent_selection, giveUpZones, (giveUpZone_linkStep .right _).selection, (giveUpZone_linkStep .left _).selection,
      dropSelection_none _ hended]
    exact hended
  unfold raiseFault enterFaulted
  split
  case h_1 | h_2 | h_3 | h_4 => exact entered _ h
  all_goals exact h

/-! ### A failed attempt (R46, R47, R100) -/

theorem failAttempt_eq {a : Attempt} {s : State} (ha : s.lc.attempt = some a) : s.failAttempt
    = if s.attemptEndsFailed.retryWithdrawal.lc.failures = 8 then
        s.attemptEndsFailed.retryWithdrawal.raiseFault .linkFault .linkFault
      else s.attemptEndsFailed.retryWithdrawal := by
  unfold failAttempt
  rw [ha]
  rfl

theorem retryWithdrawal_kept {s : State} (h : ∀ x, s.ws.selection = some x → x.stage ≠ .claimWithdrawn) :
    s.retryWithdrawal = s := by
  unfold retryWithdrawal
  split
  · rename_i x hx
    exact if_neg (h x hx)
  · rfl

/-- A frame removed while no attempt is in progress has gone. -/
theorem removeFrame_gone {id : Nat} {s : State} (hid : id < s.lc.nextId) (hfree : s.inFlight id = false) :
    ∀ f ∈ (s.removeFrame id).lc.queue ++ (s.removeFrame id).lc.held, f.id ≠ id := by
  unfold removeFrame
  rw [if_neg (by rw [hfree]; exact Bool.false_ne_true)]
  refine (admitHeld_queueKept _).gone id hid fun f hf => ?_
  rcases List.mem_append.mp hf with hf | hf
  · simpa using List.of_mem_filter hf
  · simpa using List.of_mem_filter hf

/-- A CLAIM that had been withdrawn leaves the queue with its failed attempt. -/
theorem retryWithdrawal_drops {x : Selection} {s : State} (hx : s.ws.selection = some x) (hstage : x.stage = .claimWithdrawn)
    (hfree : s.lc.attempt = none) :
    s.retryWithdrawal = removeFrame x.frameId { s with ws.selection := none } := by
  have hflight : s.inFlight x.frameId = false := by
    rw [inFlight, hfree]
  unfold retryWithdrawal
  rw [hx]
  dsimp only
  rw [if_pos hstage, dropSelection, hx]
  dsimp only
  rw [hstage]
  exact if_neg (by rw [hflight]; exact Bool.false_ne_true)

/-- What a failed attempt does to a withdrawn CLAIM, before the count is judged. -/
theorem attemptEndsFailed_drops {x : Selection} {s : State} (hx : s.ws.selection = some x) (hstage : x.stage = .claimWithdrawn)
    (hid : x.frameId < s.lc.nextId) :
    s.attemptEndsFailed.retryWithdrawal.duties = s.attemptEndsFailed.duties
    ∧ s.attemptEndsFailed.retryWithdrawal.ws.selection = none
    ∧ s.attemptEndsFailed.retryWithdrawal.levels = s.levels
    ∧ x.frameId < s.attemptEndsFailed.retryWithdrawal.lc.nextId
    ∧ ∀ f ∈ s.attemptEndsFailed.retryWithdrawal.lc.queue ++ s.attemptEndsFailed.retryWithdrawal.lc.held, f.id ≠ x.frameId := by
  rw [retryWithdrawal_drops (s := s.attemptEndsFailed) hx hstage rfl]
  have hlink := removeFrame_linkStep x.frameId { s.attemptEndsFailed with ws.selection := none }
  exact ⟨removeFrame_duties _ _, hlink.selection, by rw [levels, hlink.setup]; rfl,
    hid.trans_le (removeFrame_queueKept x.frameId { s.attemptEndsFailed with ws.selection := none }).nextId,
    removeFrame_gone hid rfl⟩

theorem attempt_of_own {s t : State} (h : t.lc.own = s.lc.own) (hs : s.lc.attempt = none) : t.lc.attempt = none := by
  have hattempt := congrArg LinkController.attempt h
  rw [LinkController.own, LinkController.own, hs] at hattempt
  exact Option.map_eq_none_iff.mp hattempt

end State

open State in
/-- Settles O43: the candidate by the station state, the quiet time against its deferral, and the failed attempt. -/
theorem attemptsBeginAndFail : Obligations.AttemptsBeginAndFail := by
  refine ⟨fun q s => ⟨fun h => ?_, fun h hc => ?_, fun c h hc hq => ?_, fun c h hc hq => ?_, fun c h hc hq hslot => ?_, fun c => rfl⟩,
    fun s => ⟨candidate_offline, candidate_presence, fun f q => candidate_head, rfl, fun f side a hf => ?_, fun f a n h hf => ?_,
      fun f hpresence hzone hdraw => ?_, rfl, fun f => rfl⟩,
    fun a s ha => ⟨fun hx => ⟨fun hcount => ?_, fun hcount => ?_⟩, fun x hx hstage hcount hid => ?_,
      fun x hx hstage hcount hid => ?_⟩⟩
  · exact congrArg Host.Outcome.next (transmit_busy h)
  · refine congrArg Host.Outcome.next ((transmit_idle h).trans ?_)
    rw [hc]
  · exact congrArg Host.Outcome.next (transmit_waits h hc (by simp [mayBegin, hq]))
  · exact congrArg Host.Outcome.next (transmit_waits h hc (by simp [mayBegin, Config.baseGap, Config.slotBits, hq]))
  · exact ⟨_, congrArg Host.Outcome.next (transmit_begins h hc (by simp [mayBegin, Config.baseGap, Config.slotBits, hq, hslot])),
      rfl, rfl, rfl, rfl, rfl, rfl, rfl, rfl, rfl, rfl, rfl, rfl⟩
  · rw [candidateClass, hf, Body.accessClass]
  · rw [candidateClass, hf, Body.accessClass]
  · rw [candidateClass]
    cases hb : f.body with
    | presence p => exact absurd hb (hpresence p)
    | zone side a => exact absurd hb (hzone side a)
    | draw a n h => exact absurd hb (hdraw a n h)
    | _ => rfl
  · have hsame := retryWithdrawal_kept (s := s.attemptEndsFailed) hx
    have hfailures : s.attemptEndsFailed.lc.failures ≠ 8 := by
      show min 255 (s.lc.failures + 1) ≠ 8
      omega
    refine congrArg (fun t => Host.Outcome.next (settle t)) ((failAttempt_eq ha).trans ?_)
    rw [hsame, if_neg hfailures]
    rfl
  · have hsame := retryWithdrawal_kept (s := s.attemptEndsFailed) hx
    have hfailed : s.attemptEndsFailed = { s with lc.attempt := none, lc.quiet := none, lc.failures := 8 } := by
      rw [attemptEndsFailed, hcount]
      rfl
    refine congrArg (fun t => Host.Outcome.next (settle t)) ((failAttempt_eq ha).trans ?_)
    rw [hsame, hfailed, if_pos rfl]
  · obtain ⟨hduties, hselection, -, -, hgone⟩ := attemptEndsFailed_drops hx hstage hid
    have hown : s.attemptEndsFailed.retryWithdrawal.lc.own = s.attemptEndsFailed.lc.own := congrArg Prod.fst hduties
    have hfailures : s.attemptEndsFailed.retryWithdrawal.lc.failures = min 255 (s.lc.failures + 1) :=
      congrArg LinkController.failures hown
    refine ⟨_, congrArg (fun t => Host.Outcome.next (settle t)) ((failAttempt_eq ha).trans (if_neg ?_)), hselection,
      attempt_of_own hown rfl, hfailures, hgone⟩
    omega
  · obtain ⟨hduties, hselection, hlevels, hid', hgone⟩ := attemptEndsFailed_drops hx hstage hid
    have hown : s.attemptEndsFailed.retryWithdrawal.lc.own = s.attemptEndsFailed.lc.own := congrArg Prod.fst hduties
    have hstate : s.attemptEndsFailed.retryWithdrawal.ws.state = s.ws.state := congrArg (·.2.2) hduties
    have heu : s.attemptEndsFailed.retryWithdrawal.eu = s.eu := congrArg (·.2.1) hduties
    have hfailures : s.attemptEndsFailed.retryWithdrawal.lc.failures = 8 :=
      (congrArg LinkController.failures hown).trans (by show min 255 (s.lc.failures + 1) = 8; omega)
    generalize hu : s.attemptEndsFailed.retryWithdrawal = u at *
    have hexec := (failAttempt_eq ha).trans (if_pos (hu ▸ hfailures))
    rw [hu] at hexec
    obtain ⟨hfown, hfsources⟩ := raiseFault_own .linkFault .linkFault u
    obtain ⟨hfaulted, hrests⟩ := raiseFault_work .linkFault .linkFault u
    refine ⟨_, congrArg (fun t => Host.Outcome.next (settle t)) hexec, raiseFault_selection _ _ hselection,
      attempt_of_own (hfown.trans hown) rfl, (congrArg LinkController.failures hfown).trans hfailures,
      (raiseFault_queueKept _ _ u).gone _ hid' hgone, fun r hr => ?_, ?_⟩
    · rw [hfsources]
      refine (raise_source .linkFault (s := u) (x := r) (by rw [heu]; exact hr)).trans ?_
      rw [hlevels]
      rfl
    · split
      · rename_i h
        exact hfaulted (by rwa [faultable, hstate])
      · rename_i h
        rw [hrests (by rwa [faultable, hstate]), hstate]

end Sys2Proof.Machine
end

section
/-! PROOFS. A zone's record through the changes of its state (R70 to R80). -/

namespace Sys2Proof.Machine

open Sys2Proof (Byte Word Data Stamp Datum Side Instr)

/-- The states that a neighbour inside the zone, or under another plan, makes BLOCKED (R79). -/
def ZoneState.blockable : ZoneState → Bool
  | .free | .heldOther | .requested | .yielding => true
  | .noZone | .heldOwn | .blocked => false

namespace ZoneRecord

/-! ### Entry into a state (R70) -/

@[simp] theorem entering_state (st : ZoneState) (z : ZoneRecord) : (z.entering st).state = st := rfl

@[simp] theorem entering_outstanding (st : ZoneState) (z : ZoneRecord) : (z.entering st).outstanding = z.outstanding := by
  unfold entering
  dsimp only
  split <;> rfl

/-- A hold that ends is no dual hold, and its release is over. -/
theorem entering_ends {st : ZoneState} {z : ZoneRecord} (hz : z.state = .heldOwn) (hst : st ≠ .heldOwn) :
    (z.entering st).dual = false ∧ (z.entering st).progress = .no := by
  unfold entering
  rw [if_pos (by simp [hz, hst])]
  exact ⟨rfl, rfl⟩

theorem entering_rests {z : ZoneRecord} (hz : z.dual = false ∧ z.progress = .no) (st : ZoneState) :
    (z.entering st).dual = false ∧ (z.entering st).progress = .no := by
  unfold entering
  dsimp only
  split
  · exact ⟨rfl, rfl⟩
  · exact hz

theorem entering_releaseHeard {st : ZoneState} (hst : st ≠ .requested) (z : ZoneRecord) : (z.entering st).releaseHeard = false := by
  unfold entering
  simp [hst]

end ZoneRecord

namespace State

/-! ### The outstanding frame put aside (R72) -/

theorem removeFrame_zone (id : Nat) (side : Side) (s : State) : (s.removeFrame id).zone side = s.zone side := by
  rw [zone, removeFrame_zc, zone]

/-- A request to remove the outstanding frame touches nothing else of the zone. -/
theorem dropOutstanding_zone (side : Side) (s : State) : ∃ o, (s.dropOutstanding side).zone side = { s.zone side with outstanding := o } := by
  unfold dropOutstanding
  dsimp only
  split
  · exact ⟨_, rfl⟩
  · split
    · exact ⟨_, rfl⟩
    · exact ⟨.no, by rw [onZone_zone, removeFrame_zone]⟩

/-- A frame that is not in flight is outstanding no longer once its removal has been asked for. -/
theorem dropOutstanding_free {side : Side} {s : State} (h : s.inFlight (s.zone side).frameId = false) :
    ((s.dropOutstanding side).zone side).outstanding = .no := by
  unfold dropOutstanding
  dsimp only
  split
  · assumption
  · rw [h, if_neg Bool.false_ne_true, onZone_zone]

theorem tidyOutstanding_zone (side : Side) (st : ZoneState) (s : State) :
    ∃ o, (s.tidyOutstanding side st).zone side = { s.zone side with outstanding := o } := by
  unfold tidyOutstanding
  split
  case h_4 | h_6 => exact ⟨_, rfl⟩
  all_goals exact dropOutstanding_zone side s

theorem tidyOutstanding_none {side : Side} {s : State} (h : (s.zone side).outstanding = .no) (st : ZoneState) :
    s.tidyOutstanding side st = s := by
  unfold tidyOutstanding
  rw [h]

/-! ### A change of state (R70, R79) -/

/-- A change of state enters the new one, and may drop the outstanding frame. -/
theorem zoneTo_zone (side : Side) (st : ZoneState) (s : State) :
    ∃ o, (s.zoneTo side st).zone side = ZoneRecord.entering st { s.zone side with outstanding := o } := by
  unfold zoneTo
  dsimp only
  split
  · exact ⟨(s.zone side).outstanding, onZone_zone side _ s⟩
  · obtain ⟨o, ho⟩ := tidyOutstanding_zone side st s
    exact ⟨o, by rw [onZone_zone, ho]⟩

@[simp] theorem zoneTo_state (side : Side) (st : ZoneState) (s : State) : ((s.zoneTo side st).zone side).state = st := by
  obtain ⟨o, ho⟩ := zoneTo_zone side st s
  rw [ho, ZoneRecord.entering_state]

theorem zoneTo_outstanding {side : Side} {s : State} (h : (s.zone side).outstanding = .no) (st : ZoneState) :
    ((s.zoneTo side st).zone side).outstanding = .no := by
  unfold zoneTo
  dsimp only
  rw [tidyOutstanding_none h, ite_self, onZone_zone, ZoneRecord.entering_outstanding, h]

/-- BLOCKED is entered from the states that may be blocked, where the neighbour blocks. -/
theorem applyBlock_eq (side : Side) (s : State) :
    s.applyBlock side = if (s.zone side).state.blockable && s.blocks side then s.zoneTo side .blocked else s := by
  unfold applyBlock
  cases h : (s.zone side).state <;> simp [ZoneState.blockable]

theorem applyBlock_state (side : Side) (s : State) : ((s.applyBlock side).zone side).state
    = if (s.zone side).state.blockable && s.blocks side then .blocked else (s.zone side).state := by
  rw [applyBlock_eq]
  split
  · exact zoneTo_state side .blocked s
  · rfl

theorem applyBlock_outstanding {side : Side} {s : State} (h : (s.zone side).outstanding = .no) :
    ((s.applyBlock side).zone side).outstanding = .no := by
  rw [applyBlock_eq]
  split
  · exact zoneTo_outstanding h .blocked
  · exact h

theorem applyBlock_rests {side : Side} {s : State} (h : (s.zone side).dual = false ∧ (s.zone side).progress = .no) :
    ((s.applyBlock side).zone side).dual = false ∧ ((s.applyBlock side).zone side).progress = .no := by
  rw [applyBlock_eq]
  split
  · obtain ⟨o, ho⟩ := zoneTo_zone side .blocked s
    rw [ho]
    exact ZoneRecord.entering_rests (z := { s.zone side with outstanding := o }) h _
  · exact h

theorem applyBlock_releaseHeard {side : Side} {s : State} (h : (s.zone side).releaseHeard = false) :
    ((s.applyBlock side).zone side).releaseHeard = false := by
  rw [applyBlock_eq]
  split
  · obtain ⟨o, ho⟩ := zoneTo_zone side .blocked s
    rw [ho]
    exact ZoneRecord.entering_releaseHeard (by decide) _
  · exact h

/-! ### What the neighbour is does not turn on the zone's state -/

theorem LinkStep.sideInfo {s t : State} (h : LinkStep s t) (side : Side) : t.sideInfo side = s.sideInfo side := by
  simp only [State.sideInfo, State.peer, State.cfg, h.pt, h.setup]

theorem LinkStep.planDiffers {s t : State} (h : LinkStep s t) (side : Side) : t.planDiffers side = s.planDiffers side := by
  have hcheck : t.planCheck = s.planCheck := by rw [State.planCheck, h.ps, State.planCheck]
  rw [State.planDiffers, h.sideInfo, hcheck, State.planDiffers]

theorem neighbourInside_of_linkStep {side : Side} {s t : State} (h : LinkStep s t) (halone : ZoneAlone side s t) :
    t.neighbourInside side = s.neighbourInside side := by
  rw [neighbourInside, h.sideInfo, halone.2, neighbourInside]

theorem blocks_of_linkStep {side : Side} {s t : State} (h : LinkStep s t) (halone : ZoneAlone side s t) :
    t.blocks side = s.blocks side := by
  simp only [blocks, h.planDiffers, h.sideInfo, neighbourInside_of_linkStep h halone]

theorem zoneTo_blocks (side : Side) (st : ZoneState) (s : State) : (s.zoneTo side st).blocks side = s.blocks side :=
  blocks_of_linkStep (zoneTo_linkStep side st s) (zoneTo_zoneAlone side st s)

/-- The state after a change of state: BLOCKED where the neighbour blocks and the new state lets it. -/
theorem zoneChange_state (side : Side) (st : ZoneState) (s : State) :
    ((s.zoneChange side st).zone side).state = if st.blockable && s.blocks side then .blocked else st := by
  rw [zoneChange, applyBlock_state, zoneTo_state, zoneTo_blocks]

theorem zoneChange_outstanding {side : Side} {s : State} (h : (s.zone side).outstanding = .no) (st : ZoneState) :
    ((s.zoneChange side st).zone side).outstanding = .no :=
  applyBlock_outstanding (zoneTo_outstanding h st)

theorem zoneChange_releaseHeard {side : Side} {st : ZoneState} (hst : st ≠ .requested) (s : State) :
    ((s.zoneChange side st).zone side).releaseHeard = false := by
  refine applyBlock_releaseHeard ?_
  obtain ⟨o, ho⟩ := zoneTo_zone side st s
  rw [ho]
  exact ZoneRecord.entering_releaseHeard hst _

/-- A hold that ends is no dual hold, and its release is over. -/
theorem zoneChange_ends {side : Side} {st : ZoneState} {s : State} (hs : (s.zone side).state = .heldOwn) (hst : st ≠ .heldOwn) :
    ((s.zoneChange side st).zone side).dual = false ∧ ((s.zoneChange side st).zone side).progress = .no := by
  refine applyBlock_rests ?_
  obtain ⟨o, ho⟩ := zoneTo_zone side st s
  rw [ho]
  exact ZoneRecord.entering_ends hs hst

end State

end Sys2Proof.Machine
end

section
/-! PROOFS. What the owners do when their frames have been read back (R27, R30, R72 to R79, R94, R152). -/

namespace Sys2Proof.Machine

open Sys2Proof (Byte Word Data Stamp Datum Side Instr)

namespace State

/-! ### PU: the own DATUM (R30) -/

/-- The correction computed anew leaves the records, the prober and the setup. -/
theorem computeCorrection_pu (s : State) : (s.computeCorrection).pu.datumA = s.pu.datumA
    ∧ (s.computeCorrection).pu.datumB = s.pu.datumB ∧ (s.computeCorrection).pu.prober = s.pu.prober := by
  unfold computeCorrection
  split
  · dsimp only
    split <;> exact ⟨rfl, rfl, rfl⟩
  · exact ⟨rfl, rfl, rfl⟩

theorem computeCorrection_record (d : Datum) (s : State) : s.computeCorrection.pu.record d = s.pu.record d := by
  obtain ⟨ha, hb, -⟩ := computeCorrection_pu s
  cases d with
  | a => exact ha
  | b => exact hb

theorem computeCorrection_setup (s : State) : s.computeCorrection.setup = s.setup := congrArg Base.setup (computeCorrection_base s)

theorem setProber_record (st : ProberStatus) (t : Option Nat) (m : Option (Nat × Nat)) (d : Datum) (s : State) :
    (s.setProber st t m).pu.record d = s.pu.record d := by
  unfold setProber
  split <;> rfl

theorem setProber_status {s : State} (h : s.pu.prober ≠ none) (st : ProberStatus) (t : Option Nat) (m : Option (Nat × Nat)) :
    (s.setProber st t m).proberStatus = some st := by
  obtain ⟨p, hp⟩ := Option.ne_none_iff_exists'.mp h
  unfold setProber
  rw [hp]
  rfl

/-- The own DATUM of the prober's kind: its record, and the prober CURRENT. -/
theorem datumBack_own {d : Datum} {s : State} (hrole : s.cfg.role.datum = some d) (hprober : s.pu.prober ≠ none) (r q : Nat)
    (stamp : Stamp) : (s.datumBack d r q stamp).proberStatus = some .current
      ∧ (s.datumBack d r q stamp).pu.record d
        = { status := .valid, fix := some { r, q, source := s.k, time := s.clock, stamp } } := by
  have hcfg : (s.applyDatum d r q s.k stamp).cfg = s.cfg := by
    rw [cfg, applyDatum, computeCorrection_setup, setRecord_setup, cfg]
  unfold datumBack
  dsimp only
  rw [hcfg, if_pos hrole]
  refine ⟨setProber_status ?_ _ _ _, ?_⟩
  · rwa [applyDatum, (computeCorrection_pu _).2.2, setRecord_prober]
  · rw [setProber_record, applyDatum, computeCorrection_record, setRecord_record]

/-! ### WS: the frame that closes a claim (R94) -/

theorem closeClaim_of_claim {c : Claim} {s : State} (hc : s.ws.claim = some c) (f : TxFrame) :
    s.closeClaim f = if closesClaim f c then { s with ws.claim := none } else s := by
  unfold closeClaim
  rw [hc]

theorem closeClaim_other {f : TxFrame} {s : State} (h : ∀ c, closesClaim f c = false) : s.closeClaim f = s := by
  unfold closeClaim
  split
  · rfl
  · rename_i c _
    exact if_neg (by rw [h c]; exact Bool.false_ne_true)

/-! ### ZC: what a read-back starts from (R72) -/

/-- The zone as its owner finds it once the frame read back is outstanding no longer. -/
theorem outstandingBack_zone (f : TxFrame) (side : Side) (s : State) : (s.outstandingBack f side).zone side
    = { s.zone side with outstanding := if (s.zone side).frameId = f.id then .no else (s.zone side).outstanding } := by
  unfold outstandingBack
  split
  · rw [onZone_zone]
  · rfl

theorem outstandingBack_linkStep (f : TxFrame) (side : Side) (s : State) : LinkStep s (s.outstandingBack f side) := by
  unfold outstandingBack
  split
  · exact onZone_linkStep side _ s
  · exact .refl s

theorem outstandingBack_state (f : TxFrame) (side : Side) (s : State) :
    ((s.outstandingBack f side).zone side).state = (s.zone side).state := by
  rw [outstandingBack_zone]

theorem outstandingBack_blocks (f : TxFrame) (side : Side) (s : State) : (s.outstandingBack f side).blocks side = s.blocks side := by
  refine blocks_of_linkStep (outstandingBack_linkStep f side s) ?_
  unfold outstandingBack
  split
  · refine ZoneAlone.onZone ?_ s
    exact fun _ => rfl
  · exact .of_zc rfl

/-! ### ZC: an own SEIZE or REQUEST (R72, R74) -/

/-- What the own SEIZE and REQUEST do in HELD-OTHER. -/
theorem outstandingBack_requested (f : TxFrame) (side : Side) (s : State) :
    (((s.outstandingBack f side).zoneChange side .requested).zone side).state = if s.blocks side = true then .blocked else .requested := by
  rw [zoneChange_state, outstandingBack_blocks]
  rfl

theorem holdZone_linkStep (side : Side) (stamp : Stamp) (s : State) : LinkStep s (s.holdZone side stamp) :=
  (zoneTo_linkStep side .heldOwn s).trans (onZone_linkStep side _ _)

theorem holdZone_record (side : Side) (stamp : Stamp) (s : State) : ((s.holdZone side stamp).zone side).state = .heldOwn
    ∧ ((s.holdZone side stamp).zone side).ownStamp = some stamp ∧ ((s.holdZone side stamp).zone side).pending = false
    ∧ ((s.holdZone side stamp).zone side).cycles = 0 := by
  rw [holdZone, onZone_zone]
  exact ⟨zoneTo_state side .heldOwn s, rfl, rfl, rfl⟩

/-- The own SEIZE, by the state of the zone it comes back in. -/
theorem seizeBack_cases {f : TxFrame} {side : Side} {s : State} (hf : f.void = false) (stamp : Stamp) :
    ((s.zone side).state = .free → s.seizeBack f side stamp = (s.outstandingBack f side).holdZone side stamp)
    ∧ ((s.zone side).state = .requested →
        s.seizeBack f side stamp = ((s.outstandingBack f side).holdZone side stamp).raise .zoneGranted)
    ∧ ((s.zone side).state = .heldOther → s.seizeBack f side stamp = (s.outstandingBack f side).zoneChange side .requested)
    ∧ ((s.zone side).state = .noZone ∨ (s.zone side).state = .heldOwn ∨ (s.zone side).state = .blocked
        ∨ (s.zone side).state = .yielding → s.seizeBack f side stamp = s.outstandingBack f side) := by
  unfold seizeBack
  rw [hf, if_neg Bool.false_ne_true]
  dsimp only
  rw [outstandingBack_state]
  refine ⟨fun h => by rw [h], fun h => by rw [h], fun h => by rw [h], ?_⟩
  rintro (h | h | h | h) <;> rw [h]

theorem seizeBack_holds {f : TxFrame} {side : Side} {s : State} (hf : f.void = false)
    (h : (s.zone side).state = .free ∨ (s.zone side).state = .requested) (stamp : Stamp) :
    ((s.seizeBack f side stamp).zone side).state = .heldOwn ∧ ((s.seizeBack f side stamp).zone side).ownStamp = some stamp
    ∧ ((s.seizeBack f side stamp).zone side).pending = false ∧ ((s.seizeBack f side stamp).zone side).cycles = 0 := by
  obtain ⟨hfree, hrequested, -, -⟩ := seizeBack_cases (s := s) (side := side) hf stamp
  rcases h with h | h
  · rw [hfree h]
    exact holdZone_record side stamp _
  · rw [hrequested h]
    exact holdZone_record side stamp _

/-- A zone granted is told to EU (R161). -/
theorem seizeBack_granted {f : TxFrame} {side : Side} {s : State} (hf : f.void = false) (h : (s.zone side).state = .requested)
    (stamp : Stamp) :
    (s.seizeBack f side stamp).eu.sources = s.eu.sources.modify 0 (SourceRecord.raised (s.levels.getD 0 0)) := by
  have hlink := (outstandingBack_linkStep f side s).trans (holdZone_linkStep side stamp _)
  have hlevels : ((s.outstandingBack f side).holdZone side stamp).levels = s.levels := by rw [levels, hlink.setup, levels]
  obtain ⟨-, hrequested, -, -⟩ := seizeBack_cases (s := s) (side := side) hf stamp
  rw [hrequested h, raise_sources, hlink.eu, hlevels]
  rfl

theorem requestBack_heldOther {f : TxFrame} {side : Side} {s : State} (hf : f.void = false)
    (h : (s.zone side).state = .heldOther) : s.requestBack f side = (s.outstandingBack f side).zoneChange side .requested := by
  unfold requestBack
  rw [hf, if_neg Bool.false_ne_true]
  exact if_pos ((outstandingBack_state f side s).trans h)

/-! ### ZC: an own RELEASE (R74, R77, R83) -/

theorem releaseBack_sent {side : Side} {s : State} (hs : (s.zone side).state = .heldOwn) (hsent : (s.zone side).progress = .sent) :
    s.releaseBack side = if (s.zone side).dual then s.zoneChange side (s.firstState side)
      else if s.planDiffers side then s.zoneChange side .blocked
      else if (s.zone side).pending then
        (((s.zoneTo side .yielding).onZone side fun z =>
          { z with yieldDeadline := some (s.clock + s.cfg.yieldPeriod) })).applyBlock side
      else s.zoneChange side .free := by
  unfold releaseBack
  exact if_pos (by simp [hs, hsent])

theorem releaseBack_other {side : Side} {s : State} (h : (s.zone side).state ≠ .heldOwn ∨ (s.zone side).progress ≠ .sent) :
    s.releaseBack side = s := by
  unfold releaseBack
  refine if_neg ?_
  simp only [Bool.and_eq_true, decide_eq_true_eq]
  tauto

/-- The zone, yielding, before the neighbour is looked at. -/
theorem yielding_blocks (side : Side) (t : Option Nat) (s : State) :
    (((s.zoneTo side .yielding).onZone side fun z => { z with yieldDeadline := t }).blocks side) = s.blocks side := by
  refine blocks_of_linkStep ((zoneTo_linkStep side .yielding s).trans (onZone_linkStep side _ _))
    ((zoneTo_zoneAlone side .yielding s).trans (ZoneAlone.onZone ?_ _))
  exact fun _ => rfl

theorem yielding_state (side : Side) (t : Option Nat) (s : State) :
    ((((s.zoneTo side .yielding).onZone side fun z => { z with yieldDeadline := t }).applyBlock side).zone side).state
      = if s.blocks side then .blocked else .yielding := by
  rw [applyBlock_state, yielding_blocks, onZone_zone, zoneTo_state]
  rfl

/-- A zone may not be held against a neighbour by the state that its last PRESENCE shows (R69). -/
theorem firstState_rests {side : Side} {i : PeerInfo} {s : State} (hi : s.sideInfo side = some i) :
    s.firstState side = (if s.planDiffers side then .blocked else if i.heldFor side then .heldOther
      else if s.neighbourInside side then .blocked else .free)
    ∧ ((s.firstState side).blockable && s.blocks side) = false ∧ s.firstState side ≠ .heldOwn := by
  have hfirst : s.firstState side = (if s.planDiffers side then .blocked else if i.heldFor side then .heldOther
      else if s.neighbourInside side then .blocked else .free) := by rw [firstState, hi]
  have hblocks : s.blocks side = (s.planDiffers side || (s.neighbourInside side && !i.heldFor side)) := by
    rw [blocks, hi]
    rfl
  refine ⟨hfirst, ?_⟩
  rw [hfirst, hblocks]
  cases s.planDiffers side <;> cases i.heldFor side <;> cases s.neighbourInside side <;> exact ⟨rfl, by decide⟩

/-- A dual hold ends in the state that the neighbour's last PRESENCE shows. -/
theorem releaseBack_dual {side : Side} {i : PeerInfo} {s : State} (hs : (s.zone side).state = .heldOwn)
    (hsent : (s.zone side).progress = .sent) (hdual : (s.zone side).dual = true) (hi : s.sideInfo side = some i) :
    ((s.releaseBack side).zone side).dual = false ∧ ((s.releaseBack side).zone side).progress = .no
    ∧ ((s.releaseBack side).zone side).state = if s.planDiffers side then .blocked else if i.heldFor side then .heldOther
      else if s.neighbourInside side then .blocked else .free := by
  obtain ⟨hfirst, hrests, hown⟩ := firstState_rests hi
  rw [releaseBack_sent hs hsent, if_pos hdual]
  obtain ⟨hdual', hprogress⟩ := zoneChange_ends hs hown
  refine ⟨hdual', hprogress, ?_⟩
  rw [zoneChange_state, hrests, ← hfirst]
  exact if_neg Bool.false_ne_true

theorem releaseBack_blocked {side : Side} {s : State} (hs : (s.zone side).state = .heldOwn) (hsent : (s.zone side).progress = .sent)
    (hdual : (s.zone side).dual = false) (hblocks : s.blocks side = true) : ((s.releaseBack side).zone side).state = .blocked := by
  rw [releaseBack_sent hs hsent, hdual, if_neg Bool.false_ne_true]
  split
  · rw [zoneChange_state, ite_self]
  · split
    · rw [yielding_state, hblocks, if_pos rfl]
    · rw [zoneChange_state, hblocks]
      rfl

theorem releaseBack_yields {side : Side} {s : State} (hs : (s.zone side).state = .heldOwn) (hsent : (s.zone side).progress = .sent)
    (hdual : (s.zone side).dual = false) (hplan : s.planDiffers side = false) (hblocks : s.blocks side = false)
    (hpending : (s.zone side).pending = true) :
    ((s.releaseBack side).zone side).state = .yielding
    ∧ ((s.releaseBack side).zone side).yieldDeadline = some (s.clock + s.cfg.yieldPeriod) := by
  rw [releaseBack_sent hs hsent, hdual, hplan, hpending, if_neg Bool.false_ne_true, if_neg Bool.false_ne_true, if_pos rfl]
  refine ⟨by rw [yielding_state, hblocks, if_neg Bool.false_ne_true], ?_⟩
  rw [applyBlock_eq, yielding_blocks, hblocks, Bool.and_false, if_neg Bool.false_ne_true, onZone_zone]

theorem releaseBack_frees {side : Side} {s : State} (hs : (s.zone side).state = .heldOwn) (hsent : (s.zone side).progress = .sent)
    (hdual : (s.zone side).dual = false) (hplan : s.planDiffers side = false) (hblocks : s.blocks side = false)
    (hpending : (s.zone side).pending = false) : ((s.releaseBack side).zone side).state = .free := by
  rw [releaseBack_sent hs hsent, hdual, hplan, hpending, if_neg Bool.false_ne_true, if_neg Bool.false_ne_true,
    if_neg Bool.false_ne_true, zoneChange_state, hblocks, Bool.and_false, if_neg Bool.false_ne_true]

/-! ### DU: the own INTENT (R152) -/

theorem intentBack_settles {f : TxFrame} {s : State} (hqueued : s.du.own.state = .queued) (hname : s.du.own.intentId = some f.id)
    (hone : 1 ≤ s.k) (htable : s.k ≤ s.du.table.length) (n h : Nat) (stamp : Stamp) :
    (s.intentBack f n h stamp).du.own.state = .settling ∧ (s.intentBack f n h stamp).du.own.announced = true
    ∧ (s.intentBack f n h stamp).du.own.ownStamp = stamp
    ∧ (s.intentBack f n h stamp).du.own.settleDeadline = some (s.clock + s.cfg.settleInterval)
    ∧ (s.intentBack f n h stamp).drawEntry s.k = some { amount := n, hole := h, stamp, time := s.clock } := by
  unfold intentBack
  rw [if_pos (by simp [onIntent, hqueued, hname])]
  refine ⟨rfl, rfl, rfl, rfl, setDraw_drawEntry s.k _ s ?_⟩
  omega

/-- An INTENT that the own record no longer waits for is answered by a WITHDRAW. -/
theorem intentBack_withdraws {f : TxFrame} {s : State} (h : s.du.own.state ≠ .queued ∨ s.du.own.intentId ≠ some f.id)
    (n hole : Nat) (stamp : Stamp) :
    (s.intentBack f n hole stamp).du.own.state = s.du.own.state ∧ (s.intentBack f n hole stamp).du.own.announced = true
    ∧ (s.intentBack f n hole stamp).du.table = s.du.table
    ∧ (s.intentBack f n hole stamp).offered .du (.draw .withdraw 0 hole) := by
  unfold intentBack
  have hnot : ¬ (decide (s.du.own.state = .queued) && decide (s.du.own.intentId = some f.id)) = true := by
    simp only [Bool.and_eq_true, decide_eq_true_eq]
    tauto
  dsimp only [onIntent]
  rw [if_neg hnot, offerDraw]
  refine ⟨?_, ?_, ?_, offer_offered _ _ _⟩
  all_goals rw [offer_du]

end State

open State in
/-- Settles O45, by the body of the frame and, for a ZONE frame, the state of the zone. -/
theorem ownersActOnReadBack : Obligations.OwnersActOnReadBack := by
  refine ⟨fun f s => ⟨fun p hf => ?_, fun c hf hc => ?_, fun r hf hc => ?_, fun r c hf hc hne => ?_, fun m hf howner => ?_,
      fun m c hf howner hc => ?_, fun d r q w hf hvoid hrole hprober => ?_, fun n h hf hqueued hname hone htable => ?_,
      fun n h hf hother => ?_, fun d r q w hf hvoid => ?_, fun n h hf hmark => ?_⟩,
    fun f side s hvoid => ⟨fun hf hs => ?_, fun hf hs => ?_, fun hf hs => ?_, fun hf hs => ?_, fun i hf hs hsent hdual hi => ?_,
      fun hf hs => ?_, fun hf hs hsent hdual hblocks => ?_, fun hf hother => ?_, fun hf hs hsent hdual hplan hblocks => ?_⟩⟩
  · rw [ownerBack, hf]
    rfl
  · rw [ownerBack, hf]
    exact (closeClaim_of_claim hc f).trans (if_pos (by simp [closesClaim, hf]))
  · rw [ownerBack, hf]
    exact (closeClaim_of_claim hc f).trans (if_pos (by simp [closesClaim, hf]))
  · rw [ownerBack, hf]
    exact (closeClaim_of_claim hc f).trans (if_neg (by simp [closesClaim, hf, hne]))
  · rw [ownerBack, hf]
    exact closeClaim_other fun c => by simp [closesClaim, hf, howner]
  · rw [ownerBack, hf]
    exact (closeClaim_of_claim hc f).trans (if_congr (by simp [closesClaim, hf, howner]) rfl rfl)
  · rw [ownerBack, hf]
    dsimp only
    rw [hvoid, if_neg Bool.false_ne_true]
    exact datumBack_own hrole hprober r q _
  · rw [ownerBack, hf]
    exact intentBack_settles hqueued hname hone htable n h _
  · rw [ownerBack, hf]
    exact intentBack_withdraws hother n h _
  · rw [ownerBack, hf]
    exact if_pos hvoid
  · have hback : s.ownerBack f = s.announceBack f := by
      rcases hf with hf | hf <;> rw [ownerBack, hf]
    rw [hback]
    exact if_pos hmark
  · rw [ownerBack, hf]
    exact seizeBack_holds hvoid hs _
  · rw [ownerBack, hf]
    exact seizeBack_granted hvoid hs _
  · rw [ownerBack, hf]
    dsimp only
    obtain ⟨-, -, hother, -⟩ := seizeBack_cases (s := s) (side := side) hvoid s.lc.stamp
    rw [hother hs]
    exact outstandingBack_requested f side s
  · rw [ownerBack, hf]
    dsimp only
    obtain ⟨-, -, -, hrests⟩ := seizeBack_cases (s := s) (side := side) hvoid s.lc.stamp
    rw [hrests hs, outstandingBack_zone]
  · rw [ownerBack, hf]
    exact releaseBack_dual hs hsent hdual hi
  · rw [ownerBack, hf]
    dsimp only
    rw [requestBack_heldOther hvoid hs]
    exact outstandingBack_requested f side s
  · rw [ownerBack, hf]
    exact releaseBack_blocked hs hsent hdual hblocks
  · rw [ownerBack, hf]
    exact releaseBack_other hother
  · rw [ownerBack, hf]
    exact ⟨releaseBack_yields hs hsent hdual hplan hblocks, releaseBack_frees hs hsent hdual hplan hblocks⟩

end Sys2Proof.Machine
end

section
/-! PROOFS. The tables through every step, and the timers of the presence interval, the datums and the prober (R25, R28, R31, R53). -/

namespace Sys2Proof.Machine

open Sys2Proof (Byte Word Data Stamp Datum Side Instr)

/-! ### The tables through every command (R60, R68, R147) -/

theorem State.hearBytes_tables (l : List Byte) (s : State) (hs : s.tablesWhole) : (s.hearBytes l).tablesWhole := by
  induction l generalizing s with
  | nil => exact hs
  | cons b l ih => exact ih _ (s.hearByte_tables b hs)

/-- Every command keeps the entries of the eight stations and the order of every zone's bounds. -/
theorem exec_tables {s : State} (hs : s.tablesWhole) (c : Instr) : ∃ t : State, exec c s = .next t ∧ t.tablesWhole := by
  have settled : ∀ {u : State}, u.tablesWhole →
      ∃ t : State, Host.Outcome.next u.settle = (.next t : Host.Outcome State Fault Refusal) ∧ t.tablesWhole :=
    fun {u} hu => ⟨u.settle, rfl, u.settle_tables hu⟩
  cases c with
  | powerOn => exact ⟨_, rfl, rfl, rfl, fun side b h => by cases side <;> cases h⟩
  | jigClosed => exact settled (s.jigCloses_tables hs)
  | jigOpen => exact settled (s.jigOpens_tables hs)
  | stationReset w => exact settled (State.stationClear_tables { s with lines.resetHighUntil := s.clock + w } hs)
  | ack w => exact ⟨_, rfl, State.acknowledge_tables { s with lines.ackHighUntil := s.clock + w } hs⟩
  | effectorReadyFall w => exact settled (State.readyFalls_tables w s hs)
  | serviceByte b => exact ⟨_, rfl, s.hearByte_tables b hs⟩
  | writeSetup l | readSetup l | loadPlanHeader l | loadPlanGroup l | loadPlanHole l | commitPlan l | readStatus l | readHole l
  | readPeer l | readEvents l | errorClear l | stationClear l | reworkHole l => exact ⟨_, rfl, s.hearBytes_tables l hs⟩
  | serviceByteGap => exact ⟨_, rfl, State.expire_tables _ (effect := State.dropPartial) (fun _ h => h) s hs⟩
  | serviceLineQuiet => exact ⟨_, rfl, State.expire_tables _ (effect := State.lineQuiet) (fun _ h => h) s hs⟩
  | answerSent =>
    refine ⟨_, rfl, ?_⟩
    unfold State.answerEnds
    split <;> exact hs
  | frameDiscarded f | presenceReceived f | datumReceived f | claimReceived f | releaseReceived f | reportDrilledReceived f
  | reportSetReceived f | reportRejectedReceived f | correctionReceived f | reworkCorrectionReceived f | zoneSeizeReceived f
  | zoneReleaseReceived f | zoneRequestReceived f | drawIntentReceived f | drawDoneReceived f | drawWithdrawReceived f =>
    exact settled (State.hearFrame_tables f s hs)
  | transmitStart q => exact ⟨_, rfl, State.transmit_tables q s hs⟩
  | attemptFailed => exact settled (s.failAttempt_tables hs)
  | presenceReadBack | datumReadBack | claimReadBack | releaseReadBack | reportReadBack | correctionReadBack | zoneSeizeReadBack
  | zoneRequestReadBack | zoneReleaseReadBack | drawIntentReadBack | drawWithdrawReadBack | drawDoneReadBack =>
    exact settled (State.readBack_tables _ s hs)
  | presenceIntervalExpiry => exact settled (State.expire_tables _ State.presenceExpires_tables s hs)
  | datumExpiry d => exact settled (State.expire_tables _ (State.expireDatum_tables d) s hs)
  | proberAgeDue => exact settled (State.expire_tables _ State.proberDue_tables s hs)
  | retryDeadline => exact settled (State.expire_tables _ State.retry_tables s hs)
  | peerSilent j => exact settled (State.expire_tables _ (State.silence_tables j) s hs)
  | peerLost j => exact settled (State.expire_tables _ (State.loseAfterSilence_tables j) s hs)
  | selfLapse side => exact settled (State.expire_tables _ (State.selfLapsed_tables side) s hs)
  | yieldDeadline side => exact settled (State.expire_tables _ (State.yieldOver_tables side) s hs)
  | drawEntryExpiry j => exact settled (State.expire_tables _ (State.emptyDraw_tables j) s hs)
  | settleDeadline => exact settled (State.expire_tables _ State.decideDraw_tables s hs)
  | waitDeadline => exact settled (State.expire_tables _ State.freshIntent_tables s hs)
  | nextPoll => exact settled (State.expire_tables _ State.askPressure_tables s hs)
  | pressureWaitLimit => exact settled (State.expire_tables _ State.limitPasses_tables s hs)
  | ownIntentRenewal => exact settled (State.expire_tables _ State.renewIntent_tables s hs)
  | clampSettleExpiry | ramRecoveryExpiry => exact settled (State.expire_tables _ (effect := id) (fun _ h => h) s hs)
  | resumeRise => exact settled (s.resumeRises_tables hs)
  | resumeFall => exact settled (s.resumeFalls_tables hs)
  | responseTimeout => exact settled (s.responseLate_tables hs)
  | completionDeadline => exact settled (s.completionLate_tables hs)
  | reportFlagFall => exact ⟨_, rfl, hs⟩
  | reportWord | doneReport | positionReport | thrustReport | senseReport | gaugeReport | squeezeReport | pressureReport
  | faultReport | refusedReport => exact settled (State.takeWord_tables _ _ _ s hs)

theorem State.tick_tables {s : State} (hs : s.tablesWhole) : s.tick.tablesWhole := by
  unfold State.tablesWhole State.zone State.tick at *
  exact hs

theorem step_tables {s t : State} (hs : s.tablesWhole) (h : step s = .next t) : t.tablesWhole := by
  unfold step at h
  split at h
  · obtain rfl := Host.Outcome.next.inj h
    exact State.tick_tables hs
  · rename_i c rest _
    obtain ⟨u, hu, htables⟩ := exec_tables (s := { s with pending := rest }) hs c
    obtain rfl := Host.Outcome.next.inj (hu.symm.trans h)
    exact htables

namespace State

/-- A timer that is running acts at its time. -/
theorem expire_some {due : Option Nat} {t : Nat} (h : due = some t) (effect : State → State) (s : State) :
    s.expire due effect = effect (s.reach t) := by
  rw [h, expire]

/-! ### The presence interval (R53, R54) -/

theorem exec_presenceIntervalExpiry {s : State} {t : Nat} (hon : s.ws.state.online = true) (ht : s.lc.timer = some t) :
    exec .presenceIntervalExpiry s = .next (State.settle
      { s with clock := max s.clock t, lc.slot := some s.presenceNow, lc.promoted := s.lc.promoted || s.lc.due,
               lc.due := true, lc.timer := some (max s.clock t + s.cfg.presenceInterval) }) := by
  have hdue : s.presenceDueAt = some t := by rw [presenceDueAt, if_pos hon, ht]
  exact congrArg (fun u => Host.Outcome.next (settle u)) (expire_some hdue presenceExpires s)

theorem presenceNow_target_cycle {s : State} {cy : Cycle} {t : Nat} (hcy : s.cs.cycle = some cy) (ht : cy.task = .placed (.travel t)) :
    s.presenceNow.target = t := by
  have h : s.cycleTravel = some t := by
    rw [cycleTravel, hcy, Option.bind_some, ht]
  rw [presenceNow, travelTarget, h]
  rfl

theorem presenceNow_target_lone {s : State} {l : Lone} (hl : s.cs.lone = some l) (hplaced : l.placed = true) (hcy : s.cs.cycle = none) :
    s.presenceNow.target = l.target := by
  have h : s.loneTravel = some l.target := by
    rw [loneTravel, hl, Option.bind_some, if_pos hplaced]
  rw [presenceNow, travelTarget, h, cycleTravel, hcy]
  rfl

theorem presenceNow_target_rest {s : State} (hcy : ∀ cy t, s.cs.cycle = some cy → cy.task ≠ .placed (.travel t))
    (hl : ∀ l, s.cs.lone = some l → l.placed = false) : s.presenceNow.target = s.own := by
  have hcycle : s.cycleTravel = none := by
    rw [cycleTravel, Option.bind_eq_none_iff]
    intro cy h
    split
    · exact absurd ‹_› (hcy cy _ h)
    · rfl
  have hlone : s.loneTravel = none := by
    rw [loneTravel, Option.bind_eq_none_iff]
    intro l h
    rw [hl l h, if_neg Bool.false_ne_true]
  rw [presenceNow, travelTarget, hcycle, hlone]
  rfl

/-! ### The datum life (R25, R28, R33) -/

/-- Without two VALID records there is no correction and no concern (R33, R39). -/
theorem computeCorrection_none {d : Datum} {s : State} (h : (s.pu.record d).status ≠ .valid) :
    s.computeCorrection = { s with pu.correction := none, pu.concern := none } := by
  unfold computeCorrection
  split
  · rename_i ha hb
    cases d with
    | a => exact absurd (congrArg DatumRecord.status ha) h
    | b => exact absurd (congrArg DatumRecord.status hb) h
  · rfl

theorem proberDue_record (d : Datum) (s : State) : s.proberDue.pu.record d = s.pu.record d := by
  unfold proberDue
  split
  · exact setProber_record _ _ _ d s
  · rfl

/-- A prober that turns DUE leaves all but its own record. -/
theorem proberDue_frame (s : State) : s.proberDue = { s with pu.prober := s.proberDue.pu.prober } := by
  unfold proberDue setProber
  split
  · split <;> rfl
  · rfl

theorem proberDue_of_current {s : State} (h : s.proberStatus = some .current) : s.proberDue.proberStatus = some .due := by
  rw [proberDue, if_pos h]
  refine setProber_status (fun hnone => ?_) .due none none
  rw [proberStatus, hnone] at h
  cases h

/-- The record expired, before the prober looks at it. -/
def datumExpired (d : Datum) (s : State) : State :=
  computeCorrection (raise .datumExpired (s.setRecord d { s.pu.record d with status := .expired }))

theorem datumExpired_eq (d : Datum) (s : State) : s.datumExpired d
    = { raise .datumExpired (s.setRecord d { s.pu.record d with status := .expired }) with pu.correction := none, pu.concern := none } := by
  refine computeCorrection_none (d := d) ?_
  rw [raise_pu, setRecord_record]
  exact fun h => nomatch h

theorem expireDatum_eq {d : Datum} {s : State} (h : (s.pu.record d).status = .valid) :
    s.expireDatum d = if s.cfg.role.datum = some d then (s.datumExpired d).proberDue else s.datumExpired d := by
  have hcfg : (s.datumExpired d).cfg = s.cfg := by
    rw [datumExpired, cfg, computeCorrection_setup, raise_setup, setRecord_setup, cfg]
  unfold expireDatum
  dsimp only
  rw [if_pos h]
  show (if (s.datumExpired d).cfg.role.datum = some d then _ else _) = _
  rw [hcfg]
  rfl

/-- But for the prober, an expired record leads to the same state at every station. -/
theorem expireDatum_frame {d : Datum} {s : State} (h : (s.pu.record d).status = .valid) :
    s.expireDatum d = { s.datumExpired d with pu.prober := (s.expireDatum d).pu.prober } := by
  rw [expireDatum_eq h]
  split
  · exact proberDue_frame _
  · rfl

theorem datumExpired_record {d : Datum} {f : DatumFix} {s : State} (h : s.pu.record d = ⟨.valid, some f⟩) :
    (s.datumExpired d).pu.record d = ⟨.expired, some f⟩ := by
  rw [datumExpired, computeCorrection_record, raise_pu, setRecord_record, h]

end State

end Sys2Proof.Machine
end

section
/-! PROOFS. The expiries of the datums, of the prober and of the peers (R25, R28, R31, R60, R61, R79, R80). -/

namespace Sys2Proof.Machine

open Sys2Proof (Byte Word Data Stamp Datum Side Instr)

namespace State

/-! ### The datums and the prober (R25, R28, R31) -/

/-- What an expired record leads to. -/
theorem expireDatum_expires {d : Datum} {f : DatumFix} {s : State} (h : s.pu.record d = ⟨.valid, some f⟩) :
    (s.expireDatum d).pu.record d = ⟨.expired, some f⟩ ∧ (s.expireDatum d).pu.correction = none
    ∧ (s.expireDatum d).pu.concern = none ∧ (s.expireDatum d).clock = s.clock
    ∧ (s.expireDatum d).eu.sources = (s.raise .datumExpired).eu.sources := by
  have hvalid : (s.pu.record d).status = .valid := congrArg DatumRecord.status h
  refine ⟨?_, ?_⟩
  · rw [expireDatum_eq hvalid]
    split
    · rw [proberDue_record, datumExpired_record h]
    · exact datumExpired_record h
  · rw [expireDatum_frame hvalid, datumExpired_eq]
    cases d <;> exact ⟨rfl, rfl, rfl, rfl⟩

/-- A CURRENT prober of the expired datum is DUE. -/
theorem expireDatum_prober {d : Datum} {s : State} (h : (s.pu.record d).status = .valid) (hrole : s.cfg.role.datum = some d)
    (hcurrent : s.proberStatus = some .current) : (s.expireDatum d).proberStatus = some .due := by
  rw [expireDatum_eq h, if_pos hrole]
  refine proberDue_of_current ?_
  rw [proberStatus, datumExpired, (computeCorrection_pu _).2.2, raise_pu, setRecord_prober]
  exact hcurrent

theorem setProber_frame (st : ProberStatus) (t : Option Nat) (m : Option (Nat × Nat)) (s : State) :
    s.setProber st t m = { s with pu.prober := (s.setProber st t m).pu.prober } := by
  unfold setProber
  split <;> rfl

theorem ownRecordYoung_iff (s : State) : s.ownRecordYoung = true
    ↔ ∃ f, s.ownRecord = some ⟨.valid, some f⟩ ∧ 4 * (s.clock - f.time) < 3 * s.cfg.datumLife := by
  unfold ownRecordYoung
  split
  · rename_i f hf
    rw [decide_eq_true_eq, hf]
    refine ⟨fun h => ⟨f, rfl, h⟩, ?_⟩
    rintro ⟨g, hg, h⟩
    simp only [Option.some.injEq, DatumRecord.mk.injEq, true_and] at hg
    exact hg ▸ h
  · rename_i hno
    refine iff_of_false Bool.false_ne_true ?_
    rintro ⟨f, hf, -⟩
    exact hno f hf

/-- A retry deadline passed makes the prober DUE, or CURRENT where its record is still young (R31). -/
theorem retry_status {s : State} (h : s.pu.prober ≠ none) :
    (s.retry.proberStatus = some .due ∨ s.retry.proberStatus = some .current)
    ∧ (s.retry.proberStatus = some .current ↔ s.ownRecordYoung = true) := by
  rw [retry, setProber_status h]
  cases s.ownRecordYoung <;> simp

theorem retry_clock (s : State) : s.retry.clock = s.clock := by
  rw [retry, setProber_frame]

theorem retry_ownRecord (s : State) : s.retry.ownRecord = s.ownRecord := by
  rw [retry, setProber_frame, ownRecord, ownRecord]
  refine congrArg (Option.map · s.cfg.role.datum) (funext fun d => ?_)
  cases d <;> rfl

/-! ### A peer's status (R60, R61) -/

/-- A peer of another status, the rest of its entry as it was. -/
def withStatus (j : Nat) (st : PeerStatus) (s : State) : State := s.setPeer j { s.peer j with status := st }

theorem withStatus_info (j : Nat) (st : PeerStatus) (n : Nat) (s : State) : ((s.withStatus j st).peer n).info = (s.peer n).info := by
  unfold withStatus peer setPeer
  dsimp only
  rw [List.getD_eq_getElem?_getD, List.getD_eq_getElem?_getD, List.getD_eq_getElem?_getD, List.getElem?_set]
  split
  · rename_i hn
    rw [hn]
    split
    · rfl
    · rw [List.getElem?_eq_none (by omega)]
  · rfl

theorem withStatus_peer {j : Nat} {s : State} (hone : 1 ≤ j) (hj : j ≤ s.pt.peers.length) (st : PeerStatus) :
    (s.withStatus j st).peer j = { s.peer j with status := st } := setPeer_peer j _ s (by omega)

theorem withStatus_sideInfo (j : Nat) (st : PeerStatus) (side : Side) (s : State) :
    (s.withStatus j st).sideInfo side = s.sideInfo side := by
  have hinfo := fun n => withStatus_info j st n s
  simp only [sideInfo, hinfo]
  rfl

theorem blocks_congr {side : Side} {s t : State} (hps : t.ps = s.ps) (hinfo : t.sideInfo side = s.sideInfo side)
    (hbounds : (t.zone side).bounds = (s.zone side).bounds) : t.blocks side = s.blocks side := by
  have hcheck : t.planCheck = s.planCheck := by rw [planCheck, hps, planCheck]
  have hplan : t.planDiffers side = s.planDiffers side := by rw [planDiffers, hinfo, hcheck, planDiffers]
  have hinside : t.neighbourInside side = s.neighbourInside side := by rw [neighbourInside, hinfo, hbounds, neighbourInside]
  rw [blocks, hplan, hinside, hinfo, blocks]

theorem withStatus_blocks (j : Nat) (st : PeerStatus) (side : Side) (s : State) :
    (s.withStatus j st).blocks side = s.blocks side := blocks_congr rfl (withStatus_sideInfo j st side s) rfl

theorem sideInfo_of_sideOf {j : Nat} {side : Side} {s : State} (h : s.cfg.sideOf j = some side) : s.sideInfo side = (s.peer j).info := by
  have hneighbour : s.cfg.neighbour side = some j := by
    unfold Setup.sideOf at h
    split at h
    · cases h
      assumption
    · split at h
      · cases h
        assumption
      · cases h
  rw [sideInfo, hneighbour, Option.bind_some]

/-! ### A neighbour falls silent (R79, R80) -/

theorem neighbourSilent_linkStep (side : Side) (s : State) : LinkStep s (s.neighbourSilent side) := by
  unfold neighbourSilent
  dsimp only
  refine LinkStep.trans ?_ (applyBlock_linkStep side _)
  split
  · exact (dropOutstanding_linkStep side s).trans (zoneChange_linkStep side _ _)
  · exact (dropOutstanding_linkStep side s).trans (zoneChange_linkStep side _ _)
  · exact .refl s

/-- A holder that falls silent gives the zone up. -/
theorem neighbourSilent_holder {side : Side} {i : PeerInfo} {b : Nat × Nat} {s : State}
    (hs : (s.zone side).state = .heldOther ∨ (s.zone side).state = .requested) (hi : s.sideInfo side = some i)
    (hb : (s.zone side).bounds = some b) :
    s.neighbourSilent side = ((s.dropOutstanding side).zoneChange side
      (if s.cfg.gap ≤ intervalGap i.interval b then .free else .blocked)).applyBlock side := by
  unfold neighbourSilent
  rcases hs with hs | hs <;> rw [hs, hi, hb]

theorem neighbourSilent_other {side : Side} {s : State} (h1 : (s.zone side).state ≠ .heldOther)
    (h2 : (s.zone side).state ≠ .requested) : s.neighbourSilent side = s.applyBlock side := by
  unfold neighbourSilent
  dsimp only
  split
  · exact absurd ‹_› h1
  · exact absurd ‹_› h2
  · rfl

theorem intervalGap_iff {i : PeerInfo} {b : Nat × Nat} (hb : b.1 ≤ b.2) (g : Nat) : g ≤ intervalGap i.interval b
    ↔ g = 0 ∨ max i.position i.target + g ≤ b.1 ∨ b.2 + g ≤ min i.position i.target := by
  unfold intervalGap PeerInfo.interval
  dsimp only
  split
  · omega
  · split <;> omega

/-- A zone given up by a silent holder: FREE where its last interval keeps the minimum gap, BLOCKED otherwise. -/
theorem neighbourSilent_holder_zone {side : Side} {i : PeerInfo} {b : Nat × Nat} {s : State}
    (hs : (s.zone side).state = .heldOther ∨ (s.zone side).state = .requested) (hi : s.sideInfo side = some i)
    (hb : (s.zone side).bounds = some b) (hle : b.1 ≤ b.2) :
    ((s.neighbourSilent side).zone side).state
      = (if (s.cfg.gap = 0 ∨ max i.position i.target + s.cfg.gap ≤ b.1 ∨ b.2 + s.cfg.gap ≤ min i.position i.target)
          ∧ s.blocks side = false then .free else .blocked)
    ∧ ((s.neighbourSilent side).zone side).releaseHeard = false
    ∧ (s.inFlight (s.zone side).frameId = false → ((s.neighbourSilent side).zone side).outstanding = .no) := by
  have hdropped : (s.dropOutstanding side).blocks side = s.blocks side :=
    blocks_of_linkStep (dropOutstanding_linkStep side s) (dropOutstanding_zoneAlone side s)
  have hchanged := fun st => blocks_of_linkStep (zoneChange_linkStep side st (s.dropOutstanding side))
    (zoneChange_zoneAlone side st (s.dropOutstanding side))
  rw [neighbourSilent_holder hs hi hb]
  refine ⟨?_, applyBlock_releaseHeard (zoneChange_releaseHeard ?_ _), fun hflight =>
    applyBlock_outstanding (zoneChange_outstanding (dropOutstanding_free hflight) _)⟩
  · simp only [← intervalGap_iff hle]
    rw [applyBlock_state, hchanged, zoneChange_state, hdropped]
    cases s.blocks side <;> split <;> simp_all [ZoneState.blockable]
  · split <;> exact fun h => nomatch h

theorem neighbourSilent_other_zone {side : Side} {s : State} (h1 : (s.zone side).state ≠ .heldOther)
    (h2 : (s.zone side).state ≠ .requested) : ((s.neighbourSilent side).zone side).state
      = if ((s.zone side).state = .free ∨ (s.zone side).state = .yielding) ∧ s.blocks side = true then .blocked
        else (s.zone side).state := by
  rw [neighbourSilent_other h1 h2, applyBlock_state]
  refine if_congr ?_ rfl rfl
  cases h : (s.zone side).state <;> simp_all [ZoneState.blockable]

theorem silence_eq {j : Nat} {side : Side} {s : State} (h : s.cfg.sideOf j = some side) :
    s.silence j = (s.withStatus j .silent).neighbourSilent side := by
  have hside : (s.withStatus j .silent).cfg.sideOf j = some side := h
  unfold silence
  dsimp only
  rw [← withStatus, hside]

/-- A peer that falls silent: its entry, and what the zone on its side makes of it. -/
theorem silence_linkStep (j : Nat) (s : State) : LinkStep (s.withStatus j .silent) (s.silence j) := by
  unfold silence
  dsimp only
  rw [← withStatus]
  split
  · exact neighbourSilent_linkStep _ _
  · exact .refl _

/-- What a peer's silence does, whatever the zone on its side makes of it. -/
theorem silence_peer {j : Nat} {s : State} (hone : 1 ≤ j) (hpeers : j ≤ s.pt.peers.length) :
    (s.silence j).peer j = { s.peer j with status := .silent } ∧ (s.silence j).clock = s.clock := by
  have hlink := silence_linkStep j s
  exact ⟨by rw [peer, hlink.pt]; exact withStatus_peer hone hpeers .silent, hlink.clock⟩

/-- The zone of a holder that falls silent. -/
theorem silence_holder_zone {j : Nat} {side : Side} {i : PeerInfo} {b : Nat × Nat} {s : State} (hside : s.cfg.sideOf j = some side)
    (hpeer : (s.peer j).info = some i) (hs : (s.zone side).state = .heldOther ∨ (s.zone side).state = .requested)
    (hb : (s.zone side).bounds = some b) (hle : b.1 ≤ b.2) :
    ((s.silence j).zone side).state
      = (if (s.cfg.gap = 0 ∨ max i.position i.target + s.cfg.gap ≤ b.1 ∨ b.2 + s.cfg.gap ≤ min i.position i.target)
          ∧ s.blocks side = false then .free else .blocked)
    ∧ ((s.silence j).zone side).releaseHeard = false
    ∧ (s.inFlight (s.zone side).frameId = false → ((s.silence j).zone side).outstanding = .no) := by
  have hinfo : (s.withStatus j .silent).sideInfo side = some i := by
    rw [withStatus_sideInfo, sideInfo_of_sideOf hside, hpeer]
  rw [silence_eq hside, ← withStatus_blocks j .silent side s]
  exact neighbourSilent_holder_zone (s := s.withStatus j .silent) hs hinfo hb hle

/-- Another zone on the side of a peer that falls silent. -/
theorem silence_other_zone {j : Nat} {side : Side} {s : State} (hside : s.cfg.sideOf j = some side)
    (h1 : (s.zone side).state ≠ .heldOther) (h2 : (s.zone side).state ≠ .requested) : ((s.silence j).zone side).state
      = if ((s.zone side).state = .free ∨ (s.zone side).state = .yielding) ∧ s.blocks side = true then .blocked
        else (s.zone side).state := by
  rw [silence_eq hside, ← withStatus_blocks j .silent side s]
  exact neighbourSilent_other_zone (s := s.withStatus j .silent) h1 h2

/-! ### A peer is lost (R21, R61, R79, R150) -/

theorem removal_frame (s : State) : s.removal = { s with lc := s.removal.lc, du := s.removal.du }
    ∧ s.removal.du.table = s.du.table := by
  have queued : ∀ t : State, t.queueIntent = { t with lc := t.queueIntent.lc, du := t.queueIntent.du }
      ∧ t.queueIntent.du.table = t.du.table := fun t => by
    unfold queueIntent offerDraw onIntent
    dsimp only
    constructor <;> rw [offer_eq]
  unfold removal
  split
  · unfold freshIntent
    split
    · split
      · unfold replaceFrame
        split <;> exact ⟨rfl, rfl⟩
      · exact queued s
    · exact queued s
  · exact ⟨rfl, rfl⟩

/-- An entry emptied touches LC's and DU's records only. -/
theorem emptyDraw_frame (j : Nat) (s : State) : s.emptyDraw j = { s with lc := (s.emptyDraw j).lc, du := (s.emptyDraw j).du } := by
  unfold emptyDraw
  split
  · rfl
  · exact (removal_frame (s.setDraw j none)).1

theorem emptyDraw_drawEntry {j : Nat} {s : State} (hj : j - 1 < s.du.table.length) : (s.emptyDraw j).drawEntry j = none := by
  unfold emptyDraw
  split
  · assumption
  · rw [drawEntry, (removal_frame (s.setDraw j none)).2]
    exact setDraw_drawEntry j none s hj

/-- No entry is claimed by a peer once its claims have been reconciled to none. -/
theorem reconcileClaims_none_claimedBy {j : Nat} {s : State} {e : HoleEntry} (he : e ∈ (s.reconcileClaims j none).ht) :
    e.claimedBy j = false := by
  obtain ⟨n, hn⟩ := List.mem_iff_getElem?.mp he
  rw [reconcileClaims_ht (claim := none) (by simp), Option.map_eq_some_iff] at hn
  obtain ⟨x, -, rfl⟩ := hn
  unfold HoleEntry.reconciled
  split
  · unfold HoleEntry.revert
    cases hx : x.state <;> simp [HoleEntry.claimedBy, HoleState.claimed, hx]
  · simp_all

/-- The state in which ZC looks at the zone of a peer lost. -/
def lostPeer (j : Nat) (s : State) : State :=
  State.emptyDraw j (((s.withStatus j .lost).raise .neighbourLost).reconcileClaims j none)

theorem lostPeer_frame (j : Nat) (s : State) : s.lostPeer j
    = { (s.withStatus j .lost).raise .neighbourLost with
        lc := (s.lostPeer j).lc, du := (s.lostPeer j).du, ht := (s.lostPeer j).ht, ws.retest := (s.lostPeer j).ws.retest } := by
  unfold lostPeer
  rw [emptyDraw_frame, reconcileClaims_frame]

theorem lose_of_side {j : Nat} {side : Side} {s : State} (h : s.cfg.sideOf j = some side) : s.lose j = (s.lostPeer j).applyBlock side := by
  have hside : (s.lostPeer j).cfg.sideOf j = some side := by
    rw [lostPeer_frame]
    exact h
  unfold lose
  dsimp only
  rw [show emptyDraw j (reconcileClaims j none (raise .neighbourLost (s.setPeer j ⟨.lost, (s.peer j).info⟩))) = s.lostPeer j from rfl,
    hside]

theorem lose_linkStep (j : Nat) (s : State) : LinkStep (s.lostPeer j) (s.lose j) := by
  unfold lose
  dsimp only
  split
  · exact applyBlock_linkStep _ _
  · exact .refl _

theorem lostPeer_zone (j : Nat) (side : Side) (s : State) : (s.lostPeer j).zone side = s.zone side := by
  rw [lostPeer_frame]
  rfl

theorem lostPeer_blocks (j : Nat) (side : Side) (s : State) : (s.lostPeer j).blocks side = s.blocks side := by
  refine blocks_congr ?_ ?_ (by rw [lostPeer_zone])
  · rw [lostPeer_frame]
    rfl
  · rw [lostPeer_frame]
    exact withStatus_sideInfo j .lost side s

/-- What the loss of a peer does, whatever the zone on its side makes of it. -/
theorem lose_peer {j : Nat} {s : State} (hone : 1 ≤ j) (hpeers : j ≤ s.pt.peers.length) (htable : j ≤ s.du.table.length) :
    (s.lose j).peer j = { s.peer j with status := .lost } ∧ (s.lose j).clock = s.clock ∧ (s.lose j).drawEntry j = none
    ∧ (∀ e ∈ (s.lose j).ht, e.claimedBy j = false) ∧ (s.lose j).eu.sources = (s.raise .neighbourLost).eu.sources := by
  have hlink := lose_linkStep j s
  refine ⟨?_, ?_, ?_, fun e he => ?_, ?_⟩
  · rw [peer, hlink.pt, lostPeer_frame]
    exact withStatus_peer hone hpeers .lost
  · rw [hlink.clock, lostPeer_frame]
    rfl
  · rw [drawEntry, hlink.du]
    refine emptyDraw_drawEntry ?_
    rw [reconcileClaims_frame]
    show j - 1 < s.du.table.length
    omega
  · have hunowed : e.unowed ∈ (s.lostPeer j).ht.map HoleEntry.unowed := hlink.unowed_ht ▸ List.mem_map_of_mem he
    obtain ⟨x, hx, hxe⟩ := List.mem_map.mp hunowed
    rw [lostPeer, emptyDraw_frame] at hx
    have hx' := reconcileClaims_none_claimedBy hx
    rwa [show x.claimedBy j = x.unowed.claimedBy j from rfl, hxe] at hx'
  · rw [hlink.eu, lostPeer_frame]
    rfl

/-- The zone on the side of a peer lost. -/
theorem lose_zone {j : Nat} {side : Side} {s : State} (h : s.cfg.sideOf j = some side) : ((s.lose j).zone side).state
    = if (s.zone side).state ≠ .noZone ∧ (s.zone side).state ≠ .heldOwn ∧ s.blocks side = true then .blocked
      else (s.zone side).state := by
  rw [lose_of_side h, applyBlock_state, lostPeer_zone, lostPeer_blocks]
  cases hs : (s.zone side).state <;> simp [ZoneState.blockable]

/-- A peer not yet counted SILENT passes through SILENT: nothing that the loss looks at is touched by that. -/
theorem loseAfterSilence_eq {j : Nat} {i : PeerInfo} {s : State} (h : s.peer j = ⟨.silent, some i⟩ ∨ s.peer j = ⟨.heard, some i⟩) :
    ∃ x : State, s.loseAfterSilence j = x.lose j ∧ (s.peer j = ⟨.silent, some i⟩ → x = s)
      ∧ x.clock = s.clock ∧ x.du = s.du ∧ x.eu = s.eu ∧ x.levels = s.levels ∧ x.pt.peers.length = s.pt.peers.length
      ∧ (x.peer j).info = some i := by
  rcases h with h | h
  · exact ⟨s, by simp [loseAfterSilence, h], fun _ => rfl, rfl, rfl, rfl, rfl, rfl, by rw [h]⟩
  · have hlink := silence_linkStep j s
    refine ⟨s.silence j, by simp [loseAfterSilence, h], fun h' => ?_, hlink.clock, hlink.du, hlink.eu, ?_, ?_, ?_⟩
    · rw [h] at h'
      cases h'
    · rw [levels, hlink.setup]
      rfl
    · rw [hlink.pt]
      exact List.length_set
    · rw [peer, hlink.pt]
      exact (withStatus_info j .silent j s).trans (by rw [h])

end State

open State in
/-- Settles O47, timer by timer. -/
theorem linkAndPeerTimers : Obligations.LinkAndPeerTimers := by
  refine ⟨⟨rfl, rfl, fun side b h => by cases side <;> cases h⟩, fun s => ⟨fun t => step_tables, fun t => exec_presenceIntervalExpiry,
    fun d f hrecord => ?_, fun f hcurrent hrecord => ?_, fun t m hprober => ?_, fun j i hon hother hpeers hpeer => ?_,
    fun j i hon hother hpeers htable hpeer => ?_, rfl, rfl, rfl, rfl, rfl, rfl, rfl, rfl, decide_eq_true_iff, decide_eq_true_iff,
    decide_eq_true_iff, decide_eq_true_iff, fun cy t => presenceNow_target_cycle, fun l => presenceNow_target_lone,
    presenceNow_target_rest⟩⟩
  · have hdue : s.datumDueAt d = some (f.time + s.cfg.datumLife + 1) := by rw [datumDueAt, hrecord]
    obtain ⟨hnow, hcorrection, hconcern, hclock, hsources⟩ :=
      expireDatum_expires (s := s.reach (f.time + s.cfg.datumLife + 1)) (d := d) hrecord
    refine ⟨_, congrArg (fun u => Host.Outcome.next (settle u)) (expire_some hdue _ s), hnow, hcorrection, hconcern, ?_,
      fun x hx => ?_, expireDatum_prober (s := s.reach _) (congrArg DatumRecord.status hrecord)⟩
    · rw [hclock]
      show s.cfg.datumLife < max s.clock (f.time + s.cfg.datumLife + 1) - f.time
      omega
    · rw [hsources]
      exact raise_source .datumExpired (s := s.reach _) hx
  · have hdue : s.proberDueAt = some (f.time + ceilDiv (3 * s.cfg.datumLife) 4) := by rw [proberDueAt, hcurrent, hrecord]
    refine ⟨_, congrArg (fun u => Host.Outcome.next (settle u)) (expire_some hdue _ s), proberDue_of_current (s := s.reach _) hcurrent,
      ?_, proberDue_record .a _, proberDue_record .b _⟩
    rw [proberDue_frame]
    have hage := (ceilDiv_le_iff (n := 3 * s.cfg.datumLife) (d := 4) (by decide) _).mp le_rfl
    show 3 * s.cfg.datumLife ≤ 4 * (max s.clock (f.time + ceilDiv (3 * s.cfg.datumLife) 4) - f.time)
    omega
  · have hdue : s.retryDueAt = some t := by rw [retryDueAt, hprober]
    obtain ⟨hstatus, hcurrent⟩ := retry_status (s := s.reach t) (by rw [reach, hprober]; exact fun h => nomatch h)
    refine ⟨_, congrArg (fun u => Host.Outcome.next (settle u)) (expire_some hdue _ s), ?_, hstatus, ?_⟩
    · rw [retry_clock]
      exact le_max_right _ _
    · rw [hcurrent, ownRecordYoung_iff, retry_ownRecord, retry_clock]
      rfl
  · have hdue : s.silentDueAt j = some (i.time + s.cfg.holdPeriod) := by
      rw [silentDueAt, hon, hother, Bool.and_self, if_pos rfl, hpeer]
    have hone := ((otherStation_iff s j).mp hother).1
    obtain ⟨hsilent, hclock⟩ := silence_peer (s := s.reach (i.time + s.cfg.holdPeriod)) hone hpeers
    have hinfo : (s.peer j).info = some i := by rw [hpeer]
    refine ⟨_, congrArg (fun u => Host.Outcome.next (settle u)) (expire_some hdue _ s), ?_, ?_,
      fun side b hside hb hle hs => silence_holder_zone (s := s.reach _) hside hinfo hs hb hle,
      fun side hside h1 h2 => silence_other_zone (s := s.reach _) hside h1 h2⟩
    · rw [hsilent, ← hinfo]
      rfl
    · rw [hclock]
      show s.cfg.holdPeriod ≤ max s.clock (i.time + s.cfg.holdPeriod) - i.time
      omega
  · have hdue : s.lostDueAt j = some (i.time + s.cfg.lossPeriod) := by
      rw [lostDueAt, hon, hother, Bool.and_self, if_pos rfl]
      rcases hpeer with hpeer | hpeer <;> rw [hpeer]
    have hone := ((otherStation_iff s j).mp hother).1
    obtain ⟨x, hx, hsilent, hclock, hdu, heu, hlevels, hlength, hinfo⟩ :=
      loseAfterSilence_eq (s := s.reach (i.time + s.cfg.lossPeriod)) (j := j) (i := i) hpeer
    obtain ⟨hlost, hclock', hdraw, hclaims, hsources⟩ := lose_peer (j := j) (s := x) hone
      (hlength ▸ hpeers) (hdu ▸ htable)
    refine ⟨_, congrArg (fun u => Host.Outcome.next (settle u)) ((expire_some hdue _ s).trans hx), ?_, ?_, hdraw, hclaims,
      fun r hr => ?_, fun side hside hstill => ?_⟩
    · rw [hlost, ← hinfo]
    · rw [hclock', hclock]
      show s.cfg.lossPeriod ≤ max s.clock (i.time + s.cfg.lossPeriod) - i.time
      omega
    · rw [hsources]
      refine (raise_source .neighbourLost (s := x) (x := r) (by rw [heu]; exact hr)).trans ?_
      rw [hlevels]
      rfl
    · rw [hsilent hstill, lose_zone (s := s.reach _) hside]
      rfl

end Sys2Proof.Machine
end

section
/-! PROOFS. What WS wants, a choice's CLAIM offered and withdrawn, and ZC's decision to release (R39, R70, R76, R95, R99, R100). -/

namespace Sys2Proof.Machine

open Sys2Proof (Byte Word Data Stamp Datum Side Instr)

namespace State

/-! ### The rows a claim rests on (R37, R95) -/

theorem stateRow_iff (s : State) (c : Claim) : s.stateRow c = true ↔ ∃ e, s.ht[c.hole]? = some e
    ∧ (c.phase = .drill ∧ e.state = .planned ∨ c.phase = .set ∧ e.state = .drilled ∧ s.setOrder c.hole = true) := by
  unfold stateRow
  cases he : s.ht[c.hole]? with
  | none => simp
  | some e => cases hp : c.phase <;> simp

theorem inConcern_iff (s : State) (h : Nat) : s.inConcern h = true ↔ ∃ l, s.pu.concern = some l ∧ h ∈ l := by
  unfold inConcern
  cases s.pu.concern <;> simp

/-! ### What WS wants a zone for (R39, R70, R91) -/

/-- A DUE datum cycle with its rail target between these bounds. -/
def wantsDatum (b : Option (Nat × Nat)) (s : State) : Bool :=
  s.proberStatus == some .due && ((s.datumTargets.map fun t => within b t.1).getD false)

/-- A concern hole's entry whose state and set order allow a phase. -/
def workable (s : State) (h : Nat) : Bool :=
  (s.ht[h]?).any fun e => e.state == .planned || (e.state == .drilled && s.setOrder h)

/-- A concern hole between these bounds that can be worked. -/
def wantsHole (b : Option (Nat × Nat)) (s : State) : Bool :=
  (s.pu.concern.getD []).any fun h => ((s.target? h).map fun t => within b t.1).getD false && s.workable h

theorem wants_eq (side : Side) (s : State) : s.wants side
    = if s.ws.state = .working then s.wantsDatum (s.zone side).bounds || s.wantsHole (s.zone side).bounds || s.wantsForClaim side
      else if s.ws.state = .waiting ∨ s.ws.state = .finished then s.wantsDatum (s.zone side).bounds else false := by
  have hhole : ∀ h, (match s.ht[h]? with
      | none => false
      | some e => e.state == .planned || (e.state == .drilled && s.setOrder h)) = s.workable h := fun h => by
    unfold workable
    cases s.ht[h]? <;> rfl
  unfold wants wantsHole
  simp only [← hhole]
  cases s.ws.state <;> rfl

theorem wantsDatum_iff (b : Option (Nat × Nat)) (s : State) :
    s.wantsDatum b = true ↔ s.proberStatus = some .due ∧ ∃ t, s.datumTargets = some t ∧ within b t.1 = true := by
  unfold wantsDatum
  cases s.datumTargets <;> simp

theorem workable_iff (s : State) (h : Nat) :
    s.workable h = true ↔ ∃ e, s.ht[h]? = some e ∧ (e.state = .planned ∨ e.state = .drilled ∧ s.setOrder h = true) := by
  unfold workable
  cases s.ht[h]? <;> simp

theorem wantsHole_iff (b : Option (Nat × Nat)) (s : State) : s.wantsHole b = true
    ↔ ∃ l h t, s.pu.concern = some l ∧ h ∈ l ∧ s.target? h = some t ∧ within b t.1 = true ∧ s.workable h = true := by
  have htarget : ∀ h, ((s.target? h).map fun t => within b t.1).getD false = true ↔ ∃ t, s.target? h = some t ∧ within b t.1 = true :=
    fun h => by cases s.target? h <;> simp
  unfold wantsHole
  rw [List.any_eq_true]
  simp only [Bool.and_eq_true, htarget]
  constructor
  · rintro ⟨h, hmem, ⟨t, ht, hin⟩, hwork⟩
    cases hl : s.pu.concern with
    | none => simp [hl] at hmem
    | some l => exact ⟨l, h, t, rfl, by simpa [hl] using hmem, ht, hin, hwork⟩
  · rintro ⟨l, h, t, hl, hmem, ht, hin, hwork⟩
    exact ⟨h, by simpa [hl] using hmem, ⟨t, ht, hin⟩, hwork⟩

theorem wantsForClaim_iff (side : Side) (s : State) : s.wantsForClaim side = true
    ↔ ∃ x c, s.ws.selection = some x ∧ x.stage = .claimQueued ∧ x.zone = some side ∧ x.work = .hole c
      ∧ within (s.zone side).bounds x.rail = true ∧ s.stateRow c = true := by
  unfold wantsForClaim
  cases hx : s.ws.selection with
  | none => simp
  | some x => cases hw : x.work <;> simp [hw, and_assoc]

theorem wants_iff_within (side : Side) (s : State) : s.wants side = true
    ↔ (s.ws.state = .working ∨ s.ws.state = .waiting ∨ s.ws.state = .finished) ∧ s.wantsDatum (s.zone side).bounds = true
      ∨ s.ws.state = .working ∧ (s.wantsHole (s.zone side).bounds = true ∨ s.wantsForClaim side = true) := by
  rw [wants_eq]
  cases s.ws.state <;> simp [or_assoc]

theorem within_none (x : Int) : within none x = false := rfl

theorem within_some_iff (lo hi : Nat) (x : Int) : within (some (lo, hi)) x = true ↔ (lo : Int) ≤ x ∧ x ≤ hi := by
  simp [within]

/-! ### The CLAIM offered and taken back (R50, R99, R100) -/

theorem offerClaim_rests {ch : Choice} {s : State} (h : s.ws.claim ≠ none ∨ 16 < s.lc.queue.length + 4) : s.offerClaim ch = s := by
  refine if_pos ?_
  rw [Bool.or_eq_true, Option.isSome_iff_ne_none, decide_eq_true_eq]
  exact h

theorem offerClaim_offers {ch : Choice} {s : State} (hclaim : s.ws.claim = none) (hroom : s.lc.queue.length + 4 ≤ 16) :
    s.offerClaim ch = { s.offer .ws (.claim ch.claim) with
      ws.selection := some { work := .hole ch.claim, rail := ch.rail, cross := ch.cross, zone := ch.zone, stage := .claimQueued,
                             frameId := s.lc.nextId } } := by
  refine if_neg ?_
  rw [Bool.or_eq_true, Option.isSome_iff_ne_none, decide_eq_true_eq, hclaim]
  rintro (h | h)
  · exact h rfl
  · have hqueue : 16 < s.lc.queue.length + 4 := h
    omega

/-- A queued CLAIM is looked at again only at a change of its hole or zone. -/
theorem stepSelection_queued {x : Selection} {c : Claim} {s : State} (hx : s.ws.selection = some x) (hstage : x.stage = .claimQueued)
    (hwork : x.work = .hole c) : s.stepSelection
      = if s.ws.retest && !(s.inConcern c.hole && s.stateRow c && s.zoneStands x.zone) then s.dropSelection else s := by
  unfold stepSelection
  rw [hx]
  dsimp only
  rw [hstage, hwork]

theorem stepSelection_waits {x : Selection} {side : Side} {s : State} (hx : s.ws.selection = some x) (hstage : x.stage = .seizeWait)
    (hzone : x.zone = some side) :
    s.stepSelection = if (s.zone side).outstanding = .seize then s else { s with ws.selection := none } := by
  unfold stepSelection
  rw [hx]
  dsimp only
  rw [hstage, hzone]

theorem dropSelection_queued {x : Selection} {s : State} (hx : s.ws.selection = some x) (hstage : x.stage = .claimQueued) :
    s.dropSelection = if s.inFlight x.frameId then { s with ws.selection := some { x with stage := .claimWithdrawn } }
      else removeFrame x.frameId { s with ws.selection := none } := by
  unfold dropSelection
  rw [hx]
  dsimp only
  rw [hstage]

/-! ### ZC's decision to release a zone (R76) -/

theorem considerRelease_due {side : Side} {s : State} (hs : (s.zone side).state = .heldOwn) (hp : (s.zone side).progress = .no)
    (hcy : s.cs.cycle = none) (h : s.wants side = false ∨ (s.zone side).pending = true ∧ s.cfg.quota ≤ (s.zone side).cycles) :
    (s.considerRelease side).zone side = { s.zone side with progress := .due } := by
  unfold considerRelease
  rw [if_pos (by simpa [hs, hp, hcy] using h), onZone_zone]

theorem considerRelease_rests {side : Side} {s : State} (h : s.cs.cycle ≠ none ∨ s.wants side = true
    ∧ ((s.zone side).pending = false ∨ (s.zone side).cycles < s.cfg.quota)) : s.considerRelease side = s := by
  refine if_neg fun hdue => ?_
  simp only [Bool.and_eq_true, Bool.or_eq_true, Bool.not_eq_true', Option.isNone_iff_eq_none, decide_eq_true_eq] at hdue
  obtain ⟨⟨-, hcy⟩, hwants⟩ := hdue
  rcases h with h | ⟨hw, hrest⟩
  · exact h hcy
  · rcases hwants with hw' | ⟨hpending, hquota⟩
    · exact Bool.false_ne_true (hw'.symm.trans hw)
    · rcases hrest with hrest | hrest
      · exact Bool.false_ne_true (hrest.symm.trans hpending)
      · omega

end State

open State in
/-- Settles O60: the wish for a zone taken apart, then each operation by its branches. -/
theorem claimsOfferedAndWithdrawn : Obligations.ClaimsOfferedAndWithdrawn := by
  refine ⟨fun ch s => ⟨offerClaim_rests, fun hclaim hroom => ?_⟩, fun x side s => stepSelection_waits, fun side s => ?_,
    fun c z s => ⟨stateRow_iff s c, inConcern_iff s c.hole, zoneStands_iff s z⟩,
    fun side s hs hp => ⟨fun hcy hw => considerRelease_due hs hp hcy (.inl hw),
      fun hcy hpending hquota => considerRelease_due hs hp hcy (.inr ⟨hpending, hquota⟩), considerRelease_rests⟩,
    fun x c s hx hstage hwork => ⟨fun hretest => ?_, fun hconcern hrow hzone => ?_, fun hretest hno => ?_⟩⟩
  · rw [offerClaim_offers hclaim hroom]
    refine ⟨offer_offered .ws (.claim ch.claim) s, offer_ht .ws _ s, ?_, rfl⟩
    exact (congrArg WorkSelector.claim (offer_ws .ws (.claim ch.claim) s)).trans hclaim
  · rw [wants_iff_within, wantsDatum_iff, wantsHole_iff, wantsForClaim_iff]
    cases hb : (s.zone side).bounds with
    | none => simp [within_none]
    | some b =>
      obtain ⟨lo, hi⟩ := b
      simp only [within_some_iff, workable_iff, Option.some.injEq, Prod.mk.injEq]
      constructor
      · rintro (⟨hwork, hdue, t, ht, hin⟩ | ⟨hwork, ⟨l, h, t, hl, hmem, ht, ⟨hlo, hhi⟩, e, he, hrow⟩
          | ⟨x, c, hx, hstage, hzone, hc, ⟨hlo, hhi⟩, hrow⟩⟩)
        · exact ⟨lo, hi, ⟨rfl, rfl⟩, .inl ⟨hwork, hdue, t, ht, hin⟩⟩
        · exact ⟨lo, hi, ⟨rfl, rfl⟩, .inr ⟨hwork, .inl ⟨l, h, t, e, hl, hmem, ht, hlo, hhi, he, hrow⟩⟩⟩
        · exact ⟨lo, hi, ⟨rfl, rfl⟩, .inr ⟨hwork, .inr ⟨x, c, hx, hstage, hzone, hc, hlo, hhi, hrow⟩⟩⟩
      · rintro ⟨_, _, ⟨rfl, rfl⟩, ⟨hwork, hdue, t, ht, hin⟩ | ⟨hwork, ⟨l, h, t, e, hl, hmem, ht, hlo, hhi, he, hrow⟩
          | ⟨x, c, hx, hstage, hzone, hc, hlo, hhi, hrow⟩⟩⟩
        · exact .inl ⟨hwork, hdue, t, ht, hin⟩
        · exact .inr ⟨hwork, .inl ⟨l, h, t, hl, hmem, ht, ⟨hlo, hhi⟩, e, he, hrow⟩⟩
        · exact .inr ⟨hwork, .inr ⟨x, c, hx, hstage, hzone, hc, ⟨hlo, hhi⟩, hrow⟩⟩
  · rw [stepSelection_queued hx hstage hwork, hretest, Bool.false_and, if_neg Bool.false_ne_true]
  · rw [stepSelection_queued hx hstage hwork, hconcern, hrow, hzone]
    exact if_neg (by simp)
  · have hdrop : s.stepSelection = s.dropSelection := by
      rw [stepSelection_queued hx hstage hwork, hretest]
      refine if_pos ?_
      rcases hno with h | h | h <;> simp [h]
    rw [hdrop, dropSelection_queued hx hstage]
    refine ⟨fun hflight => if_pos hflight, fun hflight hid => ?_⟩
    rw [if_neg (by rw [hflight]; exact Bool.false_ne_true)]
    exact ⟨(removeFrame_linkStep x.frameId { s with ws.selection := none }).selection,
      removeFrame_gone (s := { s with ws.selection := none }) hid hflight⟩

end Sys2Proof.Machine
end

section
/-! PROOFS. Entry into HALTED: what the station drops there, and what it keeps (R116, R130, R166, R170, R171). -/

namespace Sys2Proof.Machine

open Sys2Proof (Byte Word Data Stamp Datum Side Instr)

/-- What EU has recorded of the source numbered n, and of the fault cause. -/
def State.recorded (n : Nat) (s : State) : Option SourceRecord × Option FaultCause := (s.eu.sources[n]?, s.eu.cause)

namespace State

/-! ### The cycle ended at once (R130) -/

/-- A source raised leaves the record of every other (R162). -/
theorem raise_recorded {e : EventSource} {n : Nat} (hn : e.index ≠ n) (s : State) : (s.raise e).recorded n = s.recorded n := by
  rw [recorded, raise_sources, List.getElem?_modify_ne _ _ hn, raise_cause, recorded]

/-- From s to t HT's entries and WS's and CS's records have changed, of the events HOLE REJECTED at most, and nothing else. -/
structure CycleStep (s t : State) : Prop where
  frame : t = { s with ht := t.ht, ws := t.ws, cs := t.cs, eu := t.eu }
  recorded : ∀ n, n ≠ 6 → t.recorded n = s.recorded n

namespace CycleStep

theorem refl (s : State) : CycleStep s s := ⟨rfl, fun _ _ => rfl⟩

theorem of_frame {s t : State} (h : t = { s with ht := t.ht, ws := t.ws, cs := t.cs }) : CycleStep s t :=
  ⟨by rw [h], fun n _ => by rw [h]; rfl⟩

theorem trans {s t u : State} (h : CycleStep s t) (h' : CycleStep t u) : CycleStep s u :=
  ⟨by rw [h'.frame, h.frame], fun n hn => (h'.recorded n hn).trans (h.recorded n hn)⟩

end CycleStep

theorem putEntry_cycleStep (h : Nat) (e : HoleEntry) (s : State) : CycleStep s (s.putEntry h e) := .of_frame (by rw [putEntry_eq])

theorem applyToEntry_cycleStep (h : Heard) (s : State) : CycleStep s (s.applyToEntry h) := by
  unfold applyToEntry
  split
  · exact .refl s
  · split
    · exact .refl s
    · exact putEntry_cycleStep _ _ s

theorem applyAll_cycleStep (l : List Heard) (s : State) : CycleStep s (l.foldl (fun t h => t.applyToEntry h) s) := by
  induction l generalizing s with
  | nil => exact .refl s
  | cons h l ih => exact (applyToEntry_cycleStep h s).trans (ih _)

theorem applyAll_cs (l : List Heard) (s : State) : (l.foldl (fun t h => t.applyToEntry h) s).cs = s.cs := by
  induction l generalizing s with
  | nil => rfl
  | cons h l ih =>
    rw [List.foldl_cons, ih]
    unfold applyToEntry
    split
    · rfl
    · split
      · rfl
      · rw [putEntry_eq]

/-- The selection whose cycle has ended is discarded (R93). -/
def selectionEnded (s : State) : State :=
  match s.ws.selection with
  | some sel => if sel.stage = .inCycle then { s with ws.selection := none } else s
  | none => s

theorem selectionEnded_cycleStep (s : State) : CycleStep s s.selectionEnded := by
  unfold selectionEnded
  split
  · split
    · exact .of_frame rfl
    · exact .refl s
  · exact .refl s

theorem selectionEnded_cs (s : State) : s.selectionEnded.cs = s.cs := by
  unfold selectionEnded
  split
  · split <;> rfl
  · rfl

/-- The station that ends its cycle, before a FINISHED one parks again. -/
def cycleGone (cy : Cycle) (s : State) : State :=
  cy.left.foldl (fun t h => t.applyToEntry h) { s with cs.cycle := none, cs.interject := none }.selectionEnded

theorem endCycle_some {cy : Cycle} {s : State} (h : s.cs.cycle = some cy) :
    s.endCycle = if cy.work = .datum && (s.cycleGone cy).ws.state = .finished && (s.cycleGone cy).ws.park = .no
        && (s.cycleGone cy).own != (s.cycleGone cy).cfg.park
      then { s.cycleGone cy with ws.park := .waitingForClearance } else s.cycleGone cy := by
  unfold endCycle
  rw [h]
  rfl

theorem cycleGone_cycleStep (cy : Cycle) (s : State) : CycleStep s (s.cycleGone cy) := by
  have hcleared : CycleStep s { s with cs.cycle := none, cs.interject := none } := .of_frame rfl
  exact (hcleared.trans (selectionEnded_cycleStep _)).trans (applyAll_cycleStep _ _)

theorem cycleGone_cs (cy : Cycle) (s : State) : (s.cycleGone cy).cs = { s.cs with cycle := none, interject := none } := by
  rw [cycleGone, applyAll_cs, selectionEnded_cs]

theorem endCycle_cycleStep (s : State) : CycleStep s s.endCycle := by
  cases h : s.cs.cycle with
  | none =>
    unfold endCycle
    rw [h]
    exact .refl s
  | some cy =>
    rw [endCycle_some h]
    split
    · exact (cycleGone_cycleStep cy s).trans (.of_frame rfl)
    · exact cycleGone_cycleStep cy s

theorem endCycle_cycle (s : State) : s.endCycle.cs.cycle = none := by
  cases h : s.cs.cycle with
  | none =>
    unfold endCycle
    rw [h]
    exact h
  | some cy =>
    rw [endCycle_some h]
    split <;> exact congrArg (·.cycle) (cycleGone_cs cy s)

theorem revertOwn_cycleStep (h : Nat) (s : State) : CycleStep s (s.revertOwn h) := by
  unfold revertOwn
  split
  · exact .refl s
  · split
    · exact putEntry_cycleStep _ _ s
    · exact .refl s

/-- An outcome written without a frame raises HOLE REJECTED at most. -/
theorem writeOutcome_cycleStep (c : Claim) (o : CycleOutcome) (s : State) : CycleStep s (s.writeOutcome c o false) := by
  unfold writeOutcome
  split
  · exact .refl s
  · dsimp only
    rw [if_neg Bool.false_ne_true]
    split
    · refine (putEntry_cycleStep _ _ s).trans ⟨rfl, fun n hn => ?_⟩
      exact raise_recorded (e := .holeRejected) (Ne.symm hn) _
    · exact putEntry_cycleStep _ _ s

/-- The cycle that entry into HALTED ends is gone at once, without a frame (R130). -/
theorem haltCycle_cycleStep (s : State) : CycleStep s s.haltCycle := by
  unfold haltCycle
  split
  · exact .refl s
  · dsimp only
    refine CycleStep.trans ?_ (endCycle_cycleStep _)
    split
    · exact .refl s
    · split
      · exact .refl s
      · exact (revertOwn_cycleStep _ s).trans (writeOutcome_cycleStep _ _ _)

theorem haltCycle_cycle (s : State) : s.haltCycle.cs.cycle = none := by
  unfold haltCycle
  split
  · assumption
  · exact endCycle_cycle _

/-! ### The port's part (R116) -/

/-- On entry into HALTED the port drops its stream, and knows where the carriage stands as before. -/
theorem haltPort_frame (s : State) : ∃ ep, s.haltPort = { s with ep := ep } ∧ ep.stream = none ∧ ep.ownPos = s.ep.ownPos := by
  have hlow : ∀ t : State, ∃ fell, t.lowerFlag = { t with ep.commandFlag := false, ep.flagFell := fell } := fun t => ⟨_, lowerFlag_eq t⟩
  obtain ⟨fell, hfell⟩ := hlow
    { s with ep.transfer := none, ep.handshake := .ready, ep.stream := none, ep.partialReport := [], ep.deadline := none,
             ep.stopped := .no, ep.responseDeadline := none }
  refine ⟨s.haltPort.ep, ?_⟩
  unfold haltPort
  dsimp only at hfell ⊢
  rw [hfell]
  split <;> exact ⟨rfl, rfl, rfl⟩

/-! ### The whole (R170, R171) -/

/-- What entry into HALTED leaves of a station that was running. -/
structure Halts (src : FaultSource) (s t : State) : Prop where
  work : t.ws.state = .halted
  stream : t.ep.stream = none
  cycle : t.cs.cycle = none
  lone : t.cs.lone = none
  ownPos : t.ep.ownPos = s.ep.ownPos
  table : t.du.table = s.du.table
  recorded : ∀ n, n ≠ 6 → t.recorded n = (s.eu.sources[n]?, if s.ws.state = .faulted then s.eu.cause
    else some ⟨src, s.ws.state, s.clock, false⟩)

/-- The cause recorded on entry into HALTED: a FAULTED station keeps its own (R171). -/
def haltCause (src : FaultSource) (s : State) : State := if s.ws.state = .faulted then s else s.recordCause src

theorem haltCause_frame (src : FaultSource) (s : State) : s.haltCause src = { s with
    eu.cause := if s.ws.state = .faulted then s.eu.cause
      else some ⟨src, s.ws.state, s.clock, false⟩ } := by
  unfold haltCause
  split <;> rfl

/-- The station that enters HALTED, before LC, ZC and HT have their part. -/
def haltStopped (src : FaultSource) (s : State) : State :=
  let t := (s.haltCause src).haltPort.haltCycle
  { t with cs.lone := none, cs.interject := none, sa := t.sa.fail, du.own := {}, pt.frozen := some t.clock,
           ws.selection := none, ws.claim := none, ws.park := .no }

theorem enterHalted_eq {s : State} (hs : s.ws.state.online = true) (src : FaultSource) :
    s.enterHalted src = (State.setWork .halted (s.haltStopped src).linkHalt.noZones).offerOwed := by
  unfold enterHalted
  split
  · rename_i h
    rw [h] at hs
    cases hs
  · rename_i h
    rw [h] at hs
    cases hs
  all_goals rfl

theorem enterHalted_halts {s : State} (hs : s.ws.state.online = true) (src : FaultSource) : Halts src s (s.enterHalted src) := by
  obtain ⟨ep, hport, hstream, hown⟩ := haltPort_frame (s.haltCause src)
  have hcause := haltCause_frame src s
  have hcycle := haltCycle_cycleStep (s.haltCause src).haltPort
  have hlink := noZones_linkStep (s.haltStopped src).linkHalt
  have howed := offerOwed_linkStep (State.setWork .halted (s.haltStopped src).linkHalt.noZones)
  rw [enterHalted_eq hs]
  have hep : (State.setWork .halted (s.haltStopped src).linkHalt.noZones).offerOwed.ep = ep :=
    calc _ = (s.haltStopped src).ep := by rw [howed.ep, setWork_ep, hlink.ep]; rfl
      _ = (s.haltCause src).haltPort.ep := congrArg (·.ep) hcycle.frame
      _ = ep := congrArg (·.ep) hport
  have hcs : (State.setWork .halted (s.haltStopped src).linkHalt.noZones).offerOwed.cs = (s.haltStopped src).cs := by
    rw [howed.cs, setWork_cs, hlink.cs]
    rfl
  have heu : (State.setWork .halted (s.haltStopped src).linkHalt.noZones).offerOwed.eu = (s.haltStopped src).eu := by
    rw [howed.eu, setWork_eu, hlink.eu]
    rfl
  refine ⟨howed.work, ?_, ?_, ?_, ?_, ?_, fun n hn => ?_⟩
  · rw [hep, hstream]
  · rw [hcs]
    exact haltCycle_cycle (s.haltCause src).haltPort
  · rw [hcs]
    rfl
  · rw [hep, hown, hcause]
  · rw [howed.du, setWork_du, hlink.du]
    calc (s.haltStopped src).du.table = (s.haltCause src).haltPort.du.table := congrArg (·.du.table) hcycle.frame
      _ = s.du.table := by rw [hport, hcause]
  · calc _ = (s.haltCause src).haltPort.haltCycle.recorded n := congrArg (fun e => (e.sources[n]?, e.cause)) heu
      _ = (s.haltCause src).haltPort.recorded n := hcycle.recorded n hn
      _ = _ := by rw [hport, hcause]; rfl

/-- A CLEARANCE HALT: the halt itself, with its source raised (R67, R114). -/
theorem clearanceHalt_halts {s : State} (hs : s.ws.state.online = true) (c : HaltCheck) :
    Halts (.clearanceHalt c) (s.raise .clearanceHalt) (s.clearanceHalt c) :=
  enterHalted_halts (s := s.raise .clearanceHalt) hs _

end State

end Sys2Proof.Machine
end

section
/-! PROOFS. A PRESENCE heard: what it leaves, and what it tells EU (R57, R60). -/

namespace Sys2Proof.Machine

open Sys2Proof (Byte Word Data Stamp Datum Side Instr)

namespace State

/-! ### What ZC leaves alone -/

@[simp] theorem replaceFrame_kept (id : Nat) (b : Body) (s : State) : (s.replaceFrame id b).kept = s.kept := by
  unfold replaceFrame
  split
  · rfl
  · simp

@[simp] theorem seizeToRequest_kept (side : Side) (s : State) : (s.seizeToRequest side).kept = s.kept := by
  unfold seizeToRequest
  dsimp only
  split
  · rw [onZone_kept, replaceFrame_kept]
  · rfl

@[simp] theorem seizeRequested_kept (side : Side) (s : State) : (s.seizeRequested side).kept = s.kept := by
  unfold seizeRequested
  dsimp only
  split
  · rw [sendOutstanding_kept, onZone_kept]
  · rw [onZone_kept]

@[simp] theorem hearRelease_kept (side : Side) (s : State) : (s.hearRelease side).kept = s.kept := by
  unfold hearRelease
  split
  case h_1 => exact zoneChange_kept side _ s
  case h_2 => split_ifs <;> simp
  all_goals rfl

@[simp] theorem dualHold_kept (side : Side) (s : State) : (s.dualHold side).kept = s.kept := by
  unfold dualHold
  split
  · rfl
  · exact onZone_kept side _ s

@[simp] theorem rebound_kept (side : Side) (s : State) : (s.rebound side).kept = s.kept := by
  unfold rebound
  split
  · split_ifs <;> simp
  · split_ifs <;> simp

@[simp] theorem reconcileZone_kept (side : Side) (s : State) : (s.reconcileZone side).kept = s.kept := by
  have change := fun st => zoneChange_kept side st s
  unfold reconcileZone
  split
  · rfl
  · split
    · exact applyBlock_kept side s
    · split
      case h_1 | h_4 | h_6 | h_13 | h_17 => rfl
      case h_2 => rw [zoneChange_kept, seizeToRequest_kept]
      case h_5 => split_ifs <;> simp
      case h_9 => split_ifs <;> simp
      case h_11 => exact hearRelease_kept side s
      all_goals exact change _

/-! ### The zone's part of a PRESENCE -/

/-- ZC's part of a PRESENCE that the checks have let the station run on from (R84): a zone new with it has its first state already. -/
def presenceZoned (j : Nat) (p : Presence) (s : State) : State :=
  match s.cfg.sideOf j with
  | some side => if (s.zone side).state = .noZone then s.presenceChecked j p else (s.presenceChecked j p).reconcileZone side
  | none => s.presenceChecked j p

theorem presenceChecked_cfg (j : Nat) (p : Presence) (s : State) : (s.presenceChecked j p).cfg = s.cfg := by
  have happlied : (s.presenceApplied j p).cfg = s.cfg := cfg_congr (s.presenceApplied_spec j p).setup
  unfold presenceChecked
  split
  · exact (cfg_congr (setup_of_base (clearanceChecks_base _))).trans happlied
  · exact happlied

theorem presenceHeard_zone (j : Nat) (p : Presence) (side : Side) (s : State) : (s.presenceHeard j p).zone side = s.zone side := by
  rw [presenceHeard_eq]
  rfl

/-- A PRESENCE in its parts: the checks; then, where they have not halted the station, the zone, and HT's claims by the filter. -/
theorem hearPresence_zoned (j : Nat) (p : Presence) (s : State) :
    s.hearPresence j p = if (s.presenceChecked j p).ws.state = .halted then s.presenceChecked j p
      else if s.planFilter j (.presence p) then (s.presenceZoned j p).reconcileClaims j p.claim else s.presenceZoned j p := by
  have hheard : ((s.planMismatch j p).setPeer j (peerOf p (s.planMismatch j p).clock)).demand p = s.presenceHeard j p := rfl
  have hcfg := s.presenceHeard_cfg j p
  have happlied : (s.presenceApplied j p).cfg = s.cfg := cfg_congr (s.presenceApplied_spec j p).setup
  have hchecked := s.presenceChecked_cfg j p
  unfold hearPresence presenceZoned
  unfold presenceChecked at hchecked ⊢
  rw [presenceApplied] at happlied hchecked ⊢
  dsimp only
  rw [hheard, hcfg]
  cases hside : s.cfg.sideOf j with
  | none =>
    simp only [hside] at happlied
    simp only [happlied, hside, Option.isSome_none, Bool.false_eq_true, if_false]
  | some side =>
    simp only [hside, Option.isSome_some, if_true] at happlied hchecked
    simp only [happlied, hchecked, hside, Option.isSome_some, if_true, presenceHeard_zone, decide_eq_true_eq]

/-! ### What a PRESENCE leaves -/

/-- Where every station stands after it: its registers but the peer entries and the conflict, its draw table, and the sources that the
clearance checks raise nothing of. -/
structure PresenceKeeps (s t : State) : Prop where
  kept : t.kept = s.kept
  table : t.du.table = s.du.table
  source : t.eu.sources[3]? = s.eu.sources[3]?

theorem PresenceKeeps.of_linkStep {s t : State} (h : LinkStep s t) (hkept : t.kept = s.kept) : PresenceKeeps s t :=
  ⟨hkept, by rw [h.frame], by rw [h.eu]⟩

theorem presenceChecked_keeps {s : State} (hs : s.ws.state.online = true) (j : Nat) (p : Presence) :
    PresenceKeeps (s.presenceApplied j p) (s.presenceChecked j p) := by
  have honline : (s.presenceApplied j p).ws.state.online = true := by rwa [(s.presenceApplied_spec j p).work]
  unfold presenceChecked clearanceChecks
  split
  · split
    · rename_i c _
      have hhalts := clearanceHalt_halts honline c
      have hraised : State.recorded 3 (raise .clearanceHalt (s.presenceApplied j p)) = State.recorded 3 (s.presenceApplied j p) :=
        raise_recorded (e := .clearanceHalt) (by decide) _
      exact ⟨clearanceHalt_kept c _, hhalts.table,
        (congrArg Prod.fst (hhalts.recorded 3 (by decide))).trans (congrArg Prod.fst hraised)⟩
    · rw [clearanceStop_eq]
      exact ⟨rfl, rfl, rfl⟩
  · exact ⟨rfl, rfl, rfl⟩

theorem presenceZoned_keeps (j : Nat) (p : Presence) (s : State) : PresenceKeeps (s.presenceChecked j p) (s.presenceZoned j p) := by
  unfold presenceZoned
  split
  · split
    · exact ⟨rfl, rfl, rfl⟩
    · exact .of_linkStep (reconcileZone_linkStep _ _) (reconcileZone_kept _ _)
  · exact ⟨rfl, rfl, rfl⟩

/-- But for HT's entries and the retest, a PRESENCE ends where the checks or the zone's part leave the station. -/
theorem hearPresence_keeps {s : State} (hs : s.ws.state.online = true) (j : Nat) (p : Presence) :
    ∃ g, PresenceKeeps (s.presenceApplied j p) g
      ∧ s.hearPresence j p = { g with ht := (s.hearPresence j p).ht, ws.retest := (s.hearPresence j p).ws.retest } := by
  have hchecked := presenceChecked_keeps hs j p
  have hzoned := presenceZoned_keeps j p s
  rw [hearPresence_zoned]
  split
  · exact ⟨_, hchecked, rfl⟩
  · refine ⟨_, ⟨hzoned.kept.trans hchecked.kept, hzoned.table.trans hchecked.table, hzoned.source.trans hchecked.source⟩, ?_⟩
    split
    · exact reconcileClaims_frame j p.claim _
    · rfl

/-- Up to the checks, PT, PU's prober and ZC have had the PRESENCE, and EU its mismatch. -/
theorem presenceApplied_keeps (j : Nat) (p : Presence) (s : State) :
    (s.presenceApplied j p).lc.stamp = s.lc.stamp ∧ (s.presenceApplied j p).sp = s.sp
    ∧ (s.presenceApplied j p).pu = { s.pu with prober := (s.presenceApplied j p).pu.prober }
    ∧ (s.presenceApplied j p).du = s.du
    ∧ (s.presenceApplied j p).eu.sources[3]? = (s.planMismatch j p).eu.sources[3]? := by
  have hbound : ∃ d, LinkStep (s.presenceHeard j p) d ∧ d.kept = (s.presenceHeard j p).kept ∧ s.presenceApplied j p = d.evalConflict := by
    unfold presenceApplied
    split
    · exact ⟨_, rebound_linkStep _ _, rebound_kept _ _, rfl⟩
    · exact ⟨_, .refl _, rfl, rfl⟩
  obtain ⟨d, hd, hkept, happlied⟩ := hbound
  have hsource : d.evalConflict.eu.sources[3]? = d.eu.sources[3]? := by
    unfold evalConflict
    dsimp only
    split
    · exact congrArg Prod.fst (raise_recorded (e := .configConflict) (n := 3) (by decide) _)
    · rfl
  have hheard := s.presenceHeard_eq j p
  rw [happlied]
  refine ⟨?_, ?_, ?_, ?_, ?_⟩
  · rw [evalConflict_eq]
    exact (congrArg Kept.stamp hkept).trans (by rw [hheard]; rfl)
  · rw [evalConflict_eq]
    exact (congrArg Kept.sp hkept).trans (by rw [hheard]; rfl)
  · rw [evalConflict_eq, hd.frame, hheard]
  · rw [evalConflict_eq, hd.frame, hheard]
  · rw [hsource, hd.eu, hheard]

/-- PLAN MISMATCH is raised by a plan that differs where the plan held before did not, and by no other (R57). -/
theorem planMismatch_source {j : Nat} {p : Presence} {s : State} {x : SourceRecord} (hx : s.eu.sources[3]? = some x) :
    (p.check ≠ s.planCheck → (∀ i, (s.peer j).info = some i → i.check = s.planCheck) →
      (s.planMismatch j p).eu.sources[3]? = some (x.raised (s.levels.getD 3 0)))
    ∧ (p.check = s.planCheck ∨ (∃ i, (s.peer j).info = some i ∧ i.check ≠ s.planCheck) →
      (s.planMismatch j p).eu.sources[3]? = some x) := by
  have hraised := raise_source .planMismatch hx
  unfold planMismatch
  constructor
  · intro hother hbefore
    cases hinfo : (s.peer j).info with
    | none =>
      dsimp only
      rw [if_pos (by simp [hother])]
      exact hraised
    | some i =>
      dsimp only
      rw [if_pos (by simp [hother, hbefore i hinfo])]
      exact hraised
  · rintro (hcheck | ⟨i, hinfo, hother⟩)
    · simpa [hcheck] using hx
    · simpa [hinfo, hother] using hx

/-- A PRESENCE that the filter does not pass leaves the claims (R57). -/
theorem planFilter_presence_of_other {j : Nat} {p : Presence} {s : State}
    (h : (s.peer j).info = none ∧ p.check ≠ s.planCheck ∨ ∃ i, (s.peer j).info = some i ∧ i.check ≠ s.planCheck) :
    s.planFilter j (.presence p) = false := by
  unfold planFilter
  rcases h with ⟨hinfo, hcheck⟩ | ⟨i, hinfo, hcheck⟩
  · simp [hinfo, hcheck]
  · simp [hinfo, hcheck]

theorem claims_of_unowed {l l' : List HoleEntry} (h : l'.map HoleEntry.unowed = l.map HoleEntry.unowed) :
    l'.map (fun e => (e.state, e.claimant)) = l.map (fun e => (e.state, e.claimant)) := by
  have hview : (fun e : HoleEntry => (e.state, e.claimant)) = (fun e => (e.state, e.claimant)) ∘ HoleEntry.unowed := rfl
  rw [hview, ← List.map_map, ← List.map_map, h]

/-! ### A DATUM heard (R24, R30) -/

/-- PU computes the correction from its own records, and tells EU at most. -/
theorem computeCorrection_frame (s : State) :
    s.computeCorrection = { s with pu.correction := s.computeCorrection.pu.correction
                                   pu.concern := s.computeCorrection.pu.concern
                                   eu := s.computeCorrection.eu } := by
  unfold computeCorrection
  split
  · dsimp only
    split <;> rfl
  · rfl

theorem setRecord_computeCorrection_rests (d : Datum) (r : DatumRecord) (s : State) :
    (s.setRecord d r).computeCorrection.ht = s.ht ∧ (s.setRecord d r).computeCorrection.lc = s.lc
    ∧ (s.setRecord d r).computeCorrection.ws = s.ws ∧ (s.setRecord d r).computeCorrection.zc = s.zc
    ∧ (s.setRecord d r).computeCorrection.du = s.du := by
  rw [computeCorrection_frame]
  exact ⟨setRecord_ht d r s, setRecord_lc d r s, setRecord_ws d r s, setRecord_zc d r s, setRecord_du d r s⟩

/-- A DATUM of another station under this plan is applied to its record. -/
theorem dispatch_datum {j : Nat} {d : Datum} {r q : Nat} {s : State} (hs : s.ws.state.active = true)
    (hplan : ∀ i, (s.peer j).info = some i → i.check = s.planCheck) :
    s.dispatch j (.datum d r q s.planCheck) = s.applyDatum d r q j s.lc.stamp := by
  have hfilter : s.planFilter j (.datum d r q s.planCheck) = true := by
    unfold planFilter
    cases hinfo : (s.peer j).info with
    | none => rfl
    | some i => exact decide_eq_true (hplan i hinfo)
  unfold dispatch
  dsimp only
  rw [hs, hfilter, Bool.and_self, if_pos rfl]
  exact if_pos rfl

/-! ### The correction (R33, R34, R37) -/

theorem concerns_iff {c : Setup} {t : Int × Int} : c.concerns t = true ↔ 0 ≤ t.1 ∧ t.1 ≤ 524287 ∧ (c.low : Int) ≤ t.1 ∧ t.1 ≤ c.high
    ∧ 0 ≤ t.2 ∧ t.2 ≤ c.crossLimit := by
  have hmax : (Config.railMax : Int) = 524287 := rfl
  simp only [Setup.concerns, Setup.withinTravel, Setup.withinCross, Bool.and_eq_true, decide_eq_true_eq, hmax]
  tauto

/-- The plan holes whose targets the carriage reaches, in the plan's order (R37). -/
def concernUnder (m : Correction) (s : State) : List Nat := (s.ps.holes.filter fun e => s.cfg.concerns (m.target e.2)).map (·.1)

theorem concernUnder_ordered (m : Correction) (s : State) (h : (s.ps.holes.map (·.1)).Pairwise (· < ·)) :
    (s.concernUnder m).Pairwise (· < ·) := h.sublist (List.filter_sublist.map _)

theorem mem_concernUnder {m : Correction} {s : State} {n : Nat} : n ∈ s.concernUnder m ↔ ∃ x, (n, x) ∈ s.ps.holes ∧ 0 ≤ (m.target x).1
    ∧ (m.target x).1 ≤ 524287 ∧ (s.cfg.low : Int) ≤ (m.target x).1 ∧ (m.target x).1 ≤ s.cfg.high
    ∧ 0 ≤ (m.target x).2 ∧ (m.target x).2 ≤ s.cfg.crossLimit := by
  simp only [concernUnder, List.mem_map, List.mem_filter, Prod.exists, exists_and_right, exists_eq_right, concerns_iff]

/-- From two VALID records PU has the figures of R34, or raises DATUM FAULT. -/
theorem computeCorrection_valid {h : PlanHeader} {fa fb : DatumFix} {s : State} (hheader : s.ps.header = some h)
    (ha : s.pu.datumA = ⟨.valid, some fa⟩) (hb : s.pu.datumB = ⟨.valid, some fb⟩) :
    s.computeCorrection = if s.cfg.acceptsCorrection (rawCorrection h fa fb)
      then { s with pu.correction := some (rawCorrection h fa fb), pu.concern := some (s.concernUnder (rawCorrection h fa fb)) }
      else { (s.raise .datumFault) with pu.correction := none, pu.concern := none } := by
  unfold computeCorrection
  rw [hheader, ha, hb]
  rfl

theorem acceptsCorrection_iff {c : Setup} {m : Correction} :
    c.acceptsCorrection m = true ↔ m.s.natAbs ≤ c.scaleLimit ∧ (m.oB - m.oA).natAbs ≤ c.skewLimit := by
  simp only [Setup.acceptsCorrection, Bool.and_eq_true, decide_eq_true_eq]

/-- Clause 3 of O36: the two limits decide (R34). -/
theorem computeCorrection_limits {h : PlanHeader} {fa fb : DatumFix} {s : State} (hheader : s.ps.header = some h)
    (ha : s.pu.datumA = ⟨.valid, some fa⟩) (hb : s.pu.datumB = ⟨.valid, some fb⟩) {m : Correction} (hm : m = rawCorrection h fa fb) :
    (m.s.natAbs ≤ s.cfg.scaleLimit → (m.oB - m.oA).natAbs ≤ s.cfg.skewLimit →
      s.computeCorrection = { s with pu.correction := some m, pu.concern := some (s.concernUnder m) })
    ∧ (s.cfg.scaleLimit < m.s.natAbs ∨ s.cfg.skewLimit < (m.oB - m.oA).natAbs →
      s.computeCorrection = { (s.raise .datumFault) with pu.correction := none, pu.concern := none }) := by
  subst hm
  rw [computeCorrection_valid hheader ha hb]
  refine ⟨fun hscale hskew => if_pos (acceptsCorrection_iff.mpr ⟨hscale, hskew⟩), fun hlimit => if_neg fun haccepts => ?_⟩
  obtain ⟨hscale, hskew⟩ := acceptsCorrection_iff.mp haccepts
  omega

end State

/-- Settles O36: a PRESENCE's entry, stamp and mismatch, and a DATUM's record with the correction that follows it. -/
theorem presenceAndDatumRecorded : Obligations.PresenceAndDatumRecorded := by
  refine ⟨fun j p s hp hs hj => ⟨_, exec_presenceReceived hp hs hj, ?_⟩, fun j d r q s hs hj hfits hplan => ?_,
    fun h fa fb m s hheader ha hb hm => ?_, fun s hs => ?_⟩
  · have ht : (s.heard (frameBytes j (.presence p))).ws.state.online = true := hs
    obtain ⟨-, hpeers, -, hsetup⟩ := State.hearPresence_after ht j p
    have hspec := (s.heard (frameBytes j (.presence p))).presenceApplied_spec j p
    obtain ⟨hstamp, hsp, hpu, hdu, hsource⟩ := (s.heard (frameBytes j (.presence p))).presenceApplied_keeps j p
    obtain ⟨g, hg, hu⟩ := State.hearPresence_keeps ht j p
    refine ⟨hpeers.trans hspec.peers, ?_, hsetup.trans hspec.setup, ?_, ?_, ?_, ?_, ?_, ?_, fun hother hrun => ?_, fun x hx => ?_⟩
    · rw [hu]
      exact (congrArg Kept.stamp hg.kept).trans hstamp
    · rw [hu]
      exact (congrArg Kept.ps hg.kept).trans hspec.ps
    · rw [hu]
      exact (congrArg Kept.sp hg.kept).trans hsp
    · rw [hu]
      exact (congrArg Kept.datumA hg.kept).trans (congrArg PositionUnit.datumA hpu :)
    · rw [hu]
      exact (congrArg Kept.datumB hg.kept).trans (congrArg PositionUnit.datumB hpu :)
    · rw [hu]
      exact (congrArg Kept.correction hg.kept).trans (congrArg PositionUnit.correction hpu :)
    · rw [hu]
      exact hg.table.trans (congrArg DrawUnit.table hdu)
    · obtain ⟨e, he, hclaims⟩ := State.hearPresence_claims ht hrun
      have hfilter := State.planFilter_presence_of_other (s := s.heard (frameBytes j (.presence p))) hother
      rw [hclaims, hfilter, if_neg Bool.false_ne_true]
      exact State.claims_of_unowed he
    · rw [hu, hg.source, hsource]
      exact State.planMismatch_source (s := s.heard (frameBytes j (.presence p))) hx
  · have hrow := exec_heardRow (.datum d r q s.planCheck) (frameBytes j (.datum d r q s.planCheck)) s
    rw [State.hearFrame_frameBytes hfits (WorkState.online_of_active hs) hj] at hrow
    have hdispatch := State.dispatch_datum (s := s.heard (frameBytes j (.datum d r q s.planCheck))) (d := d) (r := r) (q := q) hs hplan
    refine ⟨_, hrow.trans (congrArg (fun u => Host.Outcome.next (State.settle u)) hdispatch), rfl, ?_, ?_⟩
    · rw [State.applyDatum, State.computeCorrection_record, State.setRecord_record]
      rfl
    · obtain ⟨hht, hlc, hws, hzc, hdu⟩ := State.setRecord_computeCorrection_rests d
        { status := .valid, fix := some { r, q, source := j, time := s.clock, stamp := s.lc.stamp + 1 } }
        (s.heard (frameBytes j (.datum d r q s.planCheck)))
      exact ⟨hht, (congrArg LinkController.queue hlc :), hws, hzc, hdu⟩
  · obtain ⟨haccepted, hrefused⟩ := State.computeCorrection_limits hheader ha hb hm
    refine ⟨fun hscale hskew => ?_, fun hlimit => ?_⟩
    · rw [haccepted hscale hskew]
      exact ⟨rfl, rfl, _, rfl, s.concernUnder_ordered m, fun n => State.mem_concernUnder⟩
    · rw [hrefused hlimit]
      exact ⟨rfl, rfl, fun x hx => State.raise_source .datumFault hx⟩
  · rcases hs with ha | hb
    · exact State.computeCorrection_none (d := .a) ha
    · exact State.computeCorrection_none (d := .b) hb

end Sys2Proof.Machine
end

section
/-! PROOFS. ZC after a neighbour's PRESENCE: what EU, the conflict and the cycle have no part in (R63, R66, R84). -/

namespace Sys2Proof.Machine

open Sys2Proof (Byte Word Data Stamp Datum Side Instr)

namespace State

/-- The station with another EU, another conflict and another cycle: none of them has a part in a zone. -/
def aside (eu : EventUnit) (conflict : Bool) (cs : CycleSequencer) (s : State) : State :=
  { s with eu := eu, pt.conflict := conflict, cs := cs }

section
variable (eu : EventUnit) (conflict : Bool) (cs : CycleSequencer)

/-! ### LC (R49, R51) -/

theorem putEntry_aside (h : Nat) (e : HoleEntry) (s : State) :
    (s.aside eu conflict cs).putEntry h e = (s.putEntry h e).aside eu conflict cs := by
  have hht : (s.aside eu conflict cs).ht = s.ht := rfl
  unfold putEntry
  rw [hht]
  split <;> rfl

theorem queueOwed_aside (h : Nat) (s : State) : (s.aside eu conflict cs).queueOwed h = (s.queueOwed h).aside eu conflict cs := by
  have hht : (s.aside eu conflict cs).ht = s.ht := rfl
  unfold queueOwed
  rw [hht]
  split
  · rfl
  · rename_i e _
    exact putEntry_aside eu conflict cs h { e with owed := false }
      { s with lc.queue := insertByClass { id := s.lc.nextId, owner := .ht, body := .correction (e.correction h) } s.lc.queue
               lc.nextId := s.lc.nextId + 1 }

theorem admitOne_aside (s : State) : (s.aside eu conflict cs).admitOne = s.admitOne.aside eu conflict cs := by
  have hlc : (s.aside eu conflict cs).lc = s.lc := rfl
  unfold admitOne
  rw [hlc]
  split
  · cases nextHeld s.lc.held with
    | none => rfl
    | some f =>
      dsimp only
      cases f.body with
      | owed =>
        dsimp only [lowestOwed]
        rw [show (s.aside eu conflict cs).ht = s.ht from rfl]
        split
        · exact queueOwed_aside eu conflict cs _ { s with lc.held := s.lc.held.erase f }
        · rfl
      | _ => rfl
  · rfl

theorem admitHeld_aside (s : State) : (s.aside eu conflict cs).admitHeld = s.admitHeld.aside eu conflict cs := by
  have hrepeat : ∀ n (t : State), repeatState admitOne n (t.aside eu conflict cs) = (repeatState admitOne n t).aside eu conflict cs := by
    intro n
    induction n with
    | zero => exact fun t => rfl
    | succ n ih => exact fun t => (congrArg (repeatState admitOne n) (admitOne_aside eu conflict cs t)).trans (ih t.admitOne)
  exact hrepeat s.lc.held.length s

theorem offer_aside (o : Owner) (f : Body) (s : State) : (s.aside eu conflict cs).offer o f = (s.offer o f).aside eu conflict cs := by
  have hlc : (s.aside eu conflict cs).lc = s.lc := rfl
  unfold offer
  dsimp only
  rw [hlc]
  split <;> rfl

theorem removeFrame_aside (id : Nat) (s : State) : (s.aside eu conflict cs).removeFrame id = (s.removeFrame id).aside eu conflict cs := by
  have hflight : (s.aside eu conflict cs).inFlight id = s.inFlight id := rfl
  unfold removeFrame
  rw [hflight]
  split
  · rfl
  · exact admitHeld_aside eu conflict cs
      { s with lc.queue := s.lc.queue.filter (fun f => f.id != id), lc.held := s.lc.held.filter (fun f => f.id != id) }

theorem replaceFrame_aside (id : Nat) (f : Body) (s : State) :
    (s.aside eu conflict cs).replaceFrame id f = (s.replaceFrame id f).aside eu conflict cs := by
  have hflight : (s.aside eu conflict cs).inFlight id = s.inFlight id := rfl
  unfold replaceFrame
  rw [hflight]
  split <;> rfl

/-! ### ZC (R68, R72 to R74, R78, R79, R82, R84) -/

theorem putZone_aside (side : Side) (z : ZoneRecord) (s : State) :
    (s.aside eu conflict cs).putZone side z = (s.putZone side z).aside eu conflict cs := by
  cases side <;> rfl

theorem onZone_aside (side : Side) (f : ZoneRecord → ZoneRecord) (s : State) :
    (s.aside eu conflict cs).onZone side f = (s.onZone side f).aside eu conflict cs := putZone_aside eu conflict cs side _ s

theorem sendOutstanding_aside (side : Side) (o : Outstanding) (a : ZoneAction) (s : State) :
    (s.aside eu conflict cs).sendOutstanding side o a = (s.sendOutstanding side o a).aside eu conflict cs := by
  unfold sendOutstanding offerZone
  rw [offer_aside, onZone_aside]
  rfl

theorem dropOutstanding_aside (side : Side) (s : State) :
    (s.aside eu conflict cs).dropOutstanding side = (s.dropOutstanding side).aside eu conflict cs := by
  have hzone : (s.aside eu conflict cs).zone side = s.zone side := rfl
  have hflight : (s.aside eu conflict cs).inFlight (s.zone side).frameId = s.inFlight (s.zone side).frameId := rfl
  unfold dropOutstanding
  dsimp only
  rw [hzone, hflight, removeFrame_aside, onZone_aside]
  split_ifs <;> rfl

theorem seizeToRequest_aside (side : Side) (s : State) :
    (s.aside eu conflict cs).seizeToRequest side = (s.seizeToRequest side).aside eu conflict cs := by
  have hzone : (s.aside eu conflict cs).zone side = s.zone side := rfl
  have hflight : (s.aside eu conflict cs).inFlight (s.zone side).frameId = s.inFlight (s.zone side).frameId := rfl
  unfold seizeToRequest
  dsimp only
  rw [hzone, hflight, replaceFrame_aside, onZone_aside]
  split <;> rfl

theorem tidyOutstanding_aside (side : Side) (st : ZoneState) (s : State) :
    (s.aside eu conflict cs).tidyOutstanding side st = (s.tidyOutstanding side st).aside eu conflict cs := by
  have hzone : (s.aside eu conflict cs).zone side = s.zone side := rfl
  unfold tidyOutstanding
  rw [hzone, dropOutstanding_aside]
  split <;> rfl

theorem zoneTo_aside (side : Side) (st : ZoneState) (s : State) :
    (s.aside eu conflict cs).zoneTo side st = (s.zoneTo side st).aside eu conflict cs := by
  have hzone : (s.aside eu conflict cs).zone side = s.zone side := rfl
  unfold zoneTo
  dsimp only
  rw [hzone, tidyOutstanding_aside, ← onZone_aside]
  split <;> rfl

theorem applyBlock_aside (side : Side) (s : State) : (s.aside eu conflict cs).applyBlock side = (s.applyBlock side).aside eu conflict cs := by
  have hzone : (s.aside eu conflict cs).zone side = s.zone side := rfl
  have hblocks : (s.aside eu conflict cs).blocks side = s.blocks side := rfl
  unfold applyBlock
  rw [hzone, hblocks, zoneTo_aside]
  split
  case h_1 | h_2 | h_3 => rfl
  all_goals split <;> rfl

theorem zoneChange_aside (side : Side) (st : ZoneState) (s : State) :
    (s.aside eu conflict cs).zoneChange side st = (s.zoneChange side st).aside eu conflict cs := by
  rw [zoneChange, zoneTo_aside, applyBlock_aside, zoneChange]

theorem rebound_aside (side : Side) (s : State) : (s.aside eu conflict cs).rebound side = (s.rebound side).aside eu conflict cs := by
  have hbounds : (s.aside eu conflict cs).boundsNow side = s.boundsNow side := rfl
  have hzone : (s.aside eu conflict cs).zone side = s.zone side := rfl
  unfold rebound
  rw [hbounds]
  cases s.boundsNow side with
  | none =>
    dsimp only
    rw [hzone, dropOutstanding_aside, putZone_aside]
    split <;> rfl
  | some b =>
    dsimp only
    rw [hzone, putZone_aside, onZone_aside]
    have hfirst : ((s.putZone side { s.zone side with bounds := some b }).aside eu conflict cs).firstState side
        = (s.putZone side { s.zone side with bounds := some b }).firstState side := rfl
    rw [hfirst, zoneTo_aside]
    split_ifs <;> rfl

theorem seizeRequested_aside (side : Side) (s : State) :
    (s.aside eu conflict cs).seizeRequested side = (s.seizeRequested side).aside eu conflict cs := by
  unfold seizeRequested
  dsimp only
  rw [onZone_aside, sendOutstanding_aside]
  have hzone : ∀ t : State, (t.aside eu conflict cs).zone side = t.zone side := fun t => rfl
  rw [hzone]
  split <;> rfl

theorem hearRelease_aside (side : Side) (s : State) :
    (s.aside eu conflict cs).hearRelease side = (s.hearRelease side).aside eu conflict cs := by
  have hzone : (s.aside eu conflict cs).zone side = s.zone side := rfl
  have hwants : (s.aside eu conflict cs).wants side = s.wants side := rfl
  have hinside : (s.aside eu conflict cs).neighbourInside side = s.neighbourInside side := rfl
  unfold hearRelease
  rw [hzone, hwants, hinside, zoneChange_aside, onZone_aside, seizeRequested_aside]
  split
  case h_2 => split_ifs <;> rfl
  all_goals rfl

theorem dualHold_aside (side : Side) (s : State) : (s.aside eu conflict cs).dualHold side = (s.dualHold side).aside eu conflict cs := by
  have hzone : (s.aside eu conflict cs).zone side = s.zone side := rfl
  unfold dualHold
  rw [hzone, onZone_aside]
  split <;> rfl

theorem reconcileZone_aside (side : Side) (s : State) :
    (s.aside eu conflict cs).reconcileZone side = (s.reconcileZone side).aside eu conflict cs := by
  have hinfo : (s.aside eu conflict cs).sideInfo side = s.sideInfo side := rfl
  have hplan : (s.aside eu conflict cs).planDiffers side = s.planDiffers side := rfl
  have hzone : (s.aside eu conflict cs).zone side = s.zone side := rfl
  have hinside : (s.aside eu conflict cs).neighbourInside side = s.neighbourInside side := rfl
  have hheld : ∀ held : Bool, (if held then (s.aside eu conflict cs).dualHold side else s.aside eu conflict cs)
      = (if held then s.dualHold side else s).aside eu conflict cs := by
    rintro (_ | _)
    · rfl
    · exact dualHold_aside eu conflict cs side s
  unfold reconcileZone
  rw [hinfo, hplan, hzone, hinside, applyBlock_aside, seizeToRequest_aside, zoneChange_aside, hearRelease_aside, seizeRequested_aside]
  simp only [zoneChange_aside, hheld, onZone_aside]
  cases s.sideInfo side with
  | none => rfl
  | some i =>
    dsimp only
    split
    · rfl
    · split
      case h_5 => split <;> rfl
      case h_9 => split <;> rfl
      all_goals rfl

end

/-! ### The zone after a PRESENCE (R68, R84) -/

/-- PT and PU have had the PRESENCE; but for EU they stand where its sender's new entry and the demand put them. -/
theorem presenceHeard_aside (j : Nat) (p : Presence) (s : State) :
    s.presenceHeard j p = ((s.setPeer j (peerOf p s.clock)).demand p).aside (s.planMismatch j p).eu s.pt.conflict s.cs := by
  have hprober : ((s.setPeer j (peerOf p s.clock)).demand p).pu.prober = (s.demand p).pu.prober :=
    demand_prober_congr (s := s) (by rfl) (by rfl) (by rfl) (by rfl) p
  rw [presenceHeard_eq, demand_eq p (s.setPeer j (peerOf p s.clock)), hprober]
  rfl

theorem clearanceHalt_work {s : State} (h : s.ws.state ≠ .unconfigured) (c : HaltCheck) : (s.clearanceHalt c).ws.state = .halted :=
  enterHalted_work _ (s.raise .clearanceHalt) h

/-- The checks that let a station run on leave its zones as the bounds made of the PRESENCE left them. -/
theorem presenceChecked_aside {j : Nat} {side : Side} {p : Presence} {s : State} (hs : s.ws.state.online = true)
    (hside : s.cfg.sideOf j = some side) (hrun : (s.presenceChecked j p).ws.state ≠ .halted) :
    ∃ eu conflict cs, s.presenceChecked j p
      = (((s.setPeer j (peerOf p s.clock)).demand p).rebound side).aside eu conflict cs := by
  obtain ⟨hset, -⟩ := presenceApplied_work_online hs j p
  have hconflict : ∀ t : State, t.evalConflict = t.aside t.evalConflict.eu t.evalConflict.pt.conflict t.cs := fun t => t.evalConflict_eq
  have hstop : ∀ t : State, t.clearanceStop = t.aside t.eu t.pt.conflict t.clearanceStop.cs := fun t => t.clearanceStop_eq
  have happlied : ∃ eu conflict, s.presenceApplied j p
      = (((s.setPeer j (peerOf p s.clock)).demand p).rebound side).aside eu conflict s.cs := by
    rw [presenceApplied, hside]
    dsimp only
    rw [presenceHeard_aside, rebound_aside, hconflict]
    exact ⟨_, _, rfl⟩
  have hchecked : s.presenceChecked j p = (s.presenceApplied j p).clearanceChecks := by rw [presenceChecked, hside]; rfl
  have hruns : s.presenceChecked j p = (s.presenceApplied j p).clearanceStop := by
    rw [hchecked, clearanceChecks] at hrun ⊢
    split at hrun
    · exact absurd (clearanceHalt_work hset _) hrun
    · rfl
  obtain ⟨eu, conflict, heq⟩ := happlied
  rw [hruns, hstop, heq]
  exact ⟨_, _, _, rfl⟩

/-- ZC's part of a PRESENCE, from the bounds on (R84). -/
theorem hearPresence_zone {j : Nat} {side : Side} {p : Presence} {s : State} (hs : s.ws.state.online = true)
    (hside : s.cfg.sideOf j = some side) (hrun : (s.hearPresence j p).ws.state ≠ .halted) :
    (s.hearPresence j p).zone side = if (s.zone side).state = .noZone
      then (((s.setPeer j (peerOf p s.clock)).demand p).rebound side).zone side
      else ((((s.setPeer j (peerOf p s.clock)).demand p).rebound side).reconcileZone side).zone side := by
  have hclaims : ∀ t : State, (t.reconcileClaims j p.claim).zone side = t.zone side := fun t => by
    rw [reconcileClaims_frame]
    rfl
  rw [hearPresence_zoned] at hrun ⊢
  split at hrun
  · contradiction
  · rename_i hgoes
    obtain ⟨eu, conflict, cs, hchecked⟩ := presenceChecked_aside hs hside hgoes
    have hzoned : (s.presenceZoned j p).zone side = if (s.zone side).state = .noZone
        then (((s.setPeer j (peerOf p s.clock)).demand p).rebound side).zone side
        else ((((s.setPeer j (peerOf p s.clock)).demand p).rebound side).reconcileZone side).zone side := by
      rw [presenceZoned, hside]
      dsimp only
      rw [hchecked, reconcileZone_aside]
      split <;> rfl
    rw [if_neg hgoes]
    split
    · rw [hclaims, hzoned]
    · exact hzoned

/-! ### Where a zone lies (R64, R68) -/

theorem boundsNow_left_iff {s : State} {b : Nat × Nat} : s.boundsNow .left = some b
    ↔ ∃ i, 1 < s.k ∧ (s.peer (s.k - 1)).info = some i ∧ s.cfg.low ≤ i.high ∧ b = (s.cfg.low, i.high) := by
  have hinfo : s.sideInfo .left = if 1 < s.k then (s.peer (s.k - 1)).info else none := by
    unfold sideInfo Setup.neighbour
    rw [apply_ite (fun o : Option Nat => o.bind fun j => (s.peer j).info)]
    rfl
  unfold boundsNow
  rw [hinfo]
  by_cases hk : 1 < s.k
  · rw [if_pos hk]
    cases (s.peer (s.k - 1)).info <;> simp [hk, eq_comm]
  · simp [hk]

theorem boundsNow_right_iff {s : State} {b : Nat × Nat} : s.boundsNow .right = some b
    ↔ ∃ i, s.k < s.cfg.stations ∧ (s.peer (s.k + 1)).info = some i ∧ i.low ≤ s.cfg.high ∧ b = (i.low, s.cfg.high) := by
  have hinfo : s.sideInfo .right = if s.k < s.cfg.stations then (s.peer (s.k + 1)).info else none := by
    unfold sideInfo Setup.neighbour
    rw [apply_ite (fun o : Option Nat => o.bind fun j => (s.peer j).info)]
    rfl
  unfold boundsNow
  rw [hinfo]
  by_cases hk : s.k < s.cfg.stations
  · rw [if_pos hk]
    cases (s.peer (s.k + 1)).info <;> simp [hk, eq_comm]
  · simp [hk]

theorem planDiffers_iff {s : State} {side : Side} : s.planDiffers side = true ↔ ∃ i, s.sideInfo side = some i ∧ i.check ≠ s.planCheck := by
  unfold planDiffers
  cases s.sideInfo side <;> simp

theorem neighbourInside_iff {s : State} {side : Side} : s.neighbourInside side = true
    ↔ ∃ i c, s.sideInfo side = some i ∧ (s.zone side).bounds = some c ∧ min i.position i.target ≤ c.2 ∧ c.1 ≤ max i.position i.target := by
  unfold neighbourInside
  cases s.sideInfo side with
  | none => simp
  | some i => cases (s.zone side).bounds <;> simp [intervalInside, PeerInfo.interval]

theorem zoneAt_within {s : State} {x : Int} {side : Side} (h : s.zoneAt x = some side) : within (s.zone side).bounds x = true := by
  unfold zoneAt at h
  split_ifs at h with hl hr
  · cases h
    exact hl
  · cases h
    exact hr

theorem zoneAt_none {s : State} {x : Int} (h : s.zoneAt x = none) (side : Side) : within (s.zone side).bounds x = false := by
  unfold zoneAt at h
  split_ifs at h with hl hr
  cases side with
  | left => exact Bool.eq_false_of_not_eq_true hl
  | right => exact Bool.eq_false_of_not_eq_true hr

/-! ### Bounds made and unmade (R68, R79, R84) -/

theorem rebound_unmade {side : Side} {s : State} (hb : s.boundsNow side = none) (hz : (s.zone side).state ≠ .noZone) :
    (s.rebound side).zone side = {} := by
  unfold rebound
  rw [hb]
  dsimp only
  rw [if_neg hz, putZone_zone]

/-- The zone newly made, as its first state finds it. -/
def zoneMade (side : Side) (b : Nat × Nat) (s : State) : State := s.putZone side { s.zone side with bounds := some b }

theorem rebound_made {side : Side} {s : State} {b : Nat × Nat} (hb : s.boundsNow side = some b) (hz : (s.zone side).state = .noZone) :
    s.rebound side = (s.zoneMade side b).zoneTo side ((s.zoneMade side b).firstState side) := by
  unfold rebound
  rw [hb]
  exact if_pos hz

theorem zoneMade_bounds (side : Side) (b : Nat × Nat) (s : State) : ((s.zoneMade side b).zone side).bounds = some b := by
  rw [zoneMade, putZone_zone]

theorem rebound_made_bounds {side : Side} {s : State} {b : Nat × Nat} (hb : s.boundsNow side = some b)
    (hz : (s.zone side).state = .noZone) : ((s.rebound side).zone side).bounds = some b := by
  rw [rebound_made hb hz, (zoneTo_zoneAlone side _ _).2, zoneMade_bounds]

theorem rebound_made_state {side : Side} {s : State} {b : Nat × Nat} {i : PeerInfo} (hb : s.boundsNow side = some b)
    (hz : (s.zone side).state = .noZone) (hi : s.sideInfo side = some i) : ((s.rebound side).zone side).state
      = if s.planDiffers side then .blocked else if i.heldFor side then .heldOther
        else if intervalInside i.interval b then .blocked else .free := by
  have hlink : LinkStep s (s.zoneMade side b) := putZone_linkStep side _ s
  have hinfo := hlink.sideInfo side
  have hinside : (s.zoneMade side b).neighbourInside side = intervalInside i.interval b := by
    rw [neighbourInside, hinfo, hi, zoneMade_bounds]
  rw [rebound_made hb hz, zoneTo_state, (firstState_rests (hinfo.trans hi)).1, hlink.planDiffers, hinside]

/-! ### The rows of R84 -/

theorem blocks_of_info {side : Side} {s : State} {i : PeerInfo} (hi : s.sideInfo side = some i) :
    s.blocks side = (s.planDiffers side || (s.neighbourInside side && !i.heldFor side)) := by
  rw [blocks, hi]
  rfl

theorem seizeToRequest_zone (side : Side) (s : State) : ∃ o, (s.seizeToRequest side).zone side = { s.zone side with outstanding := o } := by
  unfold seizeToRequest
  dsimp only
  split
  · have hzone : (s.replaceFrame (s.zone side).frameId (.zone side .request)).zone side = s.zone side := by
      unfold replaceFrame
      split <;> rfl
    exact ⟨.request, by rw [onZone_zone, hzone]⟩
  · exact ⟨_, rfl⟩

theorem seizeToRequest_blocks (side : Side) (s : State) : (s.seizeToRequest side).blocks side = s.blocks side := by
  have hlink := seizeToRequest_linkStep side s
  obtain ⟨o, ho⟩ := seizeToRequest_zone side s
  exact blocks_congr hlink.ps (hlink.sideInfo side) (by rw [ho])

/-- A neighbour that works to this plan and holds the zone, or stands outside it, does not block it. -/
theorem blocks_of_fair {side : Side} {s : State} {i : PeerInfo} (hi : s.sideInfo side = some i) (hplan : s.planDiffers side = false)
    (hfair : i.heldFor side = true ∨ s.neighbourInside side = false) : s.blocks side = false := by
  rw [blocks_of_info hi, hplan]
  rcases hfair with h | h <;> simp [h]

theorem zoneChange_state_of_fair {side : Side} {s : State} (h : s.blocks side = false) (st : ZoneState) :
    ((s.zoneChange side st).zone side).state = st := by
  rw [zoneChange_state, h, Bool.and_false, if_neg Bool.false_ne_true]

theorem zoneChange_blocked (side : Side) (s : State) : ((s.zoneChange side .blocked).zone side).state = .blocked := by
  rw [zoneChange_state]
  exact if_neg Bool.false_ne_true

theorem sendOutstanding_zone (side : Side) (o : Outstanding) (a : ZoneAction) (s : State) :
    (s.sendOutstanding side o a).zone side = { s.zone side with outstanding := o, frameId := s.lc.nextId } := by
  unfold sendOutstanding
  rw [onZone_zone, offerZone, zone, offer_zc, zone]

theorem seizeRequested_state (side : Side) (s : State) : ((s.seizeRequested side).zone side).state = (s.zone side).state := by
  unfold seizeRequested
  dsimp only
  split
  · rw [sendOutstanding_zone, onZone_zone]
  · rw [onZone_zone]

theorem dualHold_zone (side : Side) (s : State) : (s.dualHold side).zone side = if (s.zone side).laterSeize then s.zone side
    else { s.zone side with dual := true, progress := if (s.zone side).progress = .no then .due else (s.zone side).progress } := by
  unfold dualHold
  split
  · rfl
  · rw [onZone_zone]

section
variable {side : Side} {s : State} {i : PeerInfo} (hi : s.sideInfo side = some i)
include hi

/-- A neighbour with another plan blocks the zone (R79). -/
theorem reconcileZone_otherPlan (hplan : s.planDiffers side = true) (hnone : (s.zone side).state ≠ .noZone)
    (hheld : (s.zone side).state ≠ .heldOwn) : ((s.reconcileZone side).zone side).state = .blocked := by
  have hrow : s.reconcileZone side = s.applyBlock side := by simp only [reconcileZone, hi, hplan, if_true]
  have hblocks : s.blocks side = true := by rw [blocks, hplan, Bool.true_or]
  rw [hrow, applyBlock_state, hblocks, Bool.and_true]
  cases hstate : (s.zone side).state with
  | noZone => exact absurd hstate hnone
  | heldOwn => exact absurd hstate hheld
  | free | heldOther | requested | blocked | yielding => rfl

variable (hplan : s.planDiffers side = false)
include hplan

/-- The neighbour holds a zone that stood open, or was barred by it. -/
theorem reconcileZone_taken (hheld : i.heldFor side = true)
    (hstate : (s.zone side).state = .free ∨ (s.zone side).state = .blocked ∨ (s.zone side).state = .yielding) :
    ((s.reconcileZone side).zone side).state = .heldOther := by
  have hblocks := blocks_of_fair hi hplan (.inl hheld)
  rcases hstate with h | h | h
  · have hrow : s.reconcileZone side = (s.seizeToRequest side).zoneChange side .heldOther := by
      simp only [reconcileZone, hi, hplan, h, hheld, Bool.false_eq_true, if_false]
    rw [hrow, zoneChange_state_of_fair (by rw [seizeToRequest_blocks, hblocks])]
  all_goals
    have hrow : s.reconcileZone side = s.zoneChange side .heldOther := by
      simp only [reconcileZone, hi, hplan, h, hheld, Bool.false_eq_true, if_false]
    rw [hrow, zoneChange_state_of_fair hblocks]

theorem reconcileZone_heldStill (hheld : i.heldFor side = true) (h : (s.zone side).state = .heldOther) : s.reconcileZone side = s := by
  simp only [reconcileZone, hi, hplan, h, hheld, Bool.false_eq_true, if_false]

/-- The neighbour stands inside a zone that it does not hold. -/
theorem reconcileZone_barred (hheld : i.heldFor side = false) (hinside : s.neighbourInside side = true)
    (hstate : (s.zone side).state = .free ∨ (s.zone side).state = .heldOther ∨ (s.zone side).state = .requested
      ∨ (s.zone side).state = .blocked ∨ (s.zone side).state = .yielding) :
    ((s.reconcileZone side).zone side).state = .blocked := by
  rcases hstate with h | h | h | h | h
  case inr.inr.inr.inl =>
    have hrow : s.reconcileZone side = s := by
      simp only [reconcileZone, hi, hplan, h, hheld, hinside, Bool.false_eq_true, if_false]
    rw [hrow, h]
  all_goals
    have hrow : s.reconcileZone side = s.zoneChange side .blocked := by
      simp only [reconcileZone, hi, hplan, h, hheld, hinside, Bool.false_eq_true, if_false]
    rw [hrow, zoneChange_blocked]

/-- The neighbour is gone from a zone that it held, or barred. -/
theorem reconcileZone_freed (hheld : i.heldFor side = false) (hinside : s.neighbourInside side = false)
    (hstate : (s.zone side).state = .heldOther ∨ (s.zone side).state = .blocked) :
    ((s.reconcileZone side).zone side).state = .free := by
  have hrow : s.reconcileZone side = s.zoneChange side .free := by
    rcases hstate with h | h <;> simp only [reconcileZone, hi, hplan, h, hheld, hinside, Bool.false_eq_true, if_false]
  rw [hrow, zoneChange_state_of_fair (blocks_of_fair hi hplan (.inr hinside))]

theorem reconcileZone_freeStill (hheld : i.heldFor side = false) (hinside : s.neighbourInside side = false)
    (hstate : (s.zone side).state = .free ∨ (s.zone side).state = .yielding) : s.reconcileZone side = s := by
  rcases hstate with h | h <;> simp only [reconcileZone, hi, hplan, h, hheld, hinside, Bool.false_eq_true, if_false]

theorem reconcileZone_requestedStill (hheld : i.heldFor side = true) (h : (s.zone side).state = .requested) :
    ((s.reconcileZone side).zone side).state = .requested := by
  have hrow : s.reconcileZone side
      = if (s.zone side).releaseHeard && !s.neighbourInside side then s.seizeRequested side else s := by
    simp only [reconcileZone, hi, hplan, h, hheld, Bool.false_eq_true, if_false]
  rw [hrow]
  split
  · rw [seizeRequested_state, h]
  · exact h

theorem reconcileZone_released (hheld : i.heldFor side = false) (hinside : s.neighbourInside side = false)
    (h : (s.zone side).state = .requested) : s.reconcileZone side = s.hearRelease side := by
  simp only [reconcileZone, hi, hplan, h, hheld, hinside, Bool.false_eq_true, if_false]

/-- A zone held here: the neighbour's flags make a dual hold of it, and a pending request (R82). -/
theorem reconcileZone_own (h : (s.zone side).state = .heldOwn) : (s.reconcileZone side).zone side
    = let z := if i.heldFor side then (s.dualHold side).zone side else s.zone side
      if i.requestedFor side then z.recordRequest else z := by
  have hrow : s.reconcileZone side = (let t := if i.heldFor side then s.dualHold side else s
      if i.requestedFor side then t.onZone side ZoneRecord.recordRequest else t) := by
    simp only [reconcileZone, hi, hplan, h, Bool.false_eq_true, if_false]
  rw [hrow]
  dsimp only
  rw [apply_ite (fun t : State => t.zone side), onZone_zone, apply_ite (fun t : State => t.zone side)]

end

end State

/-- Settles O38: where the zone lies, how its bounds come and go, and the table of R84 row by row. -/
theorem zoneReconciled : Obligations.ZoneReconciled := by
  refine ⟨fun j side p s hp hs hj hside => ⟨_, _, exec_presenceReceived hp hs hj, rfl, ?_⟩, fun s b x => ?_, fun side s => ?_,
    fun side s i hi => ⟨State.reconcileZone_otherPlan hi, fun hplan => ?_⟩⟩
  · have hs' : (s.heard (frameBytes j (.presence p))).ws.state.online = true := hs
    exact ⟨fun hrun hnone => (State.hearPresence_zone hs' hside hrun).trans (if_pos hnone),
      fun hrun hsome => (State.hearPresence_zone hs' hside hrun).trans (if_neg hsome)⟩
  · refine ⟨State.boundsNow_left_iff, State.boundsNow_right_iff, fun side => State.planDiffers_iff, fun side => State.neighbourInside_iff,
      fun side hat => ?_, fun side lo hi hat hbounds => ?_⟩
    · have hin := State.zoneAt_within hat
      cases hbounds : (s.zone side).bounds with
      | none =>
        rw [hbounds] at hin
        cases hin
      | some c =>
        rw [hbounds] at hin
        exact ⟨c.1, c.2, rfl, (State.within_some_iff c.1 c.2 x).mp hin⟩
    · have hout := State.zoneAt_none hat side
      rw [hbounds] at hout
      simp only [within, Bool.and_eq_false_iff, decide_eq_false_iff_not] at hout
      omega
  · exact ⟨State.rebound_unmade, fun b hb hnone => ⟨State.rebound_made_bounds hb hnone, fun i => State.rebound_made_state hb hnone⟩⟩
  · refine ⟨fun hstate hheld => State.reconcileZone_taken hi hplan hheld hstate,
      fun hstate hheld => State.reconcileZone_heldStill hi hplan hheld hstate,
      fun hstate hheld hinside => State.reconcileZone_barred hi hplan hheld hinside hstate,
      fun hstate hheld hinside => State.reconcileZone_freed hi hplan hheld hinside hstate,
      fun hstate hheld hinside => State.reconcileZone_freeStill hi hplan hheld hinside hstate,
      fun hstate hheld => State.reconcileZone_requestedStill hi hplan hheld hstate,
      fun hstate hheld hinside => State.reconcileZone_released hi hplan hheld hinside hstate, fun hstate => ?_⟩
    rw [State.reconcileZone_own hi hplan hstate, State.dualHold_zone]
    cases i.heldFor side <;> cases i.requestedFor side <;> cases (s.zone side).laterSeize <;>
      simp +contextual [hstate, ZoneRecord.recordRequest]

end Sys2Proof.Machine
end

section
/-! PROOFS. The timers of zones, draws and the cycle's waits (R77, R81, R117, R151 to R157). -/

namespace Sys2Proof.Machine

open Sys2Proof (Byte Word Data Stamp Datum Side Instr)

namespace State

/-! ### A hold that ends (R75, R79, R81) -/

/-- The first state is one that the neighbour's last PRESENCE does not block, and no hold. -/
theorem firstState_settles (side : Side) (s : State) :
    ((s.firstState side).blockable && s.blocks side) = false ∧ s.firstState side ≠ .heldOwn := by
  cases hi : s.sideInfo side with
  | none =>
    have hnone : s.firstState side = .noZone := by rw [firstState, hi]
    rw [hnone]
    exact ⟨rfl, by decide⟩
  | some i =>
    obtain ⟨-, hblocks, hown⟩ := firstState_rests hi
    exact ⟨hblocks, hown⟩

theorem zoneChange_firstState (side : Side) (s : State) : s.zoneChange side (s.firstState side) = s.zoneTo side (s.firstState side) := by
  rw [zoneChange, applyBlock_eq, zoneTo_state, zoneTo_blocks, (firstState_settles side s).1, if_neg Bool.false_ne_true]

theorem ZoneRecord.entering_from_hold {st : ZoneState} {z : ZoneRecord} (hz : z.state = .heldOwn) (hst : st ≠ .heldOwn) :
    (z.entering st).ownStamp = z.ownStamp ∧ (z.entering st).pending = false ∧ (z.entering st).cycles = 0
    ∧ (z.entering st).laterSeize = false ∧ (z.entering st).dual = false ∧ (z.entering st).progress = .no := by
  unfold ZoneRecord.entering
  rw [if_pos (by simp [hz, hst])]
  exact ⟨rfl, rfl, rfl, rfl, rfl, rfl⟩

theorem zoneTo_lc_of_none {side : Side} {s : State} (h : (s.zone side).outstanding = .no) (st : ZoneState) :
    (s.zoneTo side st).lc = s.lc := by
  unfold zoneTo
  dsimp only
  rw [tidyOutstanding_none h, ite_self]
  exact putZone_lc side _ s

/-- A self-lapse takes the hold out of the zone, without a frame of its own (R81). -/
theorem selfLapsed_eq {side : Side} {s : State} (h : (s.zone side).state = .heldOwn) :
    s.selfLapsed side = (s.raise .zoneLapsed).zoneTo side (s.firstState side) := by
  rw [selfLapsed, if_pos h]
  exact zoneChange_firstState side (s.raise .zoneLapsed)

/-- What is left of the hold (R81). -/
theorem selfLapsed_zone {side : Side} {s : State} (h : (s.zone side).state = .heldOwn) :
    ((s.selfLapsed side).zone side).state = s.firstState side
    ∧ ((s.selfLapsed side).zone side).ownStamp = (s.zone side).ownStamp ∧ ((s.selfLapsed side).zone side).pending = false
    ∧ ((s.selfLapsed side).zone side).cycles = 0 ∧ ((s.selfLapsed side).zone side).laterSeize = false
    ∧ ((s.selfLapsed side).zone side).dual = false ∧ ((s.selfLapsed side).zone side).progress = .no := by
  obtain ⟨o, ho⟩ := zoneTo_zone side (s.firstState side) (s.raise .zoneLapsed)
  rw [selfLapsed_eq h, ho]
  exact ⟨rfl, ZoneRecord.entering_from_hold (z := { s.zone side with outstanding := o }) h (firstState_settles side s).2⟩

theorem exec_selfLapse {side : Side} {s : State} (h : (s.zone side).state = .heldOwn) : exec (.selfLapse side) s = .next (settle
    ((s.reach (s.presenceTime + (s.cfg.holdPeriod - s.cfg.lapseMargin) + 1)).selfLapsed side)) := by
  have hdue : s.lapseDueAt side = some (s.presenceTime + (s.cfg.holdPeriod - s.cfg.lapseMargin) + 1) := by rw [lapseDueAt, if_pos h]
  exact congrArg (fun u => Host.Outcome.next (settle u)) (expire_some hdue _ s)

/-! ### The table's sums (R153, R154) -/

/-- What station j's entry counts, where its entry is one of those that a sum is taken of. -/
def drawShare (P : DrawEntry → Bool) (s : State) (j : Nat) : Nat :=
  match s.drawEntry j with
  | some e => if j ≠ s.k ∧ P e = true then e.amount else 0
  | none => 0

/-- A sum over the entries of the other stations, taken station by station. -/
theorem drawSum_filter_otherDraws (P : DrawEntry → Bool) (s : State) :
    drawSum (s.otherDraws.filter P) = (([1, 2, 3, 4, 5, 6, 7, 8] : List Nat).map (s.drawShare P)).sum := by
  have hlist : ∀ l : List Nat,
      drawSum (((l.filter fun n => n + 1 != s.k).filterMap fun n => s.drawEntry (n + 1)).filter P)
        = ((l.map (· + 1)).map (s.drawShare P)).sum := by
    intro l
    induction l with
    | nil => rfl
    | cons n l ih =>
      rw [List.map_cons, List.map_cons, List.sum_cons, ← ih, drawShare]
      by_cases hk : n + 1 = s.k
      · cases s.drawEntry (n + 1) <;> simp [hk]
      · have hkeep : (n + 1 != s.k) = true := by simpa using hk
        rw [List.filter_cons, if_pos hkeep, List.filterMap_cons]
        cases hd : s.drawEntry (n + 1) with
        | none => simp
        | some e => cases hP : P e <;> simp [hk, hP, drawSum]
  exact hlist (List.range 8)

theorem stampEarlier_iff (a b : Stamp) : stampEarlier a b = true ↔ 0 < (b - a).toNat ∧ (b - a).toNat < 2147483648 := by
  unfold stampEarlier
  simp only [Bool.and_eq_true, decide_eq_true_eq]
  omega

/-- The entries stamped earlier than the own one (R48, R153). -/
theorem earlierSum_eq (s : State) : s.earlierSum = (([1, 2, 3, 4, 5, 6, 7, 8] : List Nat).map fun j => match s.drawEntry j with
    | some e => if j ≠ s.k ∧ 0 < (s.du.own.ownStamp - e.stamp).toNat ∧ (s.du.own.ownStamp - e.stamp).toNat < 2147483648
        then e.amount else 0
    | none => 0).sum := by
  refine (drawSum_filter_otherDraws _ s).trans (congrArg List.sum (List.map_congr_left fun j _ => ?_))
  unfold drawShare
  cases s.drawEntry j with
  | none => rfl
  | some e => simp only [stampEarlier_iff]

/-! ### Frames of DU (R152, R154) -/

/-- The frame offered takes the next name. -/
theorem offer_mem (o : Owner) (b : Body) (s : State) :
    ∃ f ∈ (s.offer o b).lc.queue ++ (s.offer o b).lc.held, f.id = s.lc.nextId ∧ f.owner = o ∧ f.body = b := by
  unfold offer
  dsimp only
  split
  · exact ⟨_, List.mem_append_left _ ((mem_insertByClass _ _ _).mpr (Or.inl rfl)), rfl, rfl, rfl⟩
  · exact ⟨_, List.mem_append_right _ (List.mem_append_right _ (List.mem_singleton.mpr rfl)), rfl, rfl, rfl⟩

theorem setDraw_none_drawEntry (j : Nat) (s : State) : (s.setDraw j none).drawEntry j = none := by
  rw [setDraw, drawEntry]
  by_cases h : j - 1 < s.du.table.length
  · simp [h]
  · rw [List.getElem?_eq_none (by simpa using h)]
    rfl

/-- A withdrawal: the own entry emptied, WAITING for the draw life, the WITHDRAW offered (R154). -/
theorem withdraw_own (s : State) : s.withdraw.du.own.state = .waiting ∧ s.withdraw.du.own.waitDeadline = some (s.clock + s.cfg.drawLife)
    ∧ s.withdraw.du.own.withdrawId = some s.lc.nextId ∧ s.withdraw.du.supplyWaits = s.du.supplyWaits
    ∧ s.withdraw.drawEntry s.k = none := by
  have hoffer := offer_eq .du (.draw .withdraw 0 s.du.own.hole) (s.setDraw s.k none)
  have hempty := s.setDraw_none_drawEntry s.k
  unfold withdraw offerDraw
  dsimp only
  rw [hoffer]
  exact ⟨rfl, rfl, rfl, rfl, hempty⟩

theorem withdraw_rests (s : State) : s.withdraw.clock = s.clock ∧ s.withdraw.ws = s.ws ∧ s.withdraw.eu = s.eu ∧ s.withdraw.cs = s.cs
    ∧ s.withdraw.setup = s.setup := by
  unfold withdraw offerDraw
  dsimp only
  rw [offer_eq]
  exact ⟨rfl, rfl, rfl, rfl, rfl⟩

theorem withdraw_mem (s : State) : ∃ f ∈ s.withdraw.lc.queue ++ s.withdraw.lc.held, f.id = s.lc.nextId ∧ f.owner = .du
    ∧ f.body = .draw .withdraw 0 s.du.own.hole := offer_mem .du _ (s.setDraw s.k none)

theorem withdraw_offered (s : State) : s.withdraw.offered .du (.draw .withdraw 0 s.du.own.hole) :=
  offer_offered .du _ (s.setDraw s.k none)

/-! ### A fresh INTENT (R51, R154) -/

theorem queueIntent_own (s : State) : s.queueIntent.du = { s.du with own := { s.du.own.ended .queued with intentId := some s.lc.nextId } }
    ∧ s.queueIntent.clock = s.clock := by
  unfold queueIntent offerDraw
  dsimp only
  rw [offer_eq]
  exact ⟨rfl, rfl⟩

/-- The INTENT as a new frame. -/
theorem queueIntent_frame (s : State) : ∃ g : TxFrame, g.id = s.lc.nextId ∧ g.owner = .du
    ∧ g.body = .draw .intent s.du.own.amount s.du.own.hole
    ∧ (s.lc.queue.length < Config.queueSize → ∃ a b : List TxFrame, s.lc.queue = a ++ b
        ∧ s.queueIntent.lc = { s.lc with queue := a ++ g :: b, nextId := s.lc.nextId + 1 }
        ∧ (∀ f ∈ a, f.body.accessClass = 0) ∧ ∀ f, b.head? = some f → f.body.accessClass ≠ 0)
    ∧ (Config.queueSize ≤ s.lc.queue.length →
        s.queueIntent.lc = { s.lc with held := s.lc.held ++ [g], nextId := s.lc.nextId + 1 }) := by
  refine ⟨{ id := s.lc.nextId, owner := .du, body := .draw .intent s.du.own.amount s.du.own.hole, mark := s.du.intentBacks },
    rfl, rfl, rfl, fun hroom => ?_, fun hfull => ?_⟩
  · obtain ⟨a, b, hqueue, hinsert, ha, hb⟩ := insertByClass_class0
      { id := s.lc.nextId, owner := .du, body := .draw .intent s.du.own.amount s.du.own.hole, mark := s.du.intentBacks } rfl s.lc.queue
    refine ⟨a, b, hqueue, ?_, ha, hb⟩
    rw [← hinsert]
    unfold queueIntent offerDraw offer
    dsimp only
    rw [if_pos hroom]
    rfl
  · unfold queueIntent offerDraw offer
    dsimp only
    rw [if_neg (Nat.not_lt.mpr hfull)]
    rfl

/-- A fresh INTENT where no WITHDRAW waits to be replaced. -/
theorem queueIntent_freshlyIntended {s : State}
    (hnone : ¬ ∃ id, s.du.own.withdrawId = some id ∧ s.frameKept id = true ∧ s.inFlight id = false) : s.freshlyIntended s.queueIntent := by
  obtain ⟨hdu, -⟩ := queueIntent_own s
  obtain ⟨g, hid, howner, hbody, hroom, hfull⟩ := queueIntent_frame s
  refine ⟨?_, ?_, ?_, ?_, fun id hid hkept hfree => ?_, fun _ => ⟨?_, g, hid, howner, hbody, hroom, hfull⟩⟩
  · rw [hdu]
    unfold queueIntent offerDraw
    dsimp only
    rw [offer_eq]
    rfl
  · rw [hdu]
    rfl
  · rw [hdu]
    rfl
  · rw [hdu]
    rfl
  · exact absurd ⟨id, hid, (frameKept_iff id s).mpr hkept, hfree⟩ hnone
  · rw [hdu]

/-- A fresh INTENT in the place of a WITHDRAW that has not begun. -/
theorem replaced_freshlyIntended {s : State} {id : Nat} (hid : s.du.own.withdrawId = some id) (hkept : s.frameKept id = true)
    (hfree : s.inFlight id = false) : s.freshlyIntended ((s.replaceFrame id (.draw .intent s.du.own.amount s.du.own.hole)).onIntent
      fun o => { o.ended .queued with intentId := some id, withdrawId := none }) := by
  have hmem := (frameKept_iff id s).mp hkept
  unfold replaceFrame
  rw [hfree, if_neg Bool.false_ne_true]
  refine ⟨rfl, rfl, rfl, rfl, fun id' hid' _ _ => ?_, fun hgone => ?_⟩
  · rw [hid, Option.some.injEq] at hid'
    subst hid'
    exact ⟨rfl, rfl⟩
  · rcases hgone id hid with habsent | hflight
    · obtain ⟨f, hf, hname⟩ := hmem
      exact absurd hname (habsent f hf)
    · rw [hfree] at hflight
      cases hflight

theorem freshIntent_freshlyIntended (s : State) : s.freshlyIntended s.freshIntent := by
  unfold freshIntent
  cases hid : s.du.own.withdrawId with
  | none => exact queueIntent_freshlyIntended (by simp [hid])
  | some id =>
    dsimp only
    by_cases hold : (s.frameKept id && !s.inFlight id) = true
    · rw [if_pos hold]
      simp only [Bool.and_eq_true, Bool.not_eq_true'] at hold
      exact replaced_freshlyIntended hid hold.1 hold.2
    · rw [if_neg hold]
      refine queueIntent_freshlyIntended ?_
      rintro ⟨id', hid', hkept, hfree⟩
      rw [hid, Option.some.injEq] at hid'
      subst hid'
      exact hold (by rw [hkept, hfree]; rfl)

/-! ### The decision and the supply check (R153, R155, R156) -/

theorem decideDraw_room {s : State} (h : s.earlierSum + s.du.own.amount ≤ s.cfg.capacity) :
    s.decideDraw.du.own.state = .supplyCheck ∧ s.decideDraw.du.own.pollAsked = true ∧ s.decideDraw.du.own.supplyStart = some s.clock
    ∧ s.decideDraw.du.table = s.du.table ∧ s.decideDraw.lc = s.lc ∧ s.decideDraw.clock = s.clock := by
  rw [decideDraw, if_pos h]
  exact ⟨rfl, rfl, rfl, rfl, rfl, rfl⟩

theorem decideDraw_full {s : State} (h : s.cfg.capacity < s.earlierSum + s.du.own.amount) : s.decideDraw = s.withdraw := by
  rw [decideDraw, if_neg (Nat.not_le.mpr h)]

/-! ### A failed supply wait (R156) -/

/-- From d to d' DU's count of failed supply waits stands, and its whole record does where it has no own intent. -/
structure DrawKept (d d' : DrawUnit) : Prop where
  waits : d'.supplyWaits = d.supplyWaits
  none : d.own.state = .no → d' = d

theorem DrawKept.of_eq {d d' : DrawUnit} (h : d' = d) : DrawKept d d' := ⟨by rw [h], fun _ => h⟩

theorem DrawKept.trans {d d' d'' : DrawUnit} (h : DrawKept d d') (h' : DrawKept d' d'') : DrawKept d d'' :=
  ⟨h'.waits.trans h.waits, fun hno => (h'.none ((congrArg (·.own.state) (h.none hno)).trans hno)).trans (h.none hno)⟩

theorem removeFrame_du (id : Nat) (s : State) : (s.removeFrame id).du = s.du := by rw [(removeFrame_linkStep id s).frame]

theorem giveUpIntent_drawKept {d : DrawUnit} {s : State} (hd : s.du = d) : DrawKept d s.giveUpIntent.du := by
  subst hd
  unfold giveUpIntent
  split
  case h_1 | h_2 => exact .of_eq rfl
  all_goals
    rename_i hstate
    refine ⟨?_, fun hno => by rw [hno] at hstate; cases hstate⟩
  case h_3 =>
    dsimp only [onIntent]
    split
    · rw [removeFrame_du]
    · rfl
  case h_7 => rfl
  all_goals
    unfold offerDraw
    rw [offer_eq]
    rfl

theorem takeEnding_drawKept {d : DrawUnit} {s : State} (hd : s.du = d) (cause : EndCause) (through : Bool) :
    DrawKept d (s.takeEnding cause through).du := by
  subst hd
  unfold takeEnding
  split
  · exact .of_eq rfl
  · split
    · exact .of_eq rfl
    · dsimp only
      split
      · exact .of_eq rfl
      · split
        · exact giveUpIntent_drawKept rfl
        · exact .of_eq rfl

theorem endLone_du (how : LoneEnd) (s : State) : (s.endLone how).du = s.du := by
  unfold endLone
  repeat' split
  all_goals rfl

theorem dropSelection_du (s : State) : s.dropSelection.du = s.du := by
  unfold dropSelection
  split
  · rfl
  · split
    case h_1 | h_2 =>
      split
      · rfl
      · exact removeFrame_du _ _
    all_goals rfl

theorem giveUpZones_du (s : State) : s.giveUpZones.du = s.du := by
  have hzone : ∀ (side : Side) (t : State), (t.giveUpZone side).du = t.du := fun side t => by rw [(giveUpZone_linkStep side t).frame]
  rw [giveUpZones, hzone, hzone]

/-- A fault leaves the count of failed supply waits, and an own intent that is NONE (R159, R167). -/
theorem enterFaulted_drawKept (src : FaultSource) (s : State) : DrawKept s.du (s.enterFaulted src).du := by
  have entered : ∀ opened : Bool, DrawKept s.du (giveUpIntent (giveUpZones
      { dropSelection (endLone .fault (takeEnding .fault true (setWork .faulted
          { s.recordCause src with eu.linkSuccess := false, ws.jigOpened := opened }))) with ws.park := .no })).du := fun opened => by
    refine DrawKept.trans ?_ (giveUpIntent_drawKept rfl)
    rw [giveUpZones_du]
    dsimp only
    rw [dropSelection_du, endLone_du]
    exact takeEnding_drawKept (by rfl) .fault true
  unfold enterFaulted
  split
  case h_1 | h_2 | h_3 | h_4 => exact entered _
  all_goals exact .of_eq rfl

theorem supplyFaulted_rests {s : State} (h : s.du.supplyWaits < 3) : s.supplyFaulted = s := if_neg (Nat.not_le.mpr h)

theorem supplyFaulted_faults {s : State} (h : 3 ≤ s.du.supplyWaits) (hwork : s.ws.state = .working) :
    s.supplyFaulted.ws.state = .faulted := by
  have hentered : s.supplyFaulted = s.enterFaulted .supplyLow := if_pos h
  rw [hentered]
  exact congrArg (fun d => d.2.2) (enterFaulted_duties .supplyLow (s := s) (.inr (.inr (.inl hwork))))

theorem supplyFaulted_waits (s : State) : s.supplyFaulted.du.supplyWaits = s.du.supplyWaits := by
  unfold supplyFaulted
  split
  · exact (enterFaulted_drawKept .supplyLow s).waits
  · rfl

/-- A supply wait that fails: SUPPLY LOW raised, counted, and the intent withdrawn. -/
theorem supplyFails_eq (s : State) : s.supplyFails = withdraw { s.raise .supplyLow with du.supplyWaits := s.du.supplyWaits + 1 } := rfl

/-- What a supply wait that fails comes to: the first and second time a withdrawal, the third time FAULTED. -/
theorem limitPasses_spec (s : State) : s.limitPasses.du.supplyWaits = s.du.supplyWaits + 1
    ∧ (s.du.supplyWaits < 2 → s.limitPasses = s.supplyFails)
    ∧ (2 ≤ s.du.supplyWaits → s.ws.state = .working → s.limitPasses.ws.state = .faulted) := by
  have hwaits : s.supplyFails.du.supplyWaits = s.du.supplyWaits + 1 := (withdraw_own _).2.2.2.1
  have hws : s.supplyFails.ws = s.ws := (withdraw_rests _).2.1
  refine ⟨(supplyFaulted_waits _).trans hwaits, fun hfew => supplyFaulted_rests (by omega), fun hmany hwork => ?_⟩
  exact supplyFaulted_faults (by omega) ((congrArg (·.state) hws).trans hwork)

end State

open State in
/-- Settles O48: each timer's command brings the clock to its time and does what its block does then. -/
theorem zoneAndDrawTimers : Obligations.ZoneAndDrawTimers := by
  intro s
  refine ⟨fun side hheld => ⟨_, exec_selfLapse hheld, ?_⟩, fun t ht => by rw [presenceTime, ht], fun hnone => by rw [presenceTime, hnone],
    fun side t hstate hdeadline => ?_, fun j e hstate hother he => ?_, fun t hstate hdeadline => ?_, s.earlierSum_eq,
    fun t hstate hdeadline => ?_, fun t hstate hasked hreading hpoll => ?_, fun t hstate hbelow hreading hstart => ?_, fun hstate => ?_,
    fun t hcycle hclamp => ?_, fun t hcycle hsqueeze => ?_⟩
  · generalize hr : s.reach (s.presenceTime + (s.cfg.holdPeriod - s.cfg.lapseMargin) + 1) = r
    have hrheld : (r.zone side).state = .heldOwn := hr ▸ hheld
    obtain ⟨hstate, hstamp, hpending, hcycles, hlater, hdual, hprogress⟩ := selfLapsed_zone hrheld
    have hlink : LinkStep (r.raise .zoneLapsed) (r.selfLapsed side) := selfLapsed_eq hrheld ▸ zoneTo_linkStep side _ _
    subst hr
    refine ⟨hstate ▸ (firstState_settles side _).2, hstamp, hpending, hcycles, hlater, hdual, hprogress, fun hnone => ?_, fun i hi => ?_,
      fun x hx => ?_, ?_⟩
    · rw [selfLapsed_eq hrheld]
      exact zoneTo_lc_of_none (s := raise .zoneLapsed (s.reach _)) hnone _
    · exact hstate.trans (firstState_rests (s := s.reach _) hi).1
    · rw [hlink.eu]
      exact raise_source .zoneLapsed (s := s.reach _) hx
    · rw [hlink.clock]
      show s.cfg.holdPeriod - s.cfg.lapseMargin < max s.clock (s.presenceTime + (s.cfg.holdPeriod - s.cfg.lapseMargin) + 1) - s.presenceTime
      omega
  · have hdue : s.yieldDueAt side = some t := by rw [yieldDueAt, if_pos hstate, hdeadline]
    have hover : (s.reach t).yieldOver side = (s.reach t).zoneChange side .free := if_pos hstate
    refine ⟨_, congrArg (fun u => Host.Outcome.next (settle u)) ((expire_some hdue _ s).trans hover), ?_, ?_⟩
    · exact (zoneChange_linkStep side .free (s.reach t)).clock
    · rw [zoneChange_state]
      rfl
  · have hdue : s.drawDueAt j = some (e.time + s.cfg.drawLife) := by
      rw [drawDueAt, he, hother, Bool.and_true, if_pos (by simpa using hstate)]
      rfl
    have hempty : (s.reach (e.time + s.cfg.drawLife)).emptyDraw j = removal (State.setDraw j none (s.reach (e.time + s.cfg.drawLife))) := by
      have hentry : (s.reach (e.time + s.cfg.drawLife)).drawEntry j = some e := he
      rw [emptyDraw, hentry]
    exact congrArg (fun u => Host.Outcome.next (settle u)) ((expire_some hdue _ s).trans hempty)
  · have hdue : s.settleDueAt = some t := by rw [settleDueAt, if_pos hstate, hdeadline]
    refine ⟨_, congrArg (fun u => Host.Outcome.next (settle u)) (expire_some hdue _ s), ?_, fun hroom => ?_, fun hfull => ?_⟩
    · by_cases hroom : (s.reach t).earlierSum + (s.reach t).du.own.amount ≤ (s.reach t).cfg.capacity
      · exact (decideDraw_room hroom).2.2.2.2.2
      · rw [decideDraw_full (Nat.not_le.mp hroom)]
        exact (withdraw_rests _).1
    · obtain ⟨hcheck, hasked, hstart, htable, hlc, hclock⟩ := decideDraw_room (s := s.reach t) hroom
      exact ⟨hcheck, hasked, hstart.trans (congrArg some hclock.symm), htable, hlc⟩
    · obtain ⟨hwaiting, hwait, hname, -, hentry⟩ := withdraw_own (s.reach t)
      rw [decideDraw_full (s := s.reach t) hfull]
      exact ⟨hwaiting, by rw [hwait, (withdraw_rests _).1]; rfl, hentry, hname, withdraw_mem (s.reach t)⟩
  · have hdue : s.waitDueAt = some t := by rw [waitDueAt, if_pos hstate, hdeadline]
    have hfresh := freshIntent_freshlyIntended (s.reach t)
    refine ⟨_, congrArg (fun u => Host.Outcome.next (settle u)) (expire_some hdue _ s), ?_, hfresh.2.1, hfresh⟩
    rw [hfresh.1]
    rfl
  · have hdue : s.pollDueAt = some t := by rw [pollDueAt, hstate, hasked, hreading, hpoll]; rfl
    exact congrArg (fun u => Host.Outcome.next (settle u)) (expire_some hdue _ s)
  · have hdue : s.limitDueAt = some (t + s.cfg.pressureWait) := by rw [limitDueAt, hstate, hbelow, hreading, hstart]; rfl
    obtain ⟨hwaits, hfew, hmany⟩ := limitPasses_spec (s.reach (t + s.cfg.pressureWait))
    refine ⟨_, congrArg (fun u => Host.Outcome.next (settle u)) (expire_some hdue _ s), hwaits, fun h => ?_, hmany⟩
    rw [hfew h, supplyFails_eq]
    exact ⟨(withdraw_own _).1, (withdraw_rests _).2.1, withdraw_offered _⟩
  · have hdue : s.renewalDueAt = some (s.du.own.readBack + s.cfg.drawLife) := by
      rw [renewalDueAt]
      exact if_pos (by simpa using hstate)
    obtain ⟨hdu, hclock⟩ := queueIntent_own (s.reach (s.du.own.readBack + s.cfg.drawLife))
    refine ⟨_, congrArg (fun u => Host.Outcome.next (settle u)) (expire_some hdue _ s), ?_, hclock, ?_⟩
    · rw [renewIntent, hdu]
      rfl
    · rw [renewIntent, hdu]
      rfl
  · have hdue : s.clampDueAt = some (t + s.cfg.clampSettle) := by
      rw [clampDueAt, Option.isSome_iff_ne_none.mpr hcycle, hclamp]
      rfl
    exact congrArg (fun u => Host.Outcome.next (settle u)) (expire_some hdue _ s)
  · have hdue : s.ramDueAt = some (t + s.cfg.ramRecovery) := by
      rw [ramDueAt, Option.isSome_iff_ne_none.mpr hcycle, hsqueeze]
      rfl
    exact congrArg (fun u => Host.Outcome.next (settle u)) (expire_some hdue _ s)

end Sys2Proof.Machine
end

section
/-! PROOFS. ZONE and DRAW frames heard (R71 to R74, R78, R79, R149, R150, R154). -/

namespace Sys2Proof.Machine

open Sys2Proof (Byte Word Data Stamp Datum Side Instr)

namespace State

/-! ### From the frame to its block (R57, R58, R71) -/

/-- A frame of another kind than PRESENCE, from a station whose frames are dispatched, comes to the block of its kind, stamped. -/
theorem exec_dispatched {s : State} {j : Nat} {b : Body} (hb : bodyFits b = true) (hkind : ∀ p, b ≠ .presence p) (hs : s.dispatches j) :
    exec (heardRow b (frameBytes j b)) s
      = .next ((s.heard (frameBytes j b)).dispatchKind j b (s.lc.stamp + 1)).settle := by
  obtain ⟨hactive, hj, i, hi, hcheck⟩ := hs
  have hdispatch : (s.heard (frameBytes j b)).dispatch j b = (s.heard (frameBytes j b)).dispatchKind j b (s.lc.stamp + 1) := by
    have hpasses : ((s.heard (frameBytes j b)).ws.state.active && (s.heard (frameBytes j b)).planFilter j b) = true := by
      have hinfo : ((s.heard (frameBytes j b)).peer j).info = some i := hi
      unfold planFilter
      rw [hinfo]
      exact Bool.and_eq_true_iff.mpr ⟨hactive, decide_eq_true hcheck⟩
    cases b with
    | presence p => exact absurd rfl (hkind p)
    | _ => exact if_pos hpasses
  rw [exec_heardRow, hearFrame_frameBytes hb (WorkState.online_of_active hactive) hj, hdispatch]

theorem exec_zoneHeard {s : State} {j : Nat} (named : Side) (a : ZoneAction) (hs : s.dispatches j) :
    exec (heardRow (.zone named a) (frameBytes j (.zone named a))) s
      = .next ((s.heard (frameBytes j (.zone named a))).dispatchKind j (.zone named a) (s.lc.stamp + 1)).settle :=
  exec_dispatched rfl (fun _ h => nomatch h) hs

theorem exec_drawHeard {s : State} {j amount hole : Nat} (a : DrawAction) (hamount : amount < 256) (hhole : hole ≤ 2047)
    (hs : s.dispatches j) : exec (heardRow (.draw a amount hole) (frameBytes j (.draw a amount hole))) s
      = .next ((s.heard (frameBytes j (.draw a amount hole))).dispatchKind j (.draw a amount hole) (s.lc.stamp + 1)).settle := by
  have hfits : bodyFits (.draw a amount hole) = true := Bool.and_eq_true_iff.mpr ⟨decide_eq_true hamount, decide_eq_true hhole⟩
  exact exec_dispatched hfits (fun _ h => nomatch h) hs

/-- The left neighbour names the zone its right, the right neighbour its left (R71). -/
theorem zoneNamed_iff {c : Setup} {j : Nat} {named side : Side} : c.zoneNamed j named = some side
    ↔ (named = .right ∧ side = .left ∧ 1 < c.station ∧ j + 1 = c.station)
      ∨ (named = .left ∧ side = .right ∧ c.station < c.stations ∧ j = c.station + 1) := by
  have hleft : c.neighbour .left = some j ↔ 1 < c.station ∧ j + 1 = c.station := by
    by_cases h : 1 < c.station
    · simp only [Setup.neighbour, h, if_true, Option.some.injEq, true_and]
      omega
    · simp [Setup.neighbour, h]
  have hright : c.neighbour .right = some j ↔ c.station < c.stations ∧ j = c.station + 1 := by
    by_cases h : c.station < c.stations
    · simp only [Setup.neighbour, h, if_true, Option.some.injEq, true_and]
      omega
    · simp [Setup.neighbour, h]
  unfold Setup.zoneNamed Setup.sideOf
  simp only [hleft, hright]
  by_cases hl : 1 < c.station ∧ j + 1 = c.station
  · rw [if_pos hl]
    have hr : ¬ (c.station < c.stations ∧ j = c.station + 1) := by omega
    cases named <;> cases side <;> simp [hl, hr]
  · rw [if_neg hl]
    by_cases hr : c.station < c.stations ∧ j = c.station + 1
    · rw [if_pos hr]
      have hfar : ¬ (1 < c.station ∧ c.station + 1 + 1 = c.station) := by omega
      cases named <;> cases side <;> simp [hfar, hr]
    · rw [if_neg hr]
      cases named <;> cases side <;> simp [hl, hr]

/-- A ZONE frame for the zone shared comes to what ZC makes of its action. -/
theorem dispatchKind_zone {j : Nat} {named side : Side} {stamp : Stamp} {s : State} (h : s.cfg.zoneNamed j named = some side) :
    s.dispatchKind j (.zone named .seize) stamp = s.hearSeize side
    ∧ s.dispatchKind j (.zone named .release) stamp = s.hearRelease side
    ∧ s.dispatchKind j (.zone named .request) stamp = s.hearRequest side := by
  simp only [dispatchKind, h, and_self]

/-! ### A SEIZE heard (R73) -/

theorem replaceFrame_zone (id : Nat) (b : Body) (side : Side) (s : State) : (s.replaceFrame id b).zone side = s.zone side := by
  unfold replaceFrame
  split <;> rfl

theorem seizeToRequest_outstanding (side : Side) (s : State) : (s.seizeToRequest side).zone side = { s.zone side with
    outstanding := if (s.zone side).outstanding = .seize ∧ s.inFlight (s.zone side).frameId = false then .request
      else (s.zone side).outstanding } := by
  unfold seizeToRequest
  dsimp only
  by_cases h : (s.zone side).outstanding = .seize ∧ s.inFlight (s.zone side).frameId = false
  · rw [if_pos h, if_pos (by rw [h.2]; simpa using h.1), onZone_zone, replaceFrame_zone]
  · rw [if_neg h, if_neg (by simpa using h)]

/-- The frame replaced says what it is replaced with. -/
theorem replaceFrame_body {id : Nat} {s : State} (b : Body) (hfree : s.inFlight id = false) :
    ∀ f ∈ (s.replaceFrame id b).lc.queue ++ (s.replaceFrame id b).lc.held, f.id = id → f.body = b := by
  have hswap : ∀ g : TxFrame, (if g.id = id then { g with body := b } else g).id = id →
      (if g.id = id then { g with body := b } else g).body = b := fun g => by
    split
    · exact fun _ => rfl
    · exact fun h => absurd h ‹_›
  unfold replaceFrame
  rw [hfree, if_neg Bool.false_ne_true]
  intro f hf hid
  rcases List.mem_append.mp hf with hf | hf
  all_goals
    obtain ⟨g, -, rfl⟩ := List.mem_map.mp hf
    exact hswap g hid

theorem seizeToRequest_lc {side : Side} {s : State} (hseize : (s.zone side).outstanding = .seize)
    (hfree : s.inFlight (s.zone side).frameId = false) :
    (s.seizeToRequest side).lc = (s.replaceFrame (s.zone side).frameId (.zone side .request)).lc := by
  unfold seizeToRequest
  dsimp only
  rw [if_pos (by rw [hfree, hseize]; rfl)]
  exact putZone_lc side _ _

theorem hearSeize_noZone {side : Side} {s : State} (h : (s.zone side).state = .noZone) : s.hearSeize side = s := by
  unfold hearSeize
  dsimp only
  rw [if_pos h, h]

theorem hearSeize_held {side : Side} {s : State} (h : (s.zone side).state = .heldOwn) :
    s.hearSeize side = (s.seizeToRequest side).onZone side fun z => { z.recordRequest with laterSeize := true } := by
  have hstate : ((s.seizeToRequest side).zone side).state = .heldOwn := by rw [seizeToRequest_outstanding, h]
  unfold hearSeize
  dsimp only
  rw [if_neg (by rw [h]; decide), hstate]

theorem hearSeize_taken {side : Side} {s : State} (hnone : (s.zone side).state ≠ .noZone) (hheld : (s.zone side).state ≠ .heldOwn) :
    s.hearSeize side = (s.seizeToRequest side).zoneChange side .heldOther := by
  have hstate : ((s.seizeToRequest side).zone side).state = (s.zone side).state := by rw [seizeToRequest_outstanding]
  unfold hearSeize
  dsimp only
  rw [if_neg hnone]
  split
  · exact absurd (hstate.symm.trans ‹_›) hnone
  · exact absurd (hstate.symm.trans ‹_›) hheld
  all_goals rfl

theorem hearSeize_held_zone {side : Side} {s : State} (h : (s.zone side).state = .heldOwn) :
    (s.hearSeize side).zone side = { s.zone side with
      pending := true, laterSeize := true, cycles := if (s.zone side).pending then (s.zone side).cycles else 0,
      outstanding := if (s.zone side).outstanding = .seize ∧ s.inFlight (s.zone side).frameId = false then .request
        else (s.zone side).outstanding } := by
  rw [hearSeize_held h, onZone_zone, seizeToRequest_outstanding]
  rfl

theorem hearSeize_state {side : Side} {s : State} (hnone : (s.zone side).state ≠ .noZone) (hheld : (s.zone side).state ≠ .heldOwn) :
    ((s.hearSeize side).zone side).state = if s.blocks side then .blocked else .heldOther := by
  rw [hearSeize_taken hnone hheld, zoneChange_state, seizeToRequest_blocks]
  rfl

/-- A zone that becomes HELD-OTHER unblocked keeps its REQUEST, and LC what it has (R74). -/
theorem zoneChange_heldOther_request {side : Side} {s : State} (hrequest : (s.zone side).outstanding = .request)
    (hblocks : s.blocks side = false) : ((s.zoneChange side .heldOther).zone side).outstanding = .request
      ∧ (s.zoneChange side .heldOther).lc = s.lc := by
  have htidy : s.tidyOutstanding side .heldOther = s := by
    unfold tidyOutstanding
    rw [hrequest]
  have hto : s.zoneTo side .heldOther = s.onZone side (·.entering .heldOther) := by
    unfold zoneTo
    dsimp only
    rw [htidy, ite_self]
  have hchange : s.zoneChange side .heldOther = s.onZone side (·.entering .heldOther) := by
    rw [zoneChange, applyBlock_eq, zoneTo_blocks, hblocks, Bool.and_false, if_neg Bool.false_ne_true, hto]
  rw [hchange, onZone_zone, ZoneRecord.entering_outstanding, hrequest]
  exact ⟨rfl, putZone_lc side _ s⟩

/-- A SEIZE of this station's own still to be sent gives way to a REQUEST (R73). -/
theorem hearSeize_replaces {side : Side} {s : State} (hnone : (s.zone side).state ≠ .noZone)
    (hseize : (s.zone side).outstanding = .seize) (hfree : s.inFlight (s.zone side).frameId = false)
    (hfair : (s.zone side).state = .heldOwn ∨ s.blocks side = false) :
    ((s.hearSeize side).zone side).outstanding = .request
    ∧ ∀ f ∈ (s.hearSeize side).lc.queue ++ (s.hearSeize side).lc.held, f.id = (s.zone side).frameId → f.body = .zone side .request := by
  have hrequest : ((s.seizeToRequest side).zone side).outstanding = .request := by
    rw [seizeToRequest_outstanding]
    exact if_pos ⟨hseize, hfree⟩
  have hlc : (s.hearSeize side).lc = (s.seizeToRequest side).lc ∧ ((s.hearSeize side).zone side).outstanding = .request := by
    by_cases hheld : (s.zone side).state = .heldOwn
    · rw [hearSeize_held hheld, onZone_zone]
      exact ⟨putZone_lc side _ _, hrequest⟩
    · have hblocks := hfair.resolve_left hheld
      obtain ⟨hkept, hlc⟩ := zoneChange_heldOther_request hrequest (by rw [seizeToRequest_blocks, hblocks])
      rw [hearSeize_taken hnone hheld]
      exact ⟨hlc, hkept⟩
  refine ⟨hlc.2, ?_⟩
  rw [hlc.1, seizeToRequest_lc hseize hfree]
  exact replaceFrame_body _ hfree

/-! ### A REQUEST and a RELEASE heard (R74, R78) -/

theorem hearRequest_held {side : Side} {s : State} (h : (s.zone side).state = .heldOwn) :
    (s.hearRequest side).zone side = { s.zone side with
      pending := true, cycles := if (s.zone side).pending then (s.zone side).cycles else 0 } := by
  rw [hearRequest, if_pos h, onZone_zone]
  rfl

theorem hearRequest_rests {side : Side} {s : State} (h : (s.zone side).state ≠ .heldOwn) : s.hearRequest side = s := if_neg h

theorem hearRelease_rests {side : Side} {s : State} (hother : (s.zone side).state ≠ .heldOther)
    (hrequested : (s.zone side).state ≠ .requested) : s.hearRelease side = s := by
  unfold hearRelease
  split
  · exact absurd ‹_› hother
  · exact absurd ‹_› hrequested
  all_goals rfl

theorem hearRelease_other {side : Side} {s : State} (h : (s.zone side).state = .heldOther) :
    s.hearRelease side = s.zoneChange side .free := by
  unfold hearRelease
  rw [h]

theorem hearRelease_requested {side : Side} {s : State} (h : (s.zone side).state = .requested) :
    s.hearRelease side = if !s.wants side then s.zoneChange side .free
      else if s.neighbourInside side then s.onZone side fun z => { z with releaseHeard := true } else s.seizeRequested side := by
  unfold hearRelease
  rw [h]

theorem zoneChange_free_state (side : Side) (s : State) :
    ((s.zoneChange side .free).zone side).state = if s.blocks side = true then .blocked else .free := zoneChange_state side .free s

/-- The SEIZE that a release allows is queued and noted (R78). -/
theorem seizeRequested_asks {side : Side} {s : State} (h : (s.zone side).outstanding = .no) :
    ((s.seizeRequested side).zone side).outstanding = .seize ∧ (s.seizeRequested side).offered .zc (.zone side .seize) := by
  have hasks : s.seizeRequested side = (s.onZone side fun z => { z with releaseHeard := false }).sendOutstanding side .seize .seize := by
    unfold seizeRequested
    dsimp only
    rw [if_pos (by rw [onZone_zone]; exact h)]
  rw [hasks, sendOutstanding_zone]
  refine ⟨rfl, ?_⟩
  unfold sendOutstanding offered onZone
  dsimp only
  rw [putZone_lc]
  exact offer_offered .zc _ _

theorem blocks_iff {side : Side} {s : State} : s.blocks side = true ↔ s.planDiffers side = true
    ∨ (s.neighbourInside side = true ∧ ∀ i, s.sideInfo side = some i → i.heldFor side = false) := by
  unfold blocks
  cases s.sideInfo side <;> simp

/-! ### A REQUEST of one's own (R74) -/

theorem sendOutstanding_offered (side : Side) (o : Outstanding) (a : ZoneAction) (s : State) :
    (s.sendOutstanding side o a).offered .zc (.zone side a) := by
  unfold sendOutstanding offered onZone
  dsimp only
  rw [putZone_lc]
  exact offer_offered .zc _ s

theorem makeRequest_asks {side : Side} {s : State} (hother : (s.zone side).state = .heldOther) (hnone : (s.zone side).outstanding = .no)
    (hwants : s.wants side = true) : s.makeRequest side = s.sendOutstanding side .request .request := by
  unfold makeRequest
  dsimp only
  rw [if_pos (by rw [hother, hnone, hwants]; rfl)]

theorem makeRequest_rests {side : Side} {s : State}
    (h : (s.zone side).state ≠ .heldOther ∨ (s.zone side).outstanding ≠ .no ∨ s.wants side = false) : s.makeRequest side = s := by
  unfold makeRequest
  refine if_neg ?_
  simp only [Bool.and_eq_true, decide_eq_true_eq]
  rintro ⟨⟨hother, hnone⟩, hwants⟩
  rcases h with h | h | h
  · exact h hother
  · exact h hnone
  · rw [hwants] at h
    cases h

/-- A zone that is not HELD-OWN has no release to consider or to carry out (R76). -/
theorem stepZone_notHeld {side : Side} {s : State} (h : ((s.withdrawRequest side).zone side).state ≠ .heldOwn) :
    s.stepZone side = s.withdrawRequest side := by
  have hconsider : (s.withdrawRequest side).considerRelease side = s.withdrawRequest side := if_neg (by simp [h])
  have hcarry : (s.withdrawRequest side).carryRelease side = s.withdrawRequest side := if_neg (by simp [h])
  rw [stepZone, hconsider, hcarry]

theorem stepZone_wanted {side : Side} {s : State} (h : (s.zone side).state = .requested) (hwants : s.wants side = true) :
    s.stepZone side = s := by
  have hrests : s.withdrawRequest side = s := if_neg (by simp [hwants])
  rw [stepZone_notHeld (by rw [hrests, h]; decide), hrests]

theorem stepZone_unwanted {side : Side} {s : State} (h : (s.zone side).state = .requested) (hwants : s.wants side = false) :
    s.stepZone side = s.zoneChange side .heldOther := by
  have hreturns : s.withdrawRequest side = s.zoneChange side .heldOther := if_pos (by simp [h, hwants])
  rw [stepZone_notHeld, hreturns]
  rw [hreturns, zoneChange_state]
  split <;> decide

/-- A change of state away from HELD-OTHER asks LC to remove the REQUEST, and what follows it asks for nothing more (R74). -/
theorem zoneChange_request {side : Side} {st : ZoneState} {s : State} (hother : (s.zone side).state = .heldOther)
    (hrequest : (s.zone side).outstanding = .request) (hst : st ≠ .heldOther) :
    s.zoneChange side st = ((s.dropOutstanding side).onZone side (·.entering st)).applyBlock side := by
  have htidy : s.tidyOutstanding side st = s.dropOutstanding side := by
    unfold tidyOutstanding
    rw [hrequest]
    cases st with
    | heldOther => exact absurd rfl hst
    | _ => rfl
  unfold zoneChange zoneTo
  dsimp only
  rw [hother, if_neg hst, htidy]

theorem applyBlock_lc_of_none {side : Side} {s : State} (h : (s.zone side).outstanding = .no) : (s.applyBlock side).lc = s.lc := by
  rw [applyBlock_eq]
  split
  · exact zoneTo_lc_of_none h .blocked
  · rfl

/-- The REQUEST removed (R74). -/
theorem zoneChange_request_removed {side : Side} {st : ZoneState} {s : State} (hother : (s.zone side).state = .heldOther)
    (hrequest : (s.zone side).outstanding = .request) (hst : st ≠ .heldOther) (hfree : s.inFlight (s.zone side).frameId = false) :
    ((s.zoneChange side st).zone side).outstanding = .no
    ∧ (s.zoneChange side st).lc = (s.removeFrame (s.zone side).frameId).lc := by
  have hdropped : s.dropOutstanding side
      = (s.removeFrame (s.zone side).frameId).onZone side fun z => { z with outstanding := .no } := by
    unfold dropOutstanding
    dsimp only
    rw [hrequest, hfree]
    rfl
  have hnone : (((s.dropOutstanding side).onZone side (·.entering st)).zone side).outstanding = .no := by
    rw [onZone_zone, ZoneRecord.entering_outstanding, hdropped, onZone_zone]
  rw [zoneChange_request hother hrequest hst]
  refine ⟨applyBlock_outstanding hnone, ?_⟩
  rw [applyBlock_lc_of_none hnone, onZone, putZone_lc, hdropped, onZone, putZone_lc]

/-- A REQUEST whose attempt is in progress stays outstanding (R74). -/
theorem zoneChange_request_inFlight {side : Side} {st : ZoneState} {s : State} (hother : (s.zone side).state = .heldOther)
    (hrequest : (s.zone side).outstanding = .request) (hst : st ≠ .heldOther) (hflight : s.inFlight (s.zone side).frameId = true) :
    ((s.zoneChange side st).zone side).outstanding = .request ∧ (s.zoneChange side st).lc = s.lc := by
  have hstays : ∀ t : State, (t.zone side).outstanding = .request → t.inFlight (t.zone side).frameId = true → t.dropOutstanding side = t := by
    intro t ho hf
    unfold dropOutstanding
    dsimp only
    rw [ho, hf]
    rfl
  have hframe : ((s.onZone side (·.entering st)).zone side).frameId = (s.zone side).frameId := by
    rw [onZone_zone]
    unfold ZoneRecord.entering
    dsimp only
    split <;> rfl
  have hstands : ((s.onZone side (·.entering st)).zone side).outstanding = .request := by
    rw [onZone_zone, ZoneRecord.entering_outstanding, hrequest]
  have hlc : (s.onZone side (·.entering st)).lc = s.lc := putZone_lc side _ s
  have hflies : (s.onZone side (·.entering st)).inFlight ((s.onZone side (·.entering st)).zone side).frameId = true := by
    rw [hframe, inFlight, hlc]
    exact hflight
  have hdrop := hstays _ hstands hflies
  rw [zoneChange_request hother hrequest hst, hstays s hrequest hflight, applyBlock_eq]
  split
  · have htidy : (s.onZone side (·.entering st)).tidyOutstanding side .blocked = s.onZone side (·.entering st) := by
      unfold tidyOutstanding
      rw [hstands, hdrop]
    unfold zoneTo
    dsimp only
    rw [htidy, ite_self, onZone_zone, ZoneRecord.entering_outstanding, hstands, onZone, putZone_lc, hlc]
    exact ⟨rfl, rfl⟩
  · exact ⟨hstands, hlc⟩

/-! ### A zone that is wanted is asked for (R74) -/

/-- A HELD-OTHER zone is wanted, and nothing is outstanding for it. -/
def unasked (side : Side) (s : State) : Prop :=
  (s.zone side).state = .heldOther ∧ (s.zone side).outstanding = .no ∧ s.wants side = true

/-- What of WS's wanting WS's own selection has no part in: the datum cycle, the holes and the work state. -/
structure WantsKept (s t : State) : Prop where
  work : t.ws.state = s.ws.state
  datum : ∀ b, t.wantsDatum b = true → s.wantsDatum b = true
  hole : ∀ b, t.wantsHole b = true → s.wantsHole b = true

theorem wantsHole_congr {s t : State} (hps : t.ps = s.ps) (hconcern : t.pu.concern = s.pu.concern)
    (hcorrection : t.pu.correction = s.pu.correction) (hht : t.ht.map HoleEntry.unowed = s.ht.map HoleEntry.unowed)
    (b : Option (Nat × Nat)) : t.wantsHole b = s.wantsHole b := by
  have htarget : ∀ h, t.target? h = s.target? h := fun h => by rw [target?, hps, hcorrection, target?]
  have hwork : ∀ h, t.workable h = s.workable h := fun h => by
    have hstate := congrArg (fun l => (l[h]?).map HoleEntry.state) hht
    simp only [List.getElem?_map, Option.map_map] at hstate
    change (t.ht[h]?).map HoleEntry.state = (s.ht[h]?).map HoleEntry.state at hstate
    unfold workable
    rw [setOrder_of_unowed hps hht]
    cases ht : t.ht[h]? <;> cases hs : s.ht[h]? <;> simp_all
  unfold wantsHole
  simp only [hconcern, htarget, hwork]

theorem wantsDatum_congr {s t : State} (hps : t.ps = s.ps) (hsetup : t.setup = s.setup) (hprober : t.proberStatus = s.proberStatus)
    (b : Option (Nat × Nat)) : t.wantsDatum b = s.wantsDatum b := by
  have htargets : t.datumTargets = s.datumTargets := by rw [datumTargets, cfg_congr hsetup, hps, datumTargets]
  rw [wantsDatum, hprober, htargets, wantsDatum]

theorem WantsKept.of_linkStep {s t : State} (h : LinkStep s t) : WantsKept s t :=
  ⟨h.work, fun b hb => (wantsDatum_congr h.ps h.setup (by rw [proberStatus, h.pu, proberStatus]) b).symm.trans hb,
    fun b hb => (wantsHole_congr h.ps (by rw [h.pu]) (by rw [h.pu]) h.unowed_ht b).symm.trans hb⟩

theorem WantsKept.of_same {s t : State} (hwork : t.ws.state = s.ws.state) (hps : t.ps = s.ps) (hsetup : t.setup = s.setup)
    (hpu : t.pu = s.pu) (hht : t.ht = s.ht) : WantsKept s t :=
  ⟨hwork, fun b hb => (wantsDatum_congr hps hsetup (by rw [proberStatus, hpu, proberStatus]) b).symm.trans hb,
    fun b hb => (wantsHole_congr hps (by rw [hpu]) (by rw [hpu]) (by rw [hht]) b).symm.trans hb⟩

/-- A zone unasked for after a step was so before, where the step left it, and made no queued CLAIM in it. -/
theorem unasked_of_kept {side : Side} {s t : State} (h : WantsKept s t) (hstate : (t.zone side).state = (s.zone side).state)
    (hout : (t.zone side).outstanding = (s.zone side).outstanding) (hbounds : (t.zone side).bounds = (s.zone side).bounds)
    (hclaim : t.wantsForClaim side = true → s.wantsForClaim side = true) (ht : t.unasked side) : s.unasked side := by
  obtain ⟨hother, hnone, hwants⟩ := ht
  refine ⟨hstate ▸ hother, hout ▸ hnone, ?_⟩
  rw [wants_iff_within, hbounds, h.work] at hwants
  rw [wants_iff_within]
  rcases hwants with ⟨hwork, hdatum⟩ | ⟨hwork, hhole | hqueued⟩
  · exact .inl ⟨hwork, h.datum _ hdatum⟩
  · exact .inr ⟨hwork, .inl (h.hole _ hhole)⟩
  · exact .inr ⟨hwork, .inr (hclaim hqueued)⟩

/-- A queued CLAIM's zone is wanted by the selection, the zone's bounds and the hole's entry. -/
theorem wantsForClaim_of_linkStep {side : Side} {s t : State} (h : LinkStep s t) (hbounds : (t.zone side).bounds = (s.zone side).bounds)
    (ht : t.wantsForClaim side = true) : s.wantsForClaim side = true := by
  obtain ⟨x, c, hx, hstage, hzone, hwork, hin, hrow⟩ := (wantsForClaim_iff side t).mp ht
  have hselection : t.ws.selection = s.ws.selection := by rw [h.frame]
  refine (wantsForClaim_iff side s).mpr ⟨x, c, hselection ▸ hx, hstage, hzone, hwork, hbounds ▸ hin, ?_⟩
  obtain ⟨e, he, hphase⟩ := (stateRow_iff t c).mp hrow
  obtain ⟨e', he', hlike⟩ := HoleEntry.unowed_entry h.unowed_ht.symm he
  have hsame : e'.state = e.state := (congrArg HoleEntry.state hlike :)
  rw [setOrder_of_unowed h.ps h.unowed_ht] at hphase
  exact (stateRow_iff s c).mpr ⟨e', he', by rw [hsame]; exact hphase⟩

theorem unasked_of_linkStep {side : Side} {s t : State} (h : LinkStep s t) (hzone : t.zone side = s.zone side) (ht : t.unasked side) :
    s.unasked side :=
  unasked_of_kept (.of_linkStep h) (by rw [hzone]) (by rw [hzone]) (by rw [hzone]) (wantsForClaim_of_linkStep h (by rw [hzone])) ht

/-! ### The steps after ZC's requests -/

/-- From s to t no zone has come to be unasked for. -/
def AskKept (s t : State) : Prop := ∀ side, t.unasked side → s.unasked side

theorem AskKept.trans {s t u : State} (h : AskKept s t) (h' : AskKept t u) : AskKept s u := fun side hu => h side (h' side hu)

/-- Out of WORKING, WAITING and FINISHED WS wants no zone. -/
theorem AskKept.of_quiet {s t : State} (hwork : t.ws.state ≠ .working) (hwait : t.ws.state ≠ .waiting)
    (hdone : t.ws.state ≠ .finished) : AskKept s t := by
  rintro side ⟨-, -, hwants⟩
  rw [wants_iff_within] at hwants
  rcases hwants with ⟨h | h | h, -⟩ | ⟨h, -⟩
  · exact absurd h hwork
  · exact absurd h hwait
  · exact absurd h hdone
  · exact absurd h hwork

theorem sendOutstanding_zone_other {side other : Side} (h : other ≠ side) (o : Outstanding) (a : ZoneAction) (s : State) :
    (s.sendOutstanding side o a).zone other = s.zone other := by
  unfold sendOutstanding
  rw [onZone_zone_other h, offerZone, zone, offer_zc, zone]

/-- A zone asked for by either frame is not left unasked for. -/
theorem sendOutstanding_asked {side : Side} {o : Outstanding} {a : ZoneAction} {s : State} (ho : o ≠ .no) :
    ¬ (s.sendOutstanding side o a).unasked side := by
  rintro ⟨-, hnone, -⟩
  rw [sendOutstanding_zone] at hnone
  exact ho hnone

theorem sendOutstanding_askKept {side : Side} {o : Outstanding} {a : ZoneAction} {s : State} (ho : o ≠ .no) :
    AskKept s (s.sendOutstanding side o a) := by
  intro other ht
  by_cases h : other = side
  · subst h
    exact absurd ht (sendOutstanding_asked ho)
  · exact unasked_of_linkStep (sendOutstanding_linkStep side o a s) (sendOutstanding_zone_other h o a s) ht

theorem makeRequest_askKept (side : Side) (s : State) : AskKept s (s.makeRequest side) ∧ ¬ (s.makeRequest side).unasked side := by
  unfold makeRequest
  dsimp only
  split
  · exact ⟨sendOutstanding_askKept (by decide), sendOutstanding_asked (by decide)⟩
  · rename_i h
    refine ⟨fun _ hs => hs, fun ⟨hother, hnone, hwants⟩ => h ?_⟩
    rw [hother, hnone, hwants]
    rfl

theorem stepRequests_asked (s : State) : ∀ side, ¬ s.stepRequests.unasked side := by
  obtain ⟨-, hleft⟩ := makeRequest_askKept .left s
  obtain ⟨hkept, hright⟩ := makeRequest_askKept .right (s.makeRequest .left)
  rintro (_ | _)
  · exact fun h => hleft (hkept .left h)
  · exact hright

/-- A selection whose CLAIM is not queued makes no zone wanted. -/
theorem wantsForClaim_notQueued {side : Side} {x : Selection} {s : State} (hx : s.ws.selection = some x) (hstage : x.stage ≠ .claimQueued) :
    s.wantsForClaim side = false := by
  refine Bool.eq_false_iff.mpr fun h => ?_
  obtain ⟨y, c, hy, hqueued, -⟩ := (wantsForClaim_iff side s).mp h
  rw [hx, Option.some.injEq] at hy
  exact hstage (hy ▸ hqueued)

theorem askSeize_askKept {side : Side} {x : Selection} {s t : State} (hx : x.stage ≠ .claimQueued)
    (h : s.askSeize side x = some t) : AskKept s t := by
  have hselected : ∀ u : State, AskKept u { u with ws.selection := some x } := fun u other =>
    unasked_of_kept (.of_same rfl rfl rfl rfl rfl) rfl rfl rfl fun hclaim => by
      rw [wantsForClaim_notQueued rfl hx] at hclaim
      cases hclaim
  unfold askSeize at h
  split at h
  · cases h
    exact (sendOutstanding_askKept (by decide)).trans (hselected _)
  · cases h
    exact hselected s
  · cases h

/-- The CLAIM of a hole in no zone, or in one held, makes no HELD-OTHER zone wanted. -/
theorem offerClaim_askKept {ch : Choice} {s : State} (hheld : ∀ side, ch.zone = some side → s.zoneHeld side = true) :
    AskKept s (s.offerClaim ch) := by
  unfold offerClaim
  dsimp only
  split
  · exact fun _ hs => hs
  · intro side ht
    have hzone : (s.offer .ws (.claim ch.claim)).zone side = s.zone side := by rw [zone, offer_zc, zone]
    have hother : (s.zone side).state = .heldOther := hzone ▸ ht.1
    refine unasked_of_kept (.of_same ?_ ?_ ?_ ?_ ?_) (congrArg (·.state) hzone) (congrArg (·.outstanding) hzone)
      (congrArg (·.bounds) hzone) (fun hclaim => ?_) ht
    · exact congrArg (·.state) (offer_ws .ws _ s)
    · rw [offer_eq]
    · rw [offer_eq]
    · rw [offer_eq]
    · rw [offer_eq]
    · obtain ⟨x, c, hx, -, hin, -⟩ := (wantsForClaim_iff side _).mp hclaim
      cases hx
      rw [((zoneHeld_iff s side).mp (hheld side hin)).1] at hother
      cases hother

theorem takeChoice_askKept (ch : Choice) (s : State) : AskKept s (s.takeChoice ch).1 := by
  unfold takeChoice
  split
  · rename_i hzone
    exact offerClaim_askKept fun side h => by rw [hzone] at h; cases h
  · rename_i side hzone
    split
    · rename_i hheld
      exact offerClaim_askKept fun other h => by
        rw [hzone, Option.some.injEq] at h
        exact h ▸ hheld
    · split
      · rename_i heq
        exact askSeize_askKept (by simp) heq
      · exact fun _ hs => hs

theorem setProber_notDue {st : ProberStatus} (hst : st ≠ .due) (deadline : Option Nat) (measured : Option (Nat × Nat)) (s : State) :
    (s.setProber st deadline measured).proberStatus ≠ some .due := by
  unfold setProber
  cases hp : s.pu.prober with
  | none => simp [proberStatus, hp]
  | some p => simp [proberStatus, hst]

/-- A prober that is no longer DUE makes no zone wanted for its datum. -/
theorem WantsKept.of_notDue {s t : State} (hprober : t.proberStatus ≠ some .due) (hwork : t.ws.state = s.ws.state)
    (hhole : ∀ b, t.wantsHole b = s.wantsHole b) : WantsKept s t :=
  ⟨hwork, fun b hb => absurd ((wantsDatum_iff b t).mp hb).1 hprober, fun b hb => (hhole b).symm.trans hb⟩

theorem countCycle_zone (side : Side) (s : State) : s.countCycle.zone side = (s.zone side).countCycle := by
  cases side <;> rfl

theorem ZoneRecord.countCycle_rests (z : ZoneRecord) :
    z.countCycle.state = z.state ∧ z.countCycle.outstanding = z.outstanding ∧ z.countCycle.bounds = z.bounds := by
  unfold ZoneRecord.countCycle
  split <;> exact ⟨rfl, rfl, rfl⟩

/-- A datum cycle taken, or given up for its targets, is wanted no longer (R29, R98). -/
theorem takeDatum_askKept (t : Int × Int) (z : Option Side) (s : State) : AskKept s (s.takeDatum t z) := by
  unfold takeDatum
  split
  · intro side
    have hframe := setProber_frame .retryWait (some (s.clock + Config.probeRetry)) none s
    refine unasked_of_kept (.of_notDue ?_ ?_ fun b => wantsHole_congr ?_ ?_ ?_ ?_ b) ?_ ?_ ?_ ?_
    · exact setProber_notDue (by decide) _ none s
    · rw [probeFailed, hframe]; rfl
    · rw [probeFailed, hframe]; rfl
    · rw [probeFailed, hframe]; rfl
    · rw [probeFailed, hframe]; rfl
    · rw [probeFailed, hframe]; rfl
    · rw [probeFailed, hframe]; rfl
    · rw [probeFailed, hframe]; rfl
    · rw [probeFailed, hframe]; rfl
    · rw [probeFailed, hframe]; exact id
  · intro side
    have hframe := setProber_frame .inCycle none none s
    have hzone := countCycle_zone side { s.setProber .inCycle none none with
      cs.cycle := some (newCycle .datum t.1 t.2 z .moving),
      ws.selection := some { work := .datum, rail := t.1, cross := t.2, zone := z, stage := .inCycle } }
    have hsame : (s.setProber .inCycle none none).zone side = s.zone side := by rw [hframe]; rfl
    obtain ⟨hstate, hout, hbounds⟩ := ZoneRecord.countCycle_rests (s.zone side)
    refine unasked_of_kept (.of_notDue (setProber_notDue (by decide) none none s) ?_ fun b => wantsHole_congr ?_ ?_ ?_ ?_ b) ?_ ?_ ?_
      fun hclaim => ?_
    · rw [hframe]; rfl
    · rw [hframe]; rfl
    · rw [hframe]; rfl
    · rw [hframe]; rfl
    · rw [hframe]; rfl
    · rw [hzone]; exact (congrArg (fun z => z.countCycle.state) hsame).trans hstate
    · rw [hzone]; exact (congrArg (fun z => z.countCycle.outstanding) hsame).trans hout
    · rw [hzone]; exact (congrArg (fun z => z.countCycle.bounds) hsame).trans hbounds
    · rw [wantsForClaim_notQueued rfl (by simp)] at hclaim
      cases hclaim

theorem choose_askKept (refused : List Side) (s : State) : AskKept s (s.choose refused).1 := by
  unfold choose
  split
  · split
    · exact takeDatum_askKept _ _ s
    · split
      · exact takeDatum_askKept _ _ s
      · split
        · rename_i heq
          exact askSeize_askKept (by simp) heq
        · exact fun _ hs => hs
  · split
    · split
      · exact takeChoice_askKept _ s
      · split
        · exact takeChoice_askKept _ s
        · exact fun _ hs => hs
    · exact fun _ hs => hs

theorem select_askKept (n : Nat) (refused : List Side) (s : State) : AskKept s (State.select n refused s) := by
  induction n generalizing refused with
  | zero => exact fun _ hs => hs
  | succ n ih =>
    have hchoose := choose_askKept refused s
    unfold State.select
    split
    · rename_i heq
      rwa [heq] at hchoose
    · rename_i heq
      rw [choose_refused heq]
      exact ih _

theorem stepSelect_askKept (s : State) : AskKept s s.stepSelect := by
  unfold stepSelect
  split
  · exact select_askKept 3 [] s
  · exact fun _ hs => hs

/-- A failure at the port leaves the station where WS wants nothing (R167, R170). -/
theorem effectorFault_quiet (kind : FailKind) (deadly : Bool) (s : State) : (s.effectorFault kind deadly).ws.state ≠ .working
    ∧ (s.effectorFault kind deadly).ws.state ≠ .waiting ∧ (s.effectorFault kind deadly).ws.state ≠ .finished := by
  unfold effectorFault
  dsimp only
  generalize s.raise .effectorFault = t
  split
  · by_cases ht : t.ws.state = .unconfigured
    · have hrests : t.enterHalted (.effectorFault kind) = t := by
        unfold enterHalted
        rw [ht]
      rw [hrests, ht]
      decide
    · rw [enterHalted_work _ t ht]
      decide
  · by_cases ht : t.faultable
    · have hfaulted : (t.enterFaulted (.effectorFault kind)).ws.state = .faulted :=
        congrArg (fun d => d.2.2) (enterFaulted_duties (.effectorFault kind) ht)
      rw [hfaulted]
      decide
    · rw [enterFaulted_rests _ ht]
      unfold faultable at ht
      exact ⟨fun h => ht (.inr (.inr (.inl h))), fun h => ht (.inr (.inl h)), fun h => ht (.inr (.inr (.inr h)))⟩

theorem portFails_askKept (kind : FailKind) (extra : Option Command) (s t : State) : AskKept t (s.portFails kind extra) := by
  obtain ⟨hwork, hwait, hdone⟩ := effectorFault_quiet kind (s.throughEnding || s.faultStopping)
    (if ((s.ep.transfer.map (·.command)).toList ++ (s.ep.stream.map (·.command)).toList ++ extra.toList).isEmpty then s.closeFailed
      else (s.closeFailed.cycleFails
        ((s.ep.transfer.map (·.command)).toList ++ (s.ep.stream.map (·.command)).toList ++ extra.toList)).loneFails)
  exact .of_quiet hwork hwait hdone

theorem stepPark_askKept (s : State) : AskKept s s.stepPark := by
  unfold stepPark
  dsimp only
  split
  · unfold placeCommand
    split
    · exact fun side => unasked_of_kept (.of_same rfl rfl rfl rfl rfl) rfl rfl rfl id
    · exact portFails_askKept _ _ _ s
  · exact fun _ hs => hs

theorem offerOwed_askKept (s : State) : AskKept s s.offerOwed := fun _ =>
  unasked_of_linkStep (offerOwed_linkStep s) (by rw [zone, offerOwed_zc, zone])

/-- A pass over an online station leaves no zone unasked for. -/
theorem settleOnce_asked {s : State} (hs : s.settleOnce.ws.state.online = true) : ∀ side, ¬ s.settleOnce.unasked side := by
  have hpass : ∀ u : State, ∀ side, ¬ u.stepRequests.stepSelect.stepPark.unasked side := fun u side h =>
    stepRequests_asked u side (((stepSelect_askKept _).trans (stepPark_askKept _)) side h)
  unfold settleOnce at hs ⊢
  split at hs
  · rename_i hon
    rw [if_pos hon]
    dsimp only
    generalize State.stepFinish _ = u
    intro side
    split
    · exact fun h => hpass u side (offerOwed_askKept _ side h)
    · exact hpass u side
  · contradiction

theorem repeatState_succ (f : State → State) (n : Nat) (s : State) : repeatState f (n + 1) s = f (repeatState f n s) := by
  induction n generalizing s with
  | zero => rfl
  | succ n ih => exact ih (f s)

theorem settle_asked {s : State} (hs : s.settle.ws.state.online = true) (side : Side) : ¬ s.settle.unasked side := by
  have hlast : s.settle = settleOnce (repeatState settleOnce 7 s) := repeatState_succ settleOnce 7 s
  rw [hlast] at hs ⊢
  exact settleOnce_asked hs side

/-! ### DU's table (R149, R150, R154) -/

theorem otherDraws_sum (s : State) : drawSum s.otherDraws = (([1, 2, 3, 4, 5, 6, 7, 8] : List Nat).map fun j => match s.drawEntry j with
    | some e => if j ≠ s.k then e.amount else 0
    | none => 0).sum := by
  have hall : s.otherDraws.filter (fun _ => true) = s.otherDraws := List.filter_true _
  rw [← hall, drawSum_filter_otherDraws]
  refine congrArg List.sum (List.map_congr_left fun j _ => ?_)
  unfold drawShare
  cases s.drawEntry j with
  | none => rfl
  | some e => simp only [and_true]

theorem removal_room {s : State} (hwaiting : s.du.own.state = .waiting) (hroom : drawSum s.otherDraws + s.du.own.amount ≤ s.cfg.capacity) :
    s.freshlyIntended s.removal := by
  have hfresh : s.removal = s.freshIntent := if_pos (by rw [hwaiting, drawRoom, decide_eq_true hroom]; rfl)
  rw [hfresh]
  exact freshIntent_freshlyIntended s

theorem removal_rests {s : State} (h : s.du.own.state ≠ .waiting ∨ s.cfg.capacity < drawSum s.otherDraws + s.du.own.amount) :
    s.removal = s := by
  refine if_neg ?_
  simp only [drawRoom, Bool.and_eq_true, decide_eq_true_eq]
  rintro ⟨hwaiting, hroom⟩
  rcases h with h | h
  · exact h hwaiting
  · omega

theorem emptyDraw_filled {j : Nat} {e : DrawEntry} {s : State} (h : s.drawEntry j = some e) : s.emptyDraw j = (s.setDraw j none).removal := by
  unfold emptyDraw
  rw [h]

theorem emptyDraw_empty {j : Nat} {s : State} (h : s.drawEntry j = none) : s.emptyDraw j = s := by
  unfold emptyDraw
  rw [h]

end State

open State in
/-- Settles O42: the frames of ZONE and DRAW, by the block that hears them. -/
theorem zoneAndDrawFramesHeard : Obligations.ZoneAndDrawFramesHeard := by
  refine ⟨fun j named s => ⟨fun side => zoneNamed_iff, fun hs hnone a => ?_⟩, fun side s => ⟨fun hnone => ?_, hearSeize_held_zone,
      hearSeize_replaces⟩, fun j named side a s hs hnamed => ⟨?_, fun hheld hnone => ?_, fun hheld hnone hblocks => ?_,
      fun hheld hnone hblocks => ?_, blocks_iff, hearRequest_held, hearRequest_rests, fun hother => ?_, fun hrequested => ⟨fun hwants => ?_,
      fun hwants hinside => ?_, fun hwants hinside hnone => ?_⟩, hearRelease_rests⟩,
    fun side s => ⟨fun hother hnone hwants => ?_, makeRequest_rests, fun hon hother hnone => ?_, fun hrequested => ⟨stepZone_wanted hrequested,
      fun hwants => ?_, fun hwants => ?_⟩, fun st hother hrequest hst => ⟨fun hfree => ?_, zoneChange_request_inFlight hother hrequest hst⟩⟩,
    fun s others hothers => ⟨fun hwaiting hroom => ?_, fun hnot => ?_⟩,
    fun j amount hole s hs hamount hhole => ⟨fun hsome => ?_, fun hzero => ?_, fun e he => ⟨?_, ?_⟩, fun hempty => ?_, fun hempty => ?_⟩⟩
  · have hcfg : (s.heard (frameBytes j (.zone named a))).cfg = s.cfg := rfl
    rw [exec_zoneHeard named a hs, dispatchKind, hcfg, hnone]
  · exact ⟨hearSeize_noZone hnone, hearRequest_rests (by rw [hnone]; decide),
      hearRelease_rests (by rw [hnone]; decide) (by rw [hnone]; decide)⟩
  · obtain ⟨hseize, hrelease, hrequest⟩ := dispatchKind_zone (s := s.heard (frameBytes j (.zone named a))) (stamp := s.lc.stamp + 1) hnamed
    refine (exec_zoneHeard named a hs).trans (congrArg (fun u => Host.Outcome.next (settle u)) ?_)
    cases a with
    | seize => exact hseize
    | release => exact hrelease
    | request => exact hrequest
  · have hkeeps : (if (s.zone side).outstanding = .seize ∧ s.inFlight (s.zone side).frameId = false then Outstanding.request
        else (s.zone side).outstanding) = (s.zone side).outstanding := if_neg (by rw [hnone]; exact fun h => nomatch h.1)
    rw [hearSeize_held_zone hheld, hkeeps]
  · rw [hearSeize_state hnone hheld, hblocks]
    rfl
  · rw [hearSeize_state hnone hheld, hblocks]
    rfl
  · rw [hearRelease_other hother, zoneChange_free_state]
  · rw [hearRelease_requested hrequested, hwants]
    exact zoneChange_free_state side s
  · have hwaits : s.hearRelease side = s.onZone side fun z => { z with releaseHeard := true } := by
      rw [hearRelease_requested hrequested, hwants, hinside]
      rfl
    rw [hwaits, onZone_zone]
  · have hseizes : s.hearRelease side = s.seizeRequested side := by
      rw [hearRelease_requested hrequested, hwants, hinside]
      rfl
    rw [hseizes, seizeRequested_state]
    exact ⟨hrequested, seizeRequested_asks hnone⟩
  · rw [makeRequest_asks hother hnone hwants]
    exact ⟨sendOutstanding_zone side _ _ s, sendOutstanding_offered side _ _ s⟩
  · exact Bool.eq_false_iff.mpr fun hwants => settle_asked hon side ⟨hother, hnone, hwants⟩
  · rw [stepZone_unwanted hrequested hwants, zoneChange_state]
    rfl
  · rw [stepZone_unwanted hrequested hwants]
    exact zoneChange_releaseHeard (by decide) s
  · obtain ⟨hnone, hlc⟩ := zoneChange_request_removed hother hrequest hst hfree
    refine ⟨hnone, fun hid => ?_⟩
    rw [hlc]
    exact removeFrame_gone hid hfree
  · have hsum : others = drawSum s.otherDraws := hothers.trans (otherDraws_sum s).symm
    exact removal_room hwaiting (hsum ▸ hroom)
  · have hsum : others = drawSum s.otherDraws := hothers.trans (otherDraws_sum s).symm
    exact removal_rests (hsum ▸ hnot)
  · refine (exec_drawHeard .intent hamount hhole hs).trans ?_
    rw [dispatchKind, hearIntent, if_neg hsome]
    rfl
  · refine (exec_drawHeard .intent hamount hhole hs).trans ?_
    rw [dispatchKind, hearIntent, if_pos hzero]
  · refine (exec_drawHeard .done hamount hhole hs).trans ?_
    rw [dispatchKind, emptyDraw_filled (s := s.heard _) he]
  · refine (exec_drawHeard .withdraw hamount hhole hs).trans ?_
    rw [dispatchKind, emptyDraw_filled (s := s.heard _) he]
  · refine (exec_drawHeard .done hamount hhole hs).trans ?_
    rw [dispatchKind, emptyDraw_empty (s := s.heard _) hempty]
  · refine (exec_drawHeard .withdraw hamount hhole hs).trans ?_
    rw [dispatchKind, emptyDraw_empty (s := s.heard _) hempty]

end Sys2Proof.Machine
end

section
/-! PROOFS. What an accepted POSITION does (R66, R67, R114). -/

namespace Sys2Proof.Machine

open Sys2Proof (Byte Word Data Stamp Datum Side Instr)

namespace State

/-! ### The hard checks (R67) -/

/-- A heard neighbour stands nearer than the hard gap, or out of order. -/
theorem hardCheck_some_iff (s : State) : (∃ c, s.hardCheck = some c) ↔ ∃ j i, j ∈ s.cfg.neighbours ∧ (s.peer j).info = some i
    ∧ (max i.position s.own - min i.position s.own < s.cfg.hardGap ∨ (j < s.k ∧ s.own ≤ i.position) ∨ (s.k < j ∧ i.position ≤ s.own)) := by
  have hfails : (∃ c, s.hardCheck = some c) ↔ ∃ j ∈ s.cfg.neighbours, s.hardGapFails j = true ∨ s.orderFails j = true := by
    constructor
    · rintro ⟨c, hc⟩
      unfold hardCheck at hc
      split at hc
      · rename_i j hj
        exact ⟨j, List.mem_of_find?_eq_some hj, .inl (List.find?_some hj)⟩
      · obtain ⟨j, hj, -⟩ := Option.map_eq_some_iff.mp hc
        exact ⟨j, List.mem_of_find?_eq_some hj, .inr (List.find?_some hj)⟩
    · rintro ⟨j, hj, h⟩
      exact hardCheck_of_fails hj h
  rw [hfails]
  refine exists_congr fun j => ?_
  cases hi : (s.peer j).info with
  | none => simp [hardGapFails, orderFails, hi]
  | some i =>
    obtain ⟨hgap, horder⟩ := hardChecks_iff hi
    simp only [hgap, horder, Option.some.injEq, exists_and_left, exists_eq_left']
    refine and_congr_right fun hj => or_congr_right ?_
    have hother : j < s.k ∨ s.k < j := by
      rcases (s.cfg.mem_neighbours_iff j).mp hj with ⟨h, -⟩ | ⟨h, -⟩
      · exact .inl (by rw [k]; omega)
      · exact .inr (by rw [k]; omega)
    split_ifs <;> omega

/-- A hard check is not the check of the travel limits. -/
theorem hardCheck_not_limit {s : State} {c : HaltCheck} (h : s.hardCheck = some c) : c ≠ .travelLimit := by
  unfold hardCheck at h
  split at h
  · cases h
    exact fun h => nomatch h
  · obtain ⟨j, -, rfl⟩ := Option.map_eq_some_iff.mp h
    exact fun h => nomatch h

/-! ### A CLEARANCE HALT, as EU shows it (R162, R166) -/

theorem clearanceHalt_source {s : State} (hs : s.ws.state.online = true) (c : HaltCheck) {x : SourceRecord}
    (hx : s.eu.sources[11]? = some x) :
    (s.clearanceHalt c).eu.sources[11]? = some (x.raised (s.levels.getD 11 0)) :=
  (congrArg Prod.fst ((clearanceHalt_halts hs c).recorded 11 (by decide))).trans (raise_source .clearanceHalt hx)

theorem clearanceHalt_cause {s : State} (hs : s.ws.state.online = true) (c : HaltCheck) (hrun : s.ws.state ≠ .faulted) :
    (s.clearanceHalt c).eu.cause = some { source := .clearanceHalt c, stateLeft := s.ws.state, time := s.clock, cleared := false } :=
  (congrArg Prod.snd ((clearanceHalt_halts hs c).recorded 11 (by decide))).trans (if_neg hrun)

/-! ### The POSITION and its checks (R114) -/

/-- The position, at the own position and in its stream. -/
def positioned (o : OpenStream) (p : Nat) (s : State) : State :=
  { s with ep.ownPos := some p, ep.partialReport := [], ep.stream := some { o with lastPosition := some p } }

/-- The hard checks fail at the position. -/
def haltsAt (p : Nat) (s : State) : Prop := s.ws.state.active = true
  ∧ ∃ j i, ((j + 1 = s.k ∧ 1 ≤ j) ∨ (j = s.k + 1 ∧ s.k < s.cfg.stations)) ∧ (s.peer j).info = some i
    ∧ (max i.position p - min i.position p < s.cfg.hardGap ∨ (j < s.k ∧ p ≤ i.position) ∨ (s.k < j ∧ i.position ≤ p))

theorem haltsAt_iff (o : OpenStream) (p : Nat) (s : State) :
    s.haltsAt p ↔ s.ws.state.active = true ∧ ∃ c, (s.positioned o p).hardCheck = some c := by
  rw [hardCheck_some_iff]
  refine and_congr_right fun _ => exists_congr fun j => exists_congr fun i => ?_
  rw [Setup.mem_neighbours_iff]
  exact Iff.rfl

theorem positionHeard_eq (o : OpenStream) (p : Nat) (s : State) : s.positionHeard o p
    = if (s.positioned o p).clearanceChecks.ws.state != .halted && (s.positioned o p).clearanceChecks.cfg.breaches p
      then (s.positioned o p).clearanceChecks.clearanceHalt .travelLimit else (s.positioned o p).clearanceChecks := rfl

theorem positionHeard_hard {o : OpenStream} {p : Nat} {s : State} (h : s.haltsAt p) :
    ∃ c, c ≠ .travelLimit ∧ s.positionHeard o p = (s.positioned o p).clearanceHalt c := by
  obtain ⟨hactive, c, hc⟩ := (haltsAt_iff o p s).mp h
  have hset : (s.positioned o p).ws.state ≠ .unconfigured := by
    intro hnot
    rw [show s.ws.state = .unconfigured from hnot] at hactive
    cases hactive
  have hchecks : (s.positioned o p).clearanceChecks = (s.positioned o p).clearanceHalt c := by
    have hfound : (if (s.positioned o p).ws.state.active then (s.positioned o p).hardCheck else none) = some c := (if_pos hactive).trans hc
    rw [clearanceChecks, hfound]
  have hhalted : (s.positioned o p).clearanceChecks.ws.state = .halted := by rw [hchecks, clearanceHalt_work hset]
  refine ⟨c, hardCheck_not_limit hc, ?_⟩
  rw [positionHeard_eq, if_neg (by rw [hhalted]; exact Bool.false_ne_true), hchecks]

theorem clearanceStop_work (s : State) : s.clearanceStop.ws = s.ws := by rw [clearanceStop_eq]

theorem positionHeard_clear {o : OpenStream} {p : Nat} {s : State} (h : ¬ s.haltsAt p) : s.positionHeard o p
    = if s.ws.state != .halted && s.cfg.breaches p then (s.positioned o p).clearanceStop.clearanceHalt .travelLimit
      else (s.positioned o p).clearanceStop := by
  have hchecks : (s.positioned o p).clearanceChecks = (s.positioned o p).clearanceStop := by
    have hnone : (if (s.positioned o p).ws.state.active then (s.positioned o p).hardCheck else none) = none := by
      split
      · rename_i hactive
        cases hc : (s.positioned o p).hardCheck with
        | none => rfl
        | some c => exact absurd ((haltsAt_iff o p s).mpr ⟨hactive, c, hc⟩) h
      · rfl
    rw [clearanceChecks, hnone]
  have hcfg : (s.positioned o p).clearanceStop.cfg = s.cfg := by
    rw [clearanceStop_eq]
    rfl
  have hws : (s.positioned o p).clearanceStop.ws = s.ws := clearanceStop_work _
  rw [positionHeard_eq, hchecks, hws, hcfg]

theorem breaches_iff (c : Setup) (p : Nat) : c.breaches p = true ↔ p + c.tolerance < c.low ∨ c.high + c.tolerance < p := by
  simp [Setup.breaches]

/-- Whatever the checks lead to, the own position is the reported one. -/
theorem positionHeard_ownPos (o : OpenStream) (p : Nat) (s : State) : (s.positionHeard o p).ep.ownPos = some p := by
  by_cases h : s.haltsAt p
  · obtain ⟨c, -, hc⟩ := positionHeard_hard (o := o) h
    rw [hc]
    exact congrArg Kept.ownPos (clearanceHalt_kept c (s.positioned o p))
  · have hstop : (s.positioned o p).clearanceStop.ep.ownPos = some p := by
      rw [clearanceStop_eq]
      rfl
    rw [positionHeard_clear h]
    split
    · exact (congrArg Kept.ownPos (clearanceHalt_kept .travelLimit (s.positioned o p).clearanceStop)).trans hstop
    · exact hstop

/-- What a POSITION at which the station halts comes to. -/
theorem positionHeard_halts {o : OpenStream} {p : Nat} {s : State}
    (h : s.haltsAt p ∨ s.ws.state.online = true ∧ s.cfg.breaches p = true) :
    (s.positionHeard o p).ws.state = .halted ∧ (s.positionHeard o p).ep.stream = none ∧ (s.positionHeard o p).cs.cycle = none
    ∧ (s.positionHeard o p).cs.lone = none
    ∧ (s.ws.state ≠ .faulted → ∃ c, (s.positionHeard o p).eu.cause
        = some { source := .clearanceHalt c, stateLeft := s.ws.state, time := s.clock, cleared := false }
        ∧ (c = .travelLimit ↔ ¬ s.haltsAt p))
    ∧ ∀ x, s.eu.sources[11]? = some x → (s.positionHeard o p).eu.sources[11]? = some (x.raised (s.levels.getD 11 0)) := by
  by_cases hhard : s.haltsAt p
  · have honline : (s.positioned o p).ws.state.online = true := WorkState.online_of_active hhard.1
    obtain ⟨c, hc, heq⟩ := positionHeard_hard (o := o) hhard
    have hhalts := clearanceHalt_halts honline c
    rw [heq]
    exact ⟨hhalts.work, hhalts.stream, hhalts.cycle, hhalts.lone,
      fun hrun => ⟨c, clearanceHalt_cause honline c hrun, fun heq => absurd heq hc, fun hnot => absurd hhard hnot⟩,
      fun x hx => clearanceHalt_source honline c hx⟩
  · obtain ⟨hon, hbreach⟩ := h.resolve_left hhard
    have hws : (s.positioned o p).clearanceStop.ws = s.ws := clearanceStop_work _
    have heq : s.positionHeard o p = (s.positioned o p).clearanceStop.clearanceHalt .travelLimit := by
      have hrun : s.ws.state ≠ .halted := by
        intro hnot
        rw [hnot] at hon
        cases hon
      rw [positionHeard_clear hhard, hbreach, Bool.and_true, if_pos (by simpa using hrun)]
    have honline : (s.positioned o p).clearanceStop.ws.state.online = true := by rwa [hws]
    have hhalts := clearanceHalt_halts honline .travelLimit
    have hstop := (s.positioned o p).clearanceStop_eq
    rw [heq]
    refine ⟨hhalts.work, hhalts.stream, hhalts.cycle, hhalts.lone, fun hrun => ⟨.travelLimit, ?_, fun _ => hhard, fun _ => rfl⟩,
      fun x hx => ?_⟩
    · rw [clearanceHalt_cause honline _ (by rwa [hws]), hws, hstop]
      rfl
    · rw [clearanceHalt_source honline _ (x := x) (by rw [hstop]; exact hx), hstop]
      rfl

/-- A POSITION at which the station goes on. -/
theorem positionHeard_goesOn {o : OpenStream} {p : Nat} {s : State} (hhard : ¬ s.haltsAt p) (hlimit : ¬ s.cfg.breaches p = true) :
    s.positionHeard o p = (s.positioned o p).clearanceStop := by
  rw [positionHeard_clear hhard, Bool.eq_false_of_not_eq_true hlimit, Bool.and_false, if_neg Bool.false_ne_true]

/-! ### The remaining path (R66) -/

/-- The path from the position to a target comes nearer than the minimum gap to a heard neighbour's interval. -/
def nearOn (p : Nat) (s : State) (t : Nat) : Prop :=
  ∃ j i, ((j + 1 = s.k ∧ 1 ≤ j) ∨ (j = s.k + 1 ∧ s.k < s.cfg.stations)) ∧ (s.peer j).info = some i ∧ 0 < s.cfg.gap
    ∧ min i.position i.target < max p t + s.cfg.gap ∧ min p t < max i.position i.target + s.cfg.gap

theorem not_permitted_of_near {o : OpenStream} {p t : Nat} {s : State} (h : s.nearOn p t) : (s.positioned o p).permitted t = false := by
  obtain ⟨j, i, hj, hi, hgap, hlow, hhigh⟩ := h
  refine Bool.eq_false_iff.mpr fun hgo => ?_
  obtain ⟨i', hi', hclear⟩ := ((s.positioned o p).permitted_iff t).mp hgo j ((s.cfg.mem_neighbours_iff j).mpr hj)
  cases hi.symm.trans hi'
  have hown : (s.positioned o p).own = p := rfl
  have hcfg : (s.positioned o p).cfg = s.cfg := rfl
  rw [hown, hcfg] at hclear
  omega

theorem permitted_of_not_near {o : OpenStream} {p t : Nat} {s : State}
    (hheard : ∀ j, (j + 1 = s.k ∧ 1 ≤ j) ∨ (j = s.k + 1 ∧ s.k < s.cfg.stations) → (s.peer j).info ≠ none) (h : ¬ s.nearOn p t) :
    (s.positioned o p).permitted t = true := by
  refine ((s.positioned o p).permitted_iff t).mpr fun j hj => ?_
  have hneighbour := (s.cfg.mem_neighbours_iff j).mp hj
  obtain ⟨i, hi⟩ := Option.ne_none_iff_exists'.mp (hheard j hneighbour)
  refine ⟨i, hi, ?_⟩
  have hown : (s.positioned o p).own = p := rfl
  have hcfg : (s.positioned o p).cfg = s.cfg := rfl
  rw [hown, hcfg]
  by_contra hnear
  exact h ⟨j, i, hneighbour, hi, by omega⟩

theorem cycleTravel_iff {cy : Cycle} {s : State} (hcy : s.cs.cycle = some cy) (t : Nat) :
    s.cycleTravel = some t ↔ cy.task = .placed (.travel t) := by
  unfold cycleTravel
  rw [hcy]
  cases htask : cy.task with
  | placed c => cases c <;> simp [htask]
  | _ => simp [htask]

/-- The TRAVELs in progress after a POSITION (R66). -/
theorem positioned_stop (o : OpenStream) (p : Nat) (s : State) :
    (∀ cy t, s.cs.cycle = some cy → cy.task = .placed (.travel t) → cy.ending = none → cy.stopAsked = false → s.nearOn p t →
      (s.positioned o p).clearanceStop.cs.cycle = some { cy with stopAsked := true }
      ∧ (s.positioned o p).clearanceStop.cs.interject = some .stopMotion)
    ∧ (∀ l, s.cs.lone = some l → l.placed = true → l.ending = none → l.stopAsked = false → s.nearOn p l.target →
      (s.positioned o p).clearanceStop.cs.lone = some { l with stopAsked := true }
      ∧ (s.positioned o p).clearanceStop.cs.interject = some .stopMotion)
    ∧ ((∀ j, (j + 1 = s.k ∧ 1 ≤ j) ∨ (j = s.k + 1 ∧ s.k < s.cfg.stations) → (s.peer j).info ≠ none) →
        (∀ cy t, s.cs.cycle = some cy → cy.task = .placed (.travel t) → cy.ending ≠ none ∨ cy.stopAsked = true ∨ ¬ s.nearOn p t) →
        (∀ l, s.cs.lone = some l → l.placed = true → l.ending ≠ none ∨ l.stopAsked = true ∨ ¬ s.nearOn p l.target) →
        (s.positioned o p).clearanceStop.cs = s.cs) := by
  refine ⟨fun cy t hcy htask he ha hnear => ?_, fun l hl hplaced he ha hnear => ?_, fun hheard hcycle hlone => ?_⟩
  · obtain ⟨hinterject, hstopped⟩ := clearanceStop_cycle (s := s.positioned o p) hcy ((cycleTravel_iff (s := s.positioned o p) hcy t).mpr htask)
      he ha (not_permitted_of_near hnear)
    exact ⟨hstopped, hinterject⟩
  · obtain ⟨hinterject, hstopped⟩ := clearanceStop_lone (s := s.positioned o p) hl hplaced he ha (not_permitted_of_near hnear)
    exact ⟨hstopped, hinterject⟩
  · have hrests : (s.positioned o p).clearanceStop = s.positioned o p := by
      refine clearanceStop_rests (fun cy t hcy ht => ?_) fun l hl hplaced => ?_
      · exact (hcycle cy t hcy ((cycleTravel_iff hcy t).mp ht)).imp_right (Or.imp_right (permitted_of_not_near hheard))
      · exact (hlone l hl hplaced).imp_right (Or.imp_right (permitted_of_not_near hheard))
    rw [hrests]
    rfl

end State

end Sys2Proof.Machine
end

section
/-! PROOFS. What an accepted DONE and an accepted GAUGE do (R115, R119, R122 to R125, R143, R145). -/

namespace Sys2Proof.Machine

open Sys2Proof (Byte Word Data Stamp Datum Side Instr)

namespace State

/-! ### The stream that a DONE closes (R111, R114, R115) -/

/-- The stream closed, a TRAVEL's at the position it has come to. -/
def doneClosed (o : OpenStream) (s : State) : State :=
  match o.command with
  | .travel t => s.closeStream.travelCloses t o s.motionStopped
  | _ => s.closeStream

theorem doneCloses_eq (o : OpenStream) (s : State) : s.doneCloses o = match o.user with
    | .lone => (s.doneClosed o).loneDone s.motionStopped
    | .cycle => (s.doneClosed o).commandDone o.command s.motionStopped
    | .port => s.doneClosed o := rfl

theorem doneCloses_cycle {o : OpenStream} (h : o.user = .cycle) (s : State) :
    s.doneCloses o = (s.doneClosed o).commandDone o.command s.motionStopped := by
  rw [doneCloses_eq, h]

theorem doneClosed_frame (o : OpenStream) (s : State) : s.doneClosed o = { s with ep := (s.doneClosed o).ep } := by
  unfold doneClosed
  split <;> rfl

theorem loneDone_ep_keeps (stopped : Bool) (s : State) : (s.loneDone stopped).ep = s.ep := by
  have hretreat : ∀ (side : Side) (t : State), (t.retreatDone side).ep = t.ep := fun side t => by
    unfold retreatDone offerZone onZone
    dsimp only
    split
    · rw [putZone_ep, offer_ep]
    · rfl
  unfold loneDone
  split
  · rfl
  · split
    · rfl
    · split
      case h_1 => exact hretreat _ _
      all_goals rfl

theorem doneCloses_ep (o : OpenStream) (s : State) : (s.doneCloses o).ep = (s.doneClosed o).ep := by
  rw [doneCloses_eq]
  split
  · exact loneDone_ep_keeps _ _
  · exact commandDone_ep _ _ _
  · rfl

/-- Where a TRAVEL has closed the carriage stands (R114). -/
theorem doneClosed_travel {o : OpenStream} {t : Nat} (h : o.command = .travel t) (s : State) :
    (s.doneClosed o).ep.ownPos = some (if s.motionStopped then o.lastPosition.getD s.ep.travelStart else t)
    ∧ (s.doneClosed o).ep.stream = none ∧ (s.doneClosed o).ep.stopped = .no := by
  unfold doneClosed
  rw [h]
  exact ⟨rfl, rfl, rfl⟩

/-! ### The cycle's command done (R119, R123 to R125) -/

section
variable {cy : Cycle} {s : State} (hcy : s.cs.cycle = some cy) (hw : cy.winding = false)
include hcy hw

theorem commandDone_travel (t : Nat) (stopped : Bool) : s.commandDone (.travel t) stopped
    = if stopped then s.setCycle { cy with task := .toPlace (.travel t) true, stopAsked := false }
      else s.setCycle { cy.nextMove with stopAsked := false } := by
  simp only [commandDone, hcy, hw, Bool.false_eq_true, if_false]

theorem commandDone_slide (q : Nat) (stopped : Bool) :
    s.commandDone (.slide q) stopped = s.setCycle { cy with stage := .sensing, task := .toPlace .sense false } := by
  simp only [commandDone, hcy, hw, Bool.false_eq_true, if_false]

theorem commandDone_clamp_set {h : Nat} (hwork : cy.work = .hole ⟨h, .set⟩) (stopped : Bool) :
    s.commandDone .clamp stopped = (State.setCycle { cy with clamped := true, stage := .budgeting, task := .idle }
      { s with cs.lastClamp := some s.clock }).beginDraw h ((cy.grip.map (·.2.draw)).getD 0) := by
  have hw' : Cycle.winding { cy with clamped := true } = false := hw
  simp only [commandDone, hcy, hw', Bool.false_eq_true, if_false]
  rw [hwork]

theorem commandDone_clamp_drill (hwork : ∀ h, cy.work ≠ .hole ⟨h, .set⟩) (stopped : Bool) : s.commandDone .clamp stopped
    = State.setCycle { cy with clamped := true, task := .toPlace (.drill 0) false } { s with cs.lastClamp := some s.clock } := by
  have hw' : Cycle.winding { cy with clamped := true } = false := hw
  simp only [commandDone, hcy, hw', Bool.false_eq_true, if_false]

theorem commandDone_retract (stopped : Bool) : s.commandDone .retract stopped = s.setCycle cy.afterRetract := by
  simp only [commandDone, hcy, hw, Bool.false_eq_true, if_false]

theorem commandDone_unclamp (stopped : Bool) :
    s.commandDone .unclamp stopped = s.setCycle { cy with clamped := false, stage := .reporting, task := .idle } := by
  have hw' : Cycle.winding { cy with clamped := false } = false := hw
  simp only [commandDone, hcy, hw', Bool.false_eq_true, if_false]

end

theorem nextMove_first {cy : Cycle} (h : cy.stage ≠ .sensing) : cy.nextMove = { cy with task := .toPlace (.slide cy.cross) false } := by
  unfold Cycle.nextMove
  cases hs : cy.stage with
  | sensing => exact absurd hs h
  | _ => rfl

theorem nextMove_again {cy : Cycle} (h : cy.stage = .sensing) : cy.nextMove = match cy.reposition with
    | some q => { cy with reposition := none, task := .toPlace (.slide q) false }
    | none => { cy with task := .toPlace .sense false } := by
  cases hagain : cy.reposition with
  | none => simp only [Cycle.nextMove, h, hagain]
  | some q => simp only [Cycle.nextMove, h, hagain]

/-- A draw begun: DU has the hole and the amount, and offers its INTENT (R152). -/
theorem beginDraw_spec (hole amount : Nat) (s : State) : (s.beginDraw hole amount).cs = s.cs
    ∧ (s.beginDraw hole amount).du.own.state = .queued ∧ (s.beginDraw hole amount).du.own.amount = amount
    ∧ (s.beginDraw hole amount).du.own.hole = hole ∧ (s.beginDraw hole amount).offered .du (.draw .intent amount hole) := by
  obtain ⟨hdu, -⟩ := queueIntent_own (s.onIntent fun o => { o with amount, hole })
  refine ⟨?_, ?_, ?_, ?_, offer_offered .du _ (s.onIntent fun o => { o with amount, hole })⟩
  · exact offer_cs .du _ (s.onIntent fun o => { o with amount, hole })
  · rw [beginDraw, hdu]
    rfl
  · rw [beginDraw, hdu]
    rfl
  · rw [beginDraw, hdu]
    rfl

section
variable {o : OpenStream} {cy : Cycle} {s : State} (huser : o.user = .cycle) (hcy : s.cs.cycle = some cy)
include huser hcy

/-- A DONE of the cycle's, by its command. -/
theorem doneCloses_running {c : Command} (h : o.command = c) : ∃ t : State, t.cs = s.cs ∧ t.clock = s.clock
    ∧ t.cs.cycle = some cy ∧ s.doneCloses o = t.commandDone c s.motionStopped := by
  refine ⟨s.doneClosed o, ?_, ?_, ?_, by rw [doneCloses_cycle huser, h]⟩
  · rw [doneClosed_frame]
  · rw [doneClosed_frame]
  · rw [doneClosed_frame]
    exact hcy

variable (hw : cy.winding = false)
include hw

theorem doneCloses_travel_stopped {t : Nat} (h : o.command = .travel t) (hstopped : s.motionStopped = true) :
    (s.doneCloses o).cs.cycle = some { cy with task := .toPlace (.travel t) true, stopAsked := false } := by
  obtain ⟨u, -, -, hucy, heq⟩ := doneCloses_running huser hcy h
  rw [heq, commandDone_travel hucy hw, hstopped]
  rfl

theorem doneCloses_travel {t : Nat} (h : o.command = .travel t) (hgoes : s.motionStopped = false) :
    (s.doneCloses o).cs.cycle = some { cy.nextMove with stopAsked := false } := by
  obtain ⟨u, -, -, hucy, heq⟩ := doneCloses_running huser hcy h
  rw [heq, commandDone_travel hucy hw, hgoes]
  rfl

theorem doneCloses_travel_again {t : Nat} (h : o.command = .travel t) (hgoes : s.motionStopped = false) (hstage : cy.stage = .sensing) :
    (s.doneCloses o).cs.cycle = match cy.reposition with
      | some q => some { cy with reposition := none, task := .toPlace (.slide q) false, stopAsked := false }
      | none => some { cy with task := .toPlace .sense false, stopAsked := false } := by
  rw [doneCloses_travel huser hcy hw h hgoes, nextMove_again hstage]
  cases cy.reposition <;> rfl

theorem doneCloses_slide {q : Nat} (h : o.command = .slide q) :
    (s.doneCloses o).cs.cycle = some { cy with stage := .sensing, task := .toPlace .sense false } := by
  obtain ⟨u, -, -, hucy, heq⟩ := doneCloses_running huser hcy h
  rw [heq, commandDone_slide hucy hw]
  rfl

theorem doneCloses_retract (h : o.command = .retract) : (s.doneCloses o).cs.cycle = some cy.afterRetract := by
  obtain ⟨u, -, -, hucy, heq⟩ := doneCloses_running huser hcy h
  rw [heq, commandDone_retract hucy hw]
  rfl

theorem doneCloses_unclamp (h : o.command = .unclamp) :
    (s.doneCloses o).cs.cycle = some { cy with clamped := false, stage := .reporting, task := .idle } := by
  obtain ⟨u, -, -, hucy, heq⟩ := doneCloses_running huser hcy h
  rw [heq, commandDone_unclamp hucy hw]
  rfl

theorem doneCloses_clamp_drill (h : o.command = .clamp) (hwork : ∀ n, cy.work ≠ .hole ⟨n, .set⟩) :
    (s.doneCloses o).cs.cycle = some { cy with clamped := true, task := .toPlace (.drill 0) false }
    ∧ (s.doneCloses o).cs.lastClamp = some s.clock := by
  obtain ⟨u, -, hclock, hucy, heq⟩ := doneCloses_running huser hcy h
  rw [heq, commandDone_clamp_drill hucy hw hwork]
  exact ⟨rfl, congrArg some hclock⟩

theorem doneCloses_clamp_set {n m : Nat} {g : GripClass} (h : o.command = .clamp) (hwork : cy.work = .hole ⟨n, .set⟩)
    (hgrip : cy.grip = some (m, g)) :
    (s.doneCloses o).cs.cycle = some { cy with clamped := true, stage := .budgeting, task := .idle }
    ∧ (s.doneCloses o).cs.lastClamp = some s.clock ∧ (s.doneCloses o).du.own.state = .queued
    ∧ (s.doneCloses o).du.own.amount = g.draw ∧ (s.doneCloses o).du.own.hole = n
    ∧ (s.doneCloses o).offered .du (.draw .intent g.draw n) := by
  obtain ⟨u, -, hclock, hucy, heq⟩ := doneCloses_running huser hcy h
  have hbegins : s.doneCloses o = (State.setCycle { cy with clamped := true, stage := .budgeting, task := .idle }
      { u with cs.lastClamp := some u.clock }).beginDraw n g.draw := by
    rw [heq, commandDone_clamp_set hucy hw hwork, hgrip]
    rfl
  obtain ⟨hcs, hstate, hamount, hhole, hoffered⟩ := beginDraw_spec n g.draw (State.setCycle
    { cy with clamped := true, stage := .budgeting, task := .idle } { u with cs.lastClamp := some u.clock })
  rw [hbegins]
  refine ⟨?_, ?_, hstate, hamount, hhole, hoffered⟩
  · rw [hcs]
    rfl
  · rw [hcs]
    exact congrArg some hclock

end

/-! ### GAUGE (R122, R143, R145) -/

/-- The gauged stack in the cycle's entry, unless a frame cycle start has set the hole table back. -/
def gaugeWritten (v : Nat) (cy : Cycle) (c : Claim) (s : State) : State :=
  match s.ht[c.hole]? with
  | some e =>
    if cy.voided then s else s.putEntry c.hole { e with stack := some { value := v, source := .gauge }, plies := none }
  | none => s

theorem gaugeDone_hole {cy : Cycle} {c : Claim} {s : State} (hcy : s.cs.cycle = some cy) (hwork : cy.work = .hole c) (v : Nat) :
    s.gaugeDone v = if cy.winding then (s.gaugeWritten v cy c).setCycle { cy with task := .idle }
      else match lookupKey c.hole (s.gaugeWritten v cy c).ps.holes with
        | none => (s.gaugeWritten v cy c).setCycle { cy with task := .idle }
        | some h => if h.gaugePasses v then (s.gaugeWritten v cy c).chooseGrip v cy
          else (s.gaugeWritten v cy c).setCycle (cy.retracting (.rejected .stack none none none)) := by
  unfold gaugeDone
  rw [hcy]
  dsimp only
  rw [hwork]
  rfl

theorem chooseGrip_frame (v : Nat) (cy : Cycle) (s : State) : s.chooseGrip v cy = { s with cs := (s.chooseGrip v cy).cs } := by
  unfold chooseGrip
  split <;> rfl

/-- What follows the writing is CS's alone. -/
theorem gaugeDone_ht {cy : Cycle} {c : Claim} {s : State} (hcy : s.cs.cycle = some cy) (hwork : cy.work = .hole c) (v : Nat) :
    (s.gaugeDone v).ht = (s.gaugeWritten v cy c).ht := by
  rw [gaugeDone_hole hcy hwork]
  split
  · rfl
  · split
    · rfl
    · split
      · rw [chooseGrip_frame]
      · rfl

theorem gaugeWritten_entry {cy : Cycle} {c : Claim} {e : HoleEntry} {s : State} (hvoid : cy.voided = false)
    (he : s.ht[c.hole]? = some e) (v : Nat) :
    (s.gaugeWritten v cy c).ht[c.hole]? = some { e with stack := some ⟨v, .gauge⟩, plies := none } := by
  obtain ⟨hlen, -⟩ := List.getElem?_eq_some_iff.mp he
  unfold gaugeWritten
  rw [he]
  dsimp only
  rw [hvoid, if_neg Bool.false_ne_true, putEntry_ht, List.getElem?_set_self hlen]

theorem gaugeWritten_rests (v : Nat) (cy : Cycle) (c : Claim) (s : State) :
    (s.gaugeWritten v cy c).ps = s.ps ∧ (s.gaugeWritten v cy c).setup = s.setup := by
  unfold gaugeWritten
  split
  · split
    · exact ⟨rfl, rfl⟩
    · rw [putEntry_eq]
      exact ⟨rfl, rfl⟩
  · exact ⟨rfl, rfl⟩

theorem gaugePasses_iff (h : PlanHole) (v : Nat) : h.gaugePasses v = true ↔ v ≤ h.nominal + h.tolerance ∧ h.nominal ≤ v + h.tolerance := by
  rw [PlanHole.gaugePasses, decide_eq_true_eq]
  omega

theorem chooseGrip_cycle (v : Nat) (cy : Cycle) (s : State) : (s.chooseGrip v cy).cs.cycle = match gripFor s.cfg.classes v with
    | none => some (cy.retracting (.rejected .grip none none none))
    | some g => some { cy with grip := some g, stage := .clamping, task := .toPlace .clamp false } := by
  unfold chooseGrip
  cases gripFor s.cfg.classes v <;> rfl

/-- The cycle after its GAUGE (R122). -/
theorem gaugeDone_cycle {cy : Cycle} {c : Claim} {h : PlanHole} {s : State} (hcy : s.cs.cycle = some cy) (hwork : cy.work = .hole c)
    (hw : cy.winding = false) (hh : lookupKey c.hole s.ps.holes = some h) (v : Nat) :
    (h.gaugePasses v = false → (s.gaugeDone v).cs.cycle = some (cy.retracting (.rejected .stack none none none)))
    ∧ (h.gaugePasses v = true →
      (∀ g, gripFor s.cfg.classes v = some g →
        (s.gaugeDone v).cs.cycle = some { cy with grip := some g, stage := .clamping, task := .toPlace .clamp false })
      ∧ (gripFor s.cfg.classes v = none → (s.gaugeDone v).cs.cycle = some (cy.retracting (.rejected .grip none none none)))) := by
  obtain ⟨hps, hsetup⟩ := s.gaugeWritten_rests v cy c
  have hcfg : (s.gaugeWritten v cy c).cfg = s.cfg := cfg_congr hsetup
  have hjudged : s.gaugeDone v = if h.gaugePasses v then (s.gaugeWritten v cy c).chooseGrip v cy
      else (s.gaugeWritten v cy c).setCycle (cy.retracting (.rejected .stack none none none)) := by
    rw [gaugeDone_hole hcy hwork, hw, if_neg Bool.false_ne_true, hps, hh]
  refine ⟨fun hfails => ?_, fun hpasses => ⟨fun g hg => ?_, fun hnone => ?_⟩⟩
  · rw [hjudged, hfails]
    rfl
  · rw [hjudged, if_pos hpasses, chooseGrip_cycle, hcfg, hg]
  · rw [hjudged, if_pos hpasses, chooseGrip_cycle, hcfg, hnone]

/-! ### The grip class (R145) -/

theorem mem_numbered_iff {classes : List GripClass} {n : Nat} {g : GripClass} :
    (n, g) ∈ (List.range classes.length).zip classes ↔ classes[n]? = some g := by
  rw [List.mem_iff_getElem?]
  constructor
  · rintro ⟨i, hi⟩
    obtain ⟨hn, hg⟩ := List.getElem?_zip_eq_some.mp hi
    obtain ⟨hlen, heq⟩ := List.getElem?_eq_some_iff.mp hn
    rw [List.getElem_range] at heq
    subst heq
    exact hg
  · intro hg
    obtain ⟨hlen, -⟩ := List.getElem?_eq_some_iff.mp hg
    exact ⟨n, List.getElem?_zip_eq_some.mpr ⟨List.getElem?_range hlen, hg⟩⟩

theorem gripFor_none_iff (classes : List GripClass) (v : Nat) :
    gripFor classes v = none ↔ ∀ g ∈ classes, v < g.minStack ∨ g.maxStack < v := by
  unfold gripFor
  rw [List.find?_eq_none]
  constructor
  · intro hnone g hg
    obtain ⟨n, hn⟩ := List.mem_iff_getElem?.mp hg
    have hout := hnone (n, g) (mem_numbered_iff.mpr hn)
    simp only [Bool.and_eq_true, decide_eq_true_eq] at hout
    omega
  · rintro hout ⟨n, g⟩ hmem
    have hg := hout g (List.mem_of_getElem? (mem_numbered_iff.mp hmem))
    simp only [Bool.and_eq_true, decide_eq_true_eq]
    omega

theorem gripFor_serves {classes : List GripClass} {v n : Nat} {g : GripClass} (h : gripFor classes v = some (n, g)) :
    classes[n]? = some g ∧ g.minStack ≤ v ∧ v ≤ g.maxStack := by
  have hserves := List.find?_some h
  simp only [Bool.and_eq_true, decide_eq_true_eq] at hserves
  exact ⟨mem_numbered_iff.mp (List.mem_of_find?_eq_some h), hserves⟩

end State

end Sys2Proof.Machine
end

section
/-! PROOFS. How a SQUEEZE ends, and what a PRESSURE does (R124, R146, R155, R156, R158). -/

namespace Sys2Proof.Machine

open Sys2Proof (Byte Word Data Stamp Datum Side Instr)

namespace State

/-! ### A frame that waits with LC (R49, R51) -/

/-- A frame with this name, of this block and with this content, is queued or held. -/
def frameWaits (id : Nat) (o : Owner) (b : Body) (s : State) : Prop := ∃ f ∈ s.lc.queue ++ s.lc.held, f.id = id ∧ f.owner = o ∧ f.body = b

theorem frameWaits.offered {id : Nat} {o : Owner} {b : Body} {s : State} (h : s.frameWaits id o b) : s.offered o b := by
  obtain ⟨f, hf, -, howner, hbody⟩ := h
  exact ⟨f, hf, howner, hbody⟩

theorem frameWaits.of_lc {id : Nat} {o : Owner} {b : Body} {s t : State} (hlc : t.lc = s.lc) (h : s.frameWaits id o b) :
    t.frameWaits id o b := by
  unfold frameWaits
  rw [hlc]
  exact h

section
variable {id : Nat} {o : Owner} {b : Body}

theorem offer_frameWaits (o' : Owner) (b' : Body) {s : State} (h : s.frameWaits id o b) : (s.offer o' b').frameWaits id o b := by
  obtain ⟨f, hf, hnames⟩ := h
  exact ⟨f, offer_keeps o' b' s f hf, hnames⟩

theorem queueOwed_frameWaits (n : Nat) {s : State} (h : s.frameWaits id o b) : (s.queueOwed n).frameWaits id o b := by
  obtain ⟨f, hf, hnames⟩ := h
  unfold queueOwed
  split
  · exact ⟨f, hf, hnames⟩
  · dsimp only
    rw [putEntry_eq]
    refine ⟨f, ?_, hnames⟩
    rcases List.mem_append.mp hf with hf | hf
    · exact List.mem_append_left _ ((mem_insertByClass _ _ _).mpr (.inr hf))
    · exact List.mem_append_right _ hf

/-- A held frame that is admitted waits in the queue instead; HT's place for a correction owed alone goes without one (R14). -/
theorem admitOne_frameWaits (hb : b ≠ .owed) {s : State} (h : s.frameWaits id o b) : s.admitOne.frameWaits id o b := by
  obtain ⟨f, hf, hid, howner, hbody⟩ := h
  unfold admitOne
  split
  · split
    · exact ⟨f, hf, hid, howner, hbody⟩
    · rename_i g hg
      have hsplit : f ∈ s.lc.queue ++ s.lc.held.erase g ∨ f = g := by
        rcases List.mem_append.mp hf with hf | hf
        · exact .inl (List.mem_append_left _ hf)
        · by_cases heq : f = g
          · exact .inr heq
          · exact .inl (List.mem_append_right _ ((List.mem_erase_of_ne heq).mpr hf))
      dsimp only
      split
      · rename_i howed
        have hstays : frameWaits id o b { s with lc.held := s.lc.held.erase g } :=
          ⟨f, hsplit.resolve_right (by rintro rfl; exact hb (hbody.symm.trans howed)), hid, howner, hbody⟩
        split
        · exact queueOwed_frameWaits _ hstays
        · exact hstays
      · refine ⟨f, ?_, hid, howner, hbody⟩
        rcases hsplit with hmem | rfl
        · rcases List.mem_append.mp hmem with hmem | hmem
          · exact List.mem_append_left _ ((mem_insertByClass _ _ _).mpr (.inr hmem))
          · exact List.mem_append_right _ hmem
        · exact List.mem_append_left _ ((mem_insertByClass _ _ _).mpr (.inl rfl))
  · exact ⟨f, hf, hid, howner, hbody⟩

theorem removeFrame_frameWaits (hb : b ≠ .owed) {id' : Nat} (hid' : id' ≠ id) {s : State} (h : s.frameWaits id o b) :
    (s.removeFrame id').frameWaits id o b := by
  unfold removeFrame
  split
  · exact h
  · refine repeatState_keeps (P := frameWaits id o b) (fun _ ht => admitOne_frameWaits hb ht) _ _ ?_
    obtain ⟨f, hf, hid, hnames⟩ := h
    have hkept : (f.id != id') = true := by
      rw [hid]
      simpa using hid'.symm
    refine ⟨f, ?_, hid, hnames⟩
    rcases List.mem_append.mp hf with hf | hf
    · exact List.mem_append_left _ (List.mem_filter.mpr ⟨hf, hkept⟩)
    · exact List.mem_append_right _ (List.mem_filter.mpr ⟨hf, hkept⟩)

theorem voidInFlight_frameWaits (p : Body → Bool) {s : State} (h : s.frameWaits id o b) : (s.voidInFlight p).frameWaits id o b := by
  unfold voidInFlight
  split
  · rename_i a _
    split
    · obtain ⟨f, hf, hid, howner, hbody⟩ := h
      rcases List.mem_append.mp hf with hf | hf
      · refine ⟨_, List.mem_append_left _ (List.mem_map_of_mem hf), ?_⟩
        split
        · exact ⟨hid, howner, hbody⟩
        · exact ⟨hid, howner, hbody⟩
      · exact ⟨f, List.mem_append_right _ hf, hid, howner, hbody⟩
    · exact h
  · exact h

theorem resetZone_lc (side : Side) (s : State) : (s.resetZone side).lc = s.lc := by
  unfold resetZone
  dsimp only
  split
  · rfl
  · exact putZone_lc side _ s

/-- A zone given up asks LC to remove its own outstanding frame and no other (R85). -/
theorem giveUpZone_frameWaits (hb : b ≠ .owed) {side : Side} {s : State} (hzone : (s.zone side).frameId ≠ id) (h : s.frameWaits id o b) :
    (s.giveUpZone side).frameWaits id o b := by
  unfold giveUpZone
  dsimp only
  refine .of_lc (resetZone_lc side _) ?_
  have hgone : (if (s.zone side).outstanding = .no then s
      else if s.inFlight (s.zone side).frameId then s.voidInFlight (fun _ => true)
      else s.removeFrame (s.zone side).frameId).frameWaits id o b := by
    split
    · exact h
    · split
      · exact voidInFlight_frameWaits _ h
      · exact removeFrame_frameWaits hb hzone h
  split
  · exact offer_frameWaits .zc _ hgone
  · exact hgone

theorem giveUpZone_zone_other {side other : Side} (h : other ≠ side) (s : State) : (s.giveUpZone side).zone other = s.zone other := by
  have hreset : ∀ t : State, (t.resetZone side).zone other = t.zone other := fun t => by
    unfold resetZone
    dsimp only
    split
    · rfl
    · exact onZone_zone_other h (fun z => { state := t.firstState side, bounds := z.bounds }) t
  unfold giveUpZone
  dsimp only
  rw [hreset]
  have hvoid : (s.voidInFlight fun _ => true).zone other = s.zone other := by
    unfold voidInFlight
    split
    · split <;> rfl
    · rfl
  split <;> split_ifs <;> simp only [offerZone, zone, offer_zc, removeFrame_zc] at hvoid ⊢ <;> exact hvoid

theorem giveUpZones_frameWaits (hb : b ≠ .owed) {s : State} (hzones : ∀ side, (s.zone side).frameId ≠ id) (h : s.frameWaits id o b) :
    s.giveUpZones.frameWaits id o b := by
  refine giveUpZone_frameWaits hb ?_ (giveUpZone_frameWaits hb (hzones .left) h)
  rw [giveUpZone_zone_other (by decide)]
  exact hzones .right

theorem dropSelection_frameWaits (hb : b ≠ .owed) {s : State} (hselection : ∀ x, s.ws.selection = some x → x.frameId ≠ id)
    (h : s.frameWaits id o b) : s.dropSelection.frameWaits id o b := by
  unfold dropSelection
  split
  · exact h
  · rename_i x hx
    split
    case h_1 | h_2 =>
      split
      · exact h
      · exact removeFrame_frameWaits hb (hselection x hx) (s := { s with ws.selection := none }) h
    all_goals exact h

end

/-! ### A fault that leaves the cycle where it stands (R128, R167) -/

/-- A fault's part before the selection, the zones and the intent. -/
def faultEntered (src : FaultSource) (s : State) : State :=
  endLone .fault (takeEnding .fault true (setWork .faulted
    { s.recordCause src with eu.linkSuccess := false, ws.jigOpened := s.ws.jigOpened || decide (s.ws.state = .idle) }))

theorem enterFaulted_eq {s : State} (hs : s.faultable) (src : FaultSource) :
    s.enterFaulted src = giveUpIntent (giveUpZones { (s.faultEntered src).dropSelection with ws.park := .no }) := by
  unfold enterFaulted
  split
  case h_1 | h_2 | h_3 | h_4 => rfl
  all_goals
    rename_i h
    simp [faultable, h] at hs

/-- From s to t a lone motion, a cycle's ending and what EU and WS note of a fault have changed. -/
structure EndingNoted (cy : Cycle) (s t : State) : Prop where
  cycle : ∃ e, t.cs.cycle = some { cy with ending := e }
  lastSqueeze : t.cs.lastSqueeze = s.cs.lastSqueeze
  lc : t.lc = s.lc
  zc : t.zc = s.zc
  du : t.du = s.du
  selection : t.ws.selection = s.ws.selection

theorem takeEnding_goesOn {cy : Cycle} {s : State} (hcy : s.cs.cycle = some cy) (hstage : cy.stage.goesOn = true) (cause : EndCause)
    (through : Bool) : ∃ e, s.takeEnding cause through = s.setCycle { cy with ending := e } := by
  unfold takeEnding
  rw [hcy]
  dsimp only
  split
  · exact ⟨_, rfl⟩
  · rw [if_pos hstage]
    exact ⟨_, rfl⟩

theorem endLone_frame (how : LoneEnd) (s : State) : s.endLone how = { s with cs.lone := (s.endLone how).cs.lone } := by
  unfold endLone
  split
  · rfl
  · split
    · rfl
    · split <;> rfl

theorem faultEntered_goesOn {cy : Cycle} {s : State} (hcy : s.cs.cycle = some cy) (hstage : cy.stage.goesOn = true) (src : FaultSource) :
    EndingNoted cy s (s.faultEntered src) := by
  obtain ⟨e, he⟩ := takeEnding_goesOn (s := setWork .faulted { s.recordCause src with
    eu.linkSuccess := false, ws.jigOpened := s.ws.jigOpened || decide (s.ws.state = .idle) }) hcy hstage .fault true
  rw [faultEntered, he, endLone_frame]
  exact ⟨⟨e, rfl⟩, rfl, rfl, rfl, rfl, rfl⟩

theorem dropSelection_cs (s : State) : s.dropSelection.cs = s.cs := by
  unfold dropSelection
  split
  · rfl
  · split
    case h_1 | h_2 =>
      split
      · rfl
      · exact (removeFrame_linkStep _ _).cs
    all_goals rfl

theorem dropSelection_zc (s : State) : s.dropSelection.zc = s.zc := by
  unfold dropSelection
  split
  · rfl
  · split
    case h_1 | h_2 =>
      split
      · rfl
      · exact removeFrame_zc _ _
    all_goals rfl

theorem giveUpZones_cs (s : State) : s.giveUpZones.cs = s.cs :=
  (giveUpZone_linkStep .right _).cs.trans (giveUpZone_linkStep .left s).cs

theorem giveUpIntent_none {s : State} (h : s.du.own.state = .no) : s.giveUpIntent = s := by
  unfold giveUpIntent
  rw [h]

theorem giveUpIntent_cs (s : State) : s.giveUpIntent.cs = s.cs := by
  unfold giveUpIntent
  split
  case h_1 | h_2 | h_7 => rfl
  case h_3 =>
    dsimp only
    rw [onIntent_cs]
    split
    · exact (removeFrame_linkStep _ s).cs
    · rfl
  all_goals exact offer_cs .du (.draw .withdraw 0 s.du.own.hole) (s.setDraw s.k none)

/-- A fault leaves a cycle in a stage that goes on, beside its ending (R128). -/
theorem enterFaulted_goesOn {cy : Cycle} {s : State} (hcy : s.cs.cycle = some cy) (hstage : cy.stage.goesOn = true) (src : FaultSource) :
    (∃ e, (s.enterFaulted src).cs.cycle = some { cy with ending := e }) ∧ (s.enterFaulted src).cs.lastSqueeze = s.cs.lastSqueeze := by
  by_cases hs : s.faultable
  · have hnoted := faultEntered_goesOn hcy hstage src
    have hcs : (s.enterFaulted src).cs = (s.faultEntered src).cs := by
      rw [enterFaulted_eq hs, giveUpIntent_cs, giveUpZones_cs]
      exact dropSelection_cs _
    rw [hcs]
    exact ⟨hnoted.cycle, hnoted.lastSqueeze⟩
  · rw [enterFaulted_rests src hs]
    exact ⟨⟨cy.ending, hcy⟩, rfl⟩

/-- With no own intent a fault removes the zones' frames and the selection's alone (R85, R128). -/
theorem enterFaulted_frameWaits {cy : Cycle} {id : Nat} {o : Owner} {b : Body} {s : State} (hcy : s.cs.cycle = some cy)
    (hstage : cy.stage.goesOn = true) (hno : s.du.own.state = .no) (hb : b ≠ .owed) (hzones : ∀ side, (s.zone side).frameId ≠ id)
    (hselection : ∀ x, s.ws.selection = some x → x.frameId ≠ id) (src : FaultSource) (hwaits : s.frameWaits id o b) :
    (s.enterFaulted src).frameWaits id o b := by
  by_cases hs : s.faultable
  · have hnoted := faultEntered_goesOn hcy hstage src
    have hstill : (giveUpZones { (s.faultEntered src).dropSelection with ws.park := .no }).du.own.state = .no := by
      rw [giveUpZones_du]
      exact (congrArg (fun d => d.own.state) ((dropSelection_du _).trans hnoted.du)).trans hno
    rw [enterFaulted_eq hs, giveUpIntent_none hstill]
    refine giveUpZones_frameWaits hb (fun side => ?_) (.of_lc rfl (dropSelection_frameWaits hb (fun x hx => ?_) (.of_lc hnoted.lc hwaits)))
    · have hzc : ({ (s.faultEntered src).dropSelection with ws.park := .no } : State).zone side = s.zone side := by
        show (s.faultEntered src).dropSelection.zc.zone side = s.zc.zone side
        rw [dropSelection_zc, hnoted.zc]
      rw [hzc]
      exact hzones side
    · exact hselection x (hnoted.selection ▸ hx)
  · rw [enterFaulted_rests src hs]
    exact hwaits

/-! ### The SQUEEZE's end (R117, R124, R146, R158) -/

/-- What the end of a SQUEEZE leaves: the ram recovery, the outcome, and a SQUEEZING own intent ended by its DONE. -/
theorem squeezeEnds_cs (out : CycleOutcome) (normally : Bool) (s : State) :
    (s.squeezeEnds out normally).cs = { s.cs with cycle := s.cs.cycle.map (Cycle.retracting out), lastSqueeze := some s.clock } := by
  unfold squeezeEnds squeezeClosed offerDraw onCycle
  dsimp only
  split
  · split
    · rw [offer_eq]
      rfl
    · rw [offer_eq]
      rfl
  · rfl

theorem squeezeEnds_rests {s : State} (out : CycleOutcome) (normally : Bool) (h : s.du.own.state ≠ .squeezing) :
    (s.squeezeEnds out normally).du = s.du := by
  unfold squeezeEnds squeezeClosed
  dsimp only
  rw [if_neg h]
  rfl

theorem squeezeEnds_du {s : State} (out : CycleOutcome) (normally : Bool) (h : s.du.own.state = .squeezing) :
    (s.squeezeEnds out normally).du = { s.du with
      table := s.du.table.set (s.k - 1) none, own := s.du.own.ended .no, supplyWaits := if normally then 0 else s.du.supplyWaits } := by
  unfold squeezeEnds squeezeClosed offerDraw
  dsimp only
  rw [if_pos h, offer_eq]
  cases normally <;> rfl

theorem squeezeClosed_lc {s : State} (normally : Bool) (h : s.du.own.state = .squeezing) :
    (s.squeezeClosed normally).lc = ((s.setDraw s.k none).offer .du (.draw .done 0 s.du.own.hole)).lc := by
  rw [squeezeClosed, if_pos h]
  cases normally
  · exact onIntent_lc (OwnIntent.ended .no) _
  · exact onIntent_lc (OwnIntent.ended .no) _

/-- The DONE takes the next name. -/
theorem squeezeEnds_done {s : State} (out : CycleOutcome) (normally : Bool) (h : s.du.own.state = .squeezing) :
    (s.squeezeEnds out normally).frameWaits s.lc.nextId .du (.draw .done 0 s.du.own.hole) :=
  .of_lc ((onCycle_lc _ _).trans (squeezeClosed_lc (s := { s with cs.lastSqueeze := some s.clock }) normally h))
    (offer_mem .du (.draw .done 0 s.du.own.hole) (State.setDraw s.k none { s with cs.lastSqueeze := some s.clock }))

theorem squeezeEnds_keeps (out : CycleOutcome) (normally : Bool) (s : State) :
    (s.squeezeEnds out normally).zc = s.zc ∧ (s.squeezeEnds out normally).ws = s.ws ∧ (s.squeezeEnds out normally).setup = s.setup := by
  unfold squeezeEnds squeezeClosed offerDraw
  dsimp only
  split
  · split
    · rw [offer_eq]
      exact ⟨rfl, rfl, rfl⟩
    · rw [offer_eq]
      exact ⟨rfl, rfl, rfl⟩
  · exact ⟨rfl, rfl, rfl⟩

theorem squeezeEnds_drawEntry {s : State} (out : CycleOutcome) (normally : Bool) (h : s.du.own.state = .squeezing) :
    (s.squeezeEnds out normally).drawEntry s.k = none := by
  have hempty := s.setDraw_none_drawEntry s.k
  unfold drawEntry at hempty ⊢
  rw [squeezeEnds_du out normally h]
  exact hempty

/-! ### A SQUEEZE that fails at the port (R113, R124) -/

/-- The failure as CS and DU have it: a SQUEEZE rejected without figures. -/
theorem cycleFails_squeezing {cy : Cycle} {p q : Nat} {s : State} (hcy : s.cs.cycle = some cy) (hw : cy.winding = false)
    (hstage : cy.stage = .squeezing) (htask : cy.task = .placed (.squeeze p q)) (placed : List Command) :
    ∃ a, s.cycleFails placed
      = squeezeEnds (.rejected .squeeze none (cy.grip.map (·.1)) none) false { s with sa := a } := by
  unfold cycleFails
  extract_lets drilling t
  refine ⟨if drilling then s.sa.fail else s.sa, ?_⟩
  have ht : t = { s with sa := if drilling then s.sa.fail else s.sa } := by
    cases hdrilling : drilling <;> simp only [t, hdrilling, Bool.false_eq_true, if_false, if_true]
  rw [ht]
  dsimp only
  rw [hcy]
  dsimp only
  rw [htask]
  dsimp only
  rw [hw, hstage]
  rfl

theorem closeFailed_frame (s : State) : s.closeFailed = { s with ep := s.closeFailed.ep } := by
  unfold closeFailed
  rw [lowerFlag_eq]

theorem loneFails_rests (s : State) : s.loneFails.cs.cycle = s.cs.cycle ∧ s.loneFails.cs.lastSqueeze = s.cs.lastSqueeze
    ∧ s.loneFails.lc = s.lc ∧ s.loneFails.zc = s.zc ∧ s.loneFails.du = s.du ∧ s.loneFails.ws.selection = s.ws.selection
    ∧ s.loneFails.setup = s.setup := by
  unfold loneFails
  split
  · exact ⟨rfl, rfl, rfl, rfl, rfl, rfl, rfl⟩
  · split
    · dsimp only
      split <;> exact ⟨rfl, rfl, rfl, rfl, rfl, rfl, rfl⟩
    · exact ⟨rfl, rfl, rfl, rfl, rfl, rfl, rfl⟩

end State

end Sys2Proof.Machine
end

section
/-! PROOFS. What accepted SQUEEZE and PRESSURE reports do, and a SQUEEZE that fails (R113, R124, R146, R155, R156, R158). -/

namespace Sys2Proof.Machine

open Sys2Proof (Byte Word Data Stamp Datum Side Instr)

namespace State

/-! ### A SQUEEZE that fails at the port (R113, R124, R167) -/

/-- What a SQUEEZE that fails leaves before the fault enters: rejected without figures, and a SQUEEZING own intent ended by its DONE. -/
structure SqueezeFailed (cy : Cycle) (s t : State) : Prop where
  cycle : t.cs.cycle = some (cy.retracting (.rejected .squeeze none (cy.grip.map (·.1)) none))
  lastSqueeze : t.cs.lastSqueeze = some s.clock
  zc : t.zc = s.zc
  selection : t.ws.selection = s.ws.selection
  own : s.du.own.state = .squeezing → t.du.own.state = .no ∧ t.drawEntry s.k = none ∧ t.du.supplyWaits = s.du.supplyWaits
    ∧ t.frameWaits s.lc.nextId .du (.draw .done 0 s.du.own.hole)

theorem squeezeEnds_failed {cy : Cycle} {s : State} (hcy : s.cs.cycle = some cy) :
    SqueezeFailed cy s (s.squeezeEnds (.rejected .squeeze none (cy.grip.map (·.1)) none) false) := by
  obtain ⟨hzc, hws, -⟩ := squeezeEnds_keeps (.rejected .squeeze none (cy.grip.map (·.1)) none) false s
  refine ⟨?_, ?_, hzc, by rw [hws], fun hown => ⟨?_, squeezeEnds_drawEntry _ _ hown, ?_, squeezeEnds_done _ _ hown⟩⟩
  · rw [squeezeEnds_cs, hcy]
    rfl
  · rw [squeezeEnds_cs]
  · rw [squeezeEnds_du _ _ hown]
    rfl
  · rw [squeezeEnds_du _ _ hown]
    rfl

theorem SqueezeFailed.loneFails {cy : Cycle} {s t : State} (h : SqueezeFailed cy s t) : SqueezeFailed cy s t.loneFails := by
  obtain ⟨hcycle, hlast, hlc, hzc, hdu, hselection, -⟩ := t.loneFails_rests
  refine ⟨hcycle.trans h.cycle, hlast.trans h.lastSqueeze, hzc.trans h.zc, hselection.trans h.selection, fun hown => ?_⟩
  obtain ⟨hstate, hentry, hwaits, hdone⟩ := h.own hown
  unfold drawEntry at hentry ⊢
  rw [hdu]
  exact ⟨hstate, hentry, hwaits, .of_lc hlc hdone⟩

/-- A port failure that is not deadly, with a stream open, fails the commands under way and enters FAULTED. -/
theorem portFails_streaming {o : OpenStream} {s : State} (hstream : s.ep.stream = some o) (hthrough : s.throughEnding = false)
    (hstopping : s.faultStopping = false) (kind : FailKind) : ∃ under, s.portFails kind none
      = ((s.closeFailed.cycleFails under).loneFails.raise .effectorFault).enterFaulted (.effectorFault kind) := by
  have hunder : ((s.ep.transfer.map (·.command)).toList ++ (s.ep.stream.map (·.command)).toList
      ++ (none : Option Command).toList).isEmpty = false := by
    rw [hstream]
    cases s.ep.transfer <;> rfl
  refine ⟨(s.ep.transfer.map (·.command)).toList ++ (s.ep.stream.map (·.command)).toList ++ (none : Option Command).toList, ?_⟩
  unfold portFails
  dsimp only
  rw [hthrough, hstopping, hunder]
  rfl

theorem portFails_squeezing {o : OpenStream} {cy : Cycle} {p q : Nat} {s : State} (hstream : s.ep.stream = some o)
    (hcy : s.cs.cycle = some cy) (hw : cy.winding = false) (hstage : cy.stage = .squeezing) (htask : cy.task = .placed (.squeeze p q))
    (hthrough : s.throughEnding = false) (hstopping : s.faultStopping = false) (kind : FailKind) :
    ∃ t, s.portFails kind none = t.enterFaulted (.effectorFault kind) ∧ SqueezeFailed cy s t := by
  obtain ⟨under, hfails⟩ := portFails_streaming hstream hthrough hstopping kind
  have hclosed : s.closeFailed.cs.cycle = some cy := by rw [closeFailed_frame, hcy]
  obtain ⟨a, hends⟩ := cycleFails_squeezing hclosed hw hstage htask under
  have hlone : SqueezeFailed cy s (s.closeFailed.cycleFails under).loneFails := by
    rw [hends, closeFailed_frame]
    obtain ⟨hcycle, hlast, hzc, hselection, hown⟩ :=
      (squeezeEnds_failed (s := { s with ep := s.closeFailed.ep, sa := a }) hcy).loneFails
    exact ⟨hcycle, hlast, hzc, hselection, hown⟩
  exact ⟨_, hfails, ⟨hlone.cycle, hlone.lastSqueeze, hlone.zc, hlone.selection, hlone.own⟩⟩

theorem SqueezeFailed.faulted_cycle {cy : Cycle} {s t : State} (h : SqueezeFailed cy s t) (src : FaultSource) :
    (∃ cy', (t.enterFaulted src).cs.cycle = some cy' ∧ cy'.stage = .retracting
      ∧ cy'.outcome = some (.rejected .squeeze none (cy.grip.map (·.1)) none))
    ∧ (t.enterFaulted src).cs.lastSqueeze = some s.clock := by
  obtain ⟨⟨e, hcycle⟩, hlast⟩ := enterFaulted_goesOn h.cycle rfl src
  exact ⟨⟨_, hcycle, rfl, rfl⟩, hlast.trans h.lastSqueeze⟩

theorem SqueezeFailed.faulted_own {cy : Cycle} {s t : State} (h : SqueezeFailed cy s t) (src : FaultSource)
    (hown : s.du.own.state = .squeezing) : (t.enterFaulted src).du.own.state = .no ∧ (t.enterFaulted src).drawEntry s.k = none
    ∧ (t.enterFaulted src).du.supplyWaits = s.du.supplyWaits
    ∧ ((∀ side, (s.zone side).frameId < s.lc.nextId) → (∀ x, s.ws.selection = some x → x.frameId < s.lc.nextId) →
        (t.enterFaulted src).offered .du (.draw .done 0 s.du.own.hole)) := by
  obtain ⟨hstate, hentry, hwaits, hdone⟩ := h.own hown
  have hdu : (t.enterFaulted src).du = t.du := (enterFaulted_drawKept src t).none hstate
  unfold drawEntry at hentry ⊢
  rw [hdu]
  refine ⟨hstate, hentry, hwaits, fun hzones hselection => (enterFaulted_frameWaits h.cycle rfl hstate ?_ ?_ ?_ src hdone).offered⟩
  · exact nofun
  · intro side
    have hzone : t.zone side = s.zone side := by rw [zone, h.zc, zone]
    rw [hzone]
    exact (hzones side).ne
  · intro x hx
    exact (hselection x (h.selection ▸ hx)).ne

/-! ### SQUEEZE (R124, R146) -/

theorem judgeSqueeze_rejected {g : GripClass} {p q : Nat} (h : 100 * p < 95 * g.pressure ∨ q < g.minStroke ∨ g.maxStroke < q) (n : Nat) :
    judgeSqueeze n g p q = .rejected .squeeze none (some n) (some ⟨p, q⟩) :=
  if_pos (by omega)

theorem judgeSqueeze_set {g : GripClass} {p q : Nat} (hp : 95 * g.pressure ≤ 100 * p) (hmin : g.minStroke ≤ q) (hmax : q ≤ g.maxStroke)
    (n : Nat) : judgeSqueeze n g p q = .set n p q :=
  if_neg (by omega)

theorem squeezeDone_judges {cy : Cycle} {n : Nat} {g : GripClass} {s : State} (hcy : s.cs.cycle = some cy) (hgrip : cy.grip = some (n, g))
    (p q : Nat) : s.squeezeDone p q = s.squeezeEnds (judgeSqueeze n g p q) true := by
  rw [squeezeDone, hcy, Option.bind_some, hgrip]

/-! ### PRESSURE (R155, R156) -/

/-- The PRESSURE's stream closed, and its command done for the cycle. -/
def pressureClosed (s : State) : State := s.closeStream.onCycle fun cy => { cy with task := .idle }

theorem acceptReport_pressure (o : OpenStream) (d : Data) (v : Nat) (s : State) : s.acceptReport o d (.pressure v)
    = if (s.pressureClosed.judgePressure v).2 then (s.pressureClosed.judgePressure v).1.supplyFaulted
      else (s.pressureClosed.judgePressure v).1 := rfl

theorem supplyLimitPassed_iff {s : State} {t : Nat} (h : s.du.own.supplyStart = some t) :
    s.supplyLimitPassed = true ↔ t + s.cfg.pressureWait ≤ s.clock := by
  rw [supplyLimitPassed, h, decide_eq_true_eq]

theorem judgePressure_elsewhere {s : State} (h : s.du.own.state ≠ .supplyCheck) (v : Nat) : s.judgePressure v = (s, false) := if_neg h

theorem judgePressure_allows {s : State} {v : Nat} (h : s.du.own.state = .supplyCheck) (hv : s.cfg.supplyFloor ≤ v) :
    s.judgePressure v = (s.onIntent (·.ended .allowed), false) := by
  rw [judgePressure, if_pos h, if_pos hv]

theorem judgePressure_fails {s : State} {v : Nat} (h : s.du.own.state = .supplyCheck) (hv : v < s.cfg.supplyFloor)
    (hlimit : s.supplyLimitPassed = true) : s.judgePressure v = (s.supplyFails, true) := by
  rw [judgePressure, if_pos h, if_neg (Nat.not_le.mpr hv), if_pos hlimit]

theorem judgePressure_below {s : State} {v : Nat} (h : s.du.own.state = .supplyCheck) (hv : v < s.cfg.supplyFloor)
    (hlimit : s.supplyLimitPassed = false) : (s.judgePressure v).2 = false ∧ (s.judgePressure v).1.du.own.state = .supplyCheck
    ∧ (s.judgePressure v).1.du.own.lastBelow = true ∧ (s.judgePressure v).1.du.supplyWaits = s.du.supplyWaits := by
  rw [judgePressure, if_pos h, if_neg (Nat.not_le.mpr hv), hlimit, if_neg Bool.false_ne_true]
  dsimp only
  split
  · exact ⟨rfl, h, rfl, rfl⟩
  · exact ⟨rfl, h, rfl, rfl⟩

theorem acceptReport_pressure_rests {s : State} (h : s.du.own.state ≠ .supplyCheck) (o : OpenStream) (d : Data) (v : Nat) :
    (s.acceptReport o d (.pressure v)).du = s.du := by
  rw [acceptReport_pressure, judgePressure_elsewhere (s := s.pressureClosed) h]
  rfl

theorem acceptReport_pressure_allows {s : State} {v : Nat} (h : s.du.own.state = .supplyCheck) (hv : s.cfg.supplyFloor ≤ v)
    (o : OpenStream) (d : Data) : (s.acceptReport o d (.pressure v)).du.own.state = .allowed := by
  rw [acceptReport_pressure, judgePressure_allows (s := s.pressureClosed) h hv]
  rfl

theorem acceptReport_pressure_below {s : State} {v t : Nat} (h : s.du.own.state = .supplyCheck) (hv : v < s.cfg.supplyFloor)
    (hstart : s.du.own.supplyStart = some t) (hearly : s.clock < t + s.cfg.pressureWait) (o : OpenStream) (d : Data) :
    (s.acceptReport o d (.pressure v)).du.own.state = .supplyCheck ∧ (s.acceptReport o d (.pressure v)).du.own.lastBelow = true
    ∧ (s.acceptReport o d (.pressure v)).du.supplyWaits = s.du.supplyWaits := by
  have hlimit : s.pressureClosed.supplyLimitPassed = false := by
    rw [← Bool.not_eq_true, supplyLimitPassed_iff (s := s.pressureClosed) hstart]
    exact Nat.not_le.mpr hearly
  obtain ⟨hgoes, hbelow⟩ := judgePressure_below (s := s.pressureClosed) h hv hlimit
  rw [acceptReport_pressure, hgoes]
  exact hbelow

/-- Past the pressure wait limit the wait fails, as at the limit itself. -/
theorem acceptReport_pressure_fails {s : State} {v t : Nat} (h : s.du.own.state = .supplyCheck) (hv : v < s.cfg.supplyFloor)
    (hstart : s.du.own.supplyStart = some t) (hlate : t + s.cfg.pressureWait ≤ s.clock) (o : OpenStream) (d : Data) :
    s.acceptReport o d (.pressure v) = s.pressureClosed.limitPasses := by
  have hlimit := (supplyLimitPassed_iff (s := s.pressureClosed) hstart).mpr hlate
  rw [acceptReport_pressure, judgePressure_fails (s := s.pressureClosed) h hv hlimit]
  rfl

theorem enterFaulted_sources (src : FaultSource) (s : State) : (s.enterFaulted src).eu.sources = s.eu.sources := by
  by_cases hs : s.faultable
  · exact congrArg (fun d => d.2.1.sources) (enterFaulted_duties src hs)
  · rw [enterFaulted_rests src hs]

/-- A failed supply wait raises SUPPLY LOW (R156). -/
theorem limitPasses_source {s : State} {x : SourceRecord} (hx : s.eu.sources[7]? = some x) :
    s.limitPasses.eu.sources[7]? = some (x.raised (s.levels.getD 7 0)) := by
  have hkept : ∀ t : State, t.supplyFaulted.eu.sources = t.eu.sources := fun t => by
    unfold supplyFaulted
    split
    · exact enterFaulted_sources _ _
    · rfl
  have heu : s.supplyFails.eu = (s.raise .supplyLow).eu := (withdraw_rests _).2.2.1
  rw [limitPasses, hkept, heu]
  exact raise_source .supplyLow hx

theorem supplyFails_own (s : State) : s.supplyFails.du.own.state = .waiting
    ∧ s.supplyFails.du.own.waitDeadline = some (s.clock + s.cfg.drawLife)
    ∧ s.supplyFails.offered .du (.draw .withdraw 0 s.du.own.hole) ∧ s.supplyFails.ws.state = s.ws.state := by
  obtain ⟨hstate, hdeadline, -⟩ := withdraw_own { s.raise .supplyLow with du.supplyWaits := s.du.supplyWaits + 1 }
  have hws := (withdraw_rests { s.raise .supplyLow with du.supplyWaits := s.du.supplyWaits + 1 }).2.1
  rw [supplyFails_eq]
  exact ⟨hstate, hdeadline, withdraw_offered _, congrArg (·.state) hws⟩

theorem acceptReport_squeeze {cy : Cycle} {n : Nat} {g : GripClass} {s : State} (hcy : s.cs.cycle = some cy) (hgrip : cy.grip = some (n, g))
    (o : OpenStream) (d : Data) (p q : Nat) :
    s.acceptReport o d (.squeeze p q) = s.closeStream.squeezeEnds (judgeSqueeze n g p q) true :=
  squeezeDone_judges (s := s.closeStream) hcy hgrip p q

/-- A SQUEEZING own intent ends with the SQUEEZE, by its DONE and with the count of failed supply waits at 0 (R158). -/
theorem squeezeEnds_own {s : State} (out : CycleOutcome) (h : s.du.own.state = .squeezing) :
    (s.squeezeEnds out true).du.own.state = .no ∧ (s.squeezeEnds out true).drawEntry s.k = none
    ∧ (s.squeezeEnds out true).du.supplyWaits = 0 ∧ (s.squeezeEnds out true).offered .du (.draw .done 0 s.du.own.hole) := by
  refine ⟨?_, squeezeEnds_drawEntry out true h, ?_, (squeezeEnds_done out true h).offered⟩
  · rw [squeezeEnds_du out true h]
    rfl
  · rw [squeezeEnds_du out true h]
    rfl

end State

open State in
/-- Settles O51: each report by the lemmas about its handler; a POSITION's halting checks come before its clearance check. -/
theorem acceptedReportsAct : Obligations.AcceptedReportsAct := by
  unfold Obligations.AcceptedReportsAct
  intro o d s
  refine ⟨fun p => positionHeard_ownPos o p s, ?position, ?travel, ?travelStopped, ?cycle, ?gaugeEntry, ?gauge,
    fun v => ⟨gripFor_none_iff _ v, fun n g => gripFor_serves⟩, ?squeeze, ?squeezeFails,
    fun v h hv => acceptReport_pressure_allows h hv o d, fun v t h hv hstart hearly => acceptReport_pressure_below h hv hstart hearly o d,
    ?pressureFails, fun v h => acceptReport_pressure_rests h o d v⟩
  case position =>
    intro p u H B hu hH hB
    have hhard : H ↔ s.haltsAt p := hH
    have hlimit : B ↔ s.cfg.breaches p = true := hB.trans (breaches_iff s.cfg p).symm
    subst hu
    refine ⟨fun hhalts => ?_, fun hnH hnB => ?_, fun hnH hnB N hN => ?_⟩
    · rw [hhard, hlimit] at hhalts
      rw [hhard]
      exact positionHeard_halts hhalts
    · exact ⟨_, (positionHeard_goesOn (mt hhard.mpr hnH) (mt hlimit.mpr hnB)).trans (clearanceStop_eq _)⟩
    · have hnear : N = s.nearOn p := funext fun t => propext (hN t)
      have hgoes : s.acceptReport o d (.position p) = (s.positioned o p).clearanceStop :=
        positionHeard_goesOn (mt hhard.mpr hnH) (mt hlimit.mpr hnB)
      rw [hnear, hgoes]
      exact positioned_stop o p s
  case travel =>
    intro t ht hgoes
    have hep : (s.acceptReport o d .done).ep = (s.doneClosed o).ep := doneCloses_ep o s
    obtain ⟨hpos, hstream, -⟩ := s.doneClosed_travel ht
    rw [hep, hpos, hgoes]
    exact ⟨rfl, hstream⟩
  case travelStopped =>
    intro t ht hstopped
    have hep : (s.acceptReport o d .done).ep = (s.doneClosed o).ep := doneCloses_ep o s
    obtain ⟨hpos, hrest⟩ := s.doneClosed_travel ht
    rw [hep, hpos, hstopped]
    exact ⟨rfl, hrest⟩
  case cycle =>
    intro cy huser hcy hw
    refine ⟨fun t => doneCloses_travel_stopped huser hcy hw, fun t ht hgoes hstage => ?_, fun t ht hgoes hstage => ?_,
      fun q => doneCloses_slide huser hcy hw, doneCloses_clamp_drill huser hcy hw,
      fun h n g => doneCloses_clamp_set huser hcy hw, doneCloses_retract huser hcy hw, doneCloses_unclamp huser hcy hw⟩
    · refine (doneCloses_travel huser hcy hw ht hgoes).trans ?_
      rw [nextMove_first hstage]
    · exact doneCloses_travel_again huser hcy hw ht hgoes hstage
  case gaugeEntry =>
    intro v cy c e hcy hwork hend he
    have hvoid : cy.voided = false := by rw [Cycle.voided, hend]
    have hht := gaugeDone_ht (s := s.closeStream) hcy hwork v
    exact (congrArg (·[c.hole]?) hht).trans (gaugeWritten_entry (s := s.closeStream) hvoid he v)
  case gauge =>
    intro v cy c h hcy hwork hw hh
    obtain ⟨hfails, hpasses⟩ := gaugeDone_cycle (s := s.closeStream) hcy hwork hw hh v
    refine ⟨fun hout => hfails ?_, fun hhigh hlow => ?_⟩
    · rw [← Bool.not_eq_true, gaugePasses_iff]
      omega
    · obtain ⟨hserves, hnone⟩ := hpasses ((gaugePasses_iff h v).mpr ⟨hhigh, hlow⟩)
      exact ⟨fun n g => hserves (n, g), hnone⟩
  case squeeze =>
    intro p q cy n g hcy hgrip
    rw [acceptReport_squeeze hcy hgrip, squeezeEnds_cs]
    refine ⟨cy.retracting (judgeSqueeze n g p q), congrArg (Option.map _) hcy, rfl, fun hout => ?_, fun hp hmin hmax => ?_, rfl,
      squeezeEnds_own (s := s.closeStream) _, squeezeEnds_rests (s := s.closeStream) _ true⟩
    · exact congrArg some (judgeSqueeze_rejected hout n)
    · exact congrArg some (judgeSqueeze_set hp hmin hmax n)
  case squeezeFails =>
    intro kind cy p q hstream hcy hw hstage htask hthrough hstopping
    obtain ⟨t, heq, hfailed⟩ := portFails_squeezing hstream hcy hw hstage htask hthrough hstopping kind
    obtain ⟨hcycle, hlast⟩ := hfailed.faulted_cycle (.effectorFault kind)
    rw [heq]
    exact ⟨hcycle, hlast, hfailed.faulted_own (.effectorFault kind)⟩
  case pressureFails =>
    intro v t h hv hstart hlate
    rw [acceptReport_pressure_fails h hv hstart hlate o d]
    obtain ⟨hwaits, hfew, hmany⟩ := limitPasses_spec s.pressureClosed
    refine ⟨hwaits, fun x hx => limitPasses_source (s := s.pressureClosed) hx, fun hless => ?_, fun hmost hwork => hmany hmost hwork⟩
    rw [hfew hless]
    exact supplyFails_own s.pressureClosed

end Sys2Proof.Machine
end

section
/-! PROOFS. What the lines, the configuration and IDLE rest on, and what leaves it alone. -/

namespace Sys2Proof.Machine

open Sys2Proof (Byte Word Data Stamp Datum Side Instr)

/-- What `linesAgree`, `configuredWhole` and `idleIsOpen` look at. -/
structure Posture where
  work : WorkState
  finishedLine : Bool
  faultLine : Bool
  jigClosed : Bool
  holes : Nat
  setup : Option Setup
  plan : PlanStore

def State.posture (s : State) : Posture :=
  { work := s.ws.state, finishedLine := s.lines.finishedLine, faultLine := s.lines.faultLine, jigClosed := s.lines.jigClosed,
    holes := s.ht.length, setup := s.setup, plan := s.ps }

/-- The same after WS has taken a work state. -/
def Posture.inWork (w : WorkState) (p : Posture) : Posture :=
  { p with work := w, finishedLine := decide (w = .finished), faultLine := decide (w = .faulted) || decide (w = .halted) }

namespace State

/-- A record built over a state has its posture when the parts looked at are the state's; the queue says over which state. -/
@[simp] theorem posture_mk (s : State) (clock freeCount : Nat) (l : Lines) (ps : PlanStore) (c : Option Setup)
    (ht : List HoleEntry) (pu : PositionUnit) (lc : LinkController) (pt : PeerTable) (zc : ZoneController) (ws : WorkSelector)
    (cs : CycleSequencer) (ep : EffectorPort) (sa : StackAnalyser) (du : DrawUnit) (eu : EventUnit) (sp : ServicePort)
    (hfinished : l.finishedLine = s.lines.finishedLine) (hfault : l.faultLine = s.lines.faultLine)
    (hjig : l.jigClosed = s.lines.jigClosed) (hht : ht.length = s.ht.length) (hwork : ws.state = s.ws.state)
    (hsetup : c = s.setup) (hps : ps = s.ps) :
    State.posture ⟨s.pending, clock, freeCount, l, ps, c, ht, pu, lc, pt, zc, ws, cs, ep, sa, du, eu, sp⟩ = s.posture := by
  simp [State.posture, *]

theorem LinkStep.posture {s t : State} (h : LinkStep s t) : t.posture = s.posture := by
  have hlen : t.ht.length = s.ht.length := by simpa using congrArg List.length h.unowed_ht
  rw [State.posture, hlen, h.frame]
  rfl

theorem foldl_posture {α : Type} {f : State → α → State} (h : ∀ s x, (f s x).posture = s.posture) (l : List α) (s : State) :
    (l.foldl f s).posture = s.posture := by
  induction l generalizing s with
  | nil => rfl
  | cons a l ih => rw [List.foldl_cons, ih, h]

/-! ### Operations of the link and the zones -/

@[simp] theorem queueOwed_posture (h : Nat) (s : State) : (s.queueOwed h).posture = s.posture := (queueOwed_linkStep h s).posture

@[simp] theorem admitHeld_posture (s : State) : s.admitHeld.posture = s.posture := (admitHeld_linkStep s).posture

@[simp] theorem offerOwed_posture (s : State) : s.offerOwed.posture = s.posture := (offerOwed_linkStep s).posture

@[simp] theorem offer_posture (o : Owner) (b : Body) (s : State) : (s.offer o b).posture = s.posture :=
  (offer_linkStep o b s).posture

@[simp] theorem removeFrame_posture (id : Nat) (s : State) : (s.removeFrame id).posture = s.posture :=
  (removeFrame_linkStep id s).posture

@[simp] theorem replaceFrame_posture (id : Nat) (b : Body) (s : State) : (s.replaceFrame id b).posture = s.posture :=
  (replaceFrame_linkStep id b s).posture

@[simp] theorem voidInFlight_posture (p : Body → Bool) (s : State) : (s.voidInFlight p).posture = s.posture :=
  (voidInFlight_linkStep p s).posture

@[simp] theorem linkFrameStart_posture (s : State) : s.linkFrameStart.posture = s.posture := (linkFrameStart_linkStep s).posture

@[simp] theorem putZone_posture (side : Side) (z : ZoneRecord) (s : State) : (s.putZone side z).posture = s.posture :=
  (putZone_linkStep side z s).posture

@[simp] theorem onZone_posture (side : Side) (f : ZoneRecord → ZoneRecord) (s : State) : (s.onZone side f).posture = s.posture :=
  (onZone_linkStep side f s).posture

@[simp] theorem sendOutstanding_posture (side : Side) (o : Outstanding) (a : ZoneAction) (s : State) :
    (s.sendOutstanding side o a).posture = s.posture :=
  (sendOutstanding_linkStep side o a s).posture

@[simp] theorem dropOutstanding_posture (side : Side) (s : State) : (s.dropOutstanding side).posture = s.posture :=
  (dropOutstanding_linkStep side s).posture

@[simp] theorem zoneChange_posture (side : Side) (st : ZoneState) (s : State) : (s.zoneChange side st).posture = s.posture :=
  (zoneChange_linkStep side st s).posture

@[simp] theorem rebound_posture (side : Side) (s : State) : (s.rebound side).posture = s.posture :=
  (rebound_linkStep side s).posture

@[simp] theorem hearRelease_posture (side : Side) (s : State) : (s.hearRelease side).posture = s.posture :=
  (hearRelease_linkStep side s).posture

@[simp] theorem reconcileZone_posture (side : Side) (s : State) : (s.reconcileZone side).posture = s.posture :=
  (reconcileZone_linkStep side s).posture

@[simp] theorem resetZones_posture (s : State) : s.resetZones.posture = s.posture := (resetZones_linkStep s).posture

@[simp] theorem noZones_posture (s : State) : s.noZones.posture = s.posture := (noZones_linkStep s).posture

@[simp] theorem giveUpZone_posture (side : Side) (s : State) : (s.giveUpZone side).posture = s.posture :=
  (giveUpZone_linkStep side s).posture

@[simp] theorem outstandingBack_posture (f : TxFrame) (side : Side) (s : State) :
    (s.outstandingBack f side).posture = s.posture :=
  (outstandingBack_linkStep f side s).posture

@[simp] theorem holdZone_posture (side : Side) (stamp : Stamp) (s : State) : (s.holdZone side stamp).posture = s.posture :=
  (holdZone_linkStep side stamp s).posture

@[simp] theorem neighbourSilent_posture (side : Side) (s : State) : (s.neighbourSilent side).posture = s.posture :=
  (neighbourSilent_linkStep side s).posture

@[simp] theorem applyBlock_posture (side : Side) (s : State) : (s.applyBlock side).posture = s.posture :=
  (applyBlock_linkStep side s).posture

@[simp] theorem zoneTo_posture (side : Side) (st : ZoneState) (s : State) : (s.zoneTo side st).posture = s.posture :=
  (zoneTo_linkStep side st s).posture

@[simp] theorem seizeToRequest_posture (side : Side) (s : State) : (s.seizeToRequest side).posture = s.posture :=
  (seizeToRequest_linkStep side s).posture

/-! ### Operations that change one component -/

@[simp] theorem raise_posture (e : EventSource) (s : State) : (s.raise e).posture = s.posture := rfl

@[simp] theorem reach_posture (t : Nat) (s : State) : (s.reach t).posture = s.posture := rfl

@[simp] theorem setPeer_posture (j : Nat) (e : PeerEntry) (s : State) : (s.setPeer j e).posture = s.posture := rfl

@[simp] theorem offerDraw_posture (a : DrawAction) (amount hole : Nat) (s : State) :
    (s.offerDraw a amount hole).posture = s.posture :=
    offer_posture .du _ s

@[simp] theorem offerZone_posture (side : Side) (a : ZoneAction) (s : State) : (s.offerZone side a).posture = s.posture :=
    offer_posture .zc _ s

@[simp] theorem reconcern_posture (s : State) : s.reconcern.posture = s.posture := rfl

@[simp] theorem dropDatums_posture (s : State) : s.dropDatums.posture = s.posture := rfl

@[simp] theorem onIntent_posture (f : OwnIntent → OwnIntent) (s : State) : (s.onIntent f).posture = s.posture := rfl

@[simp] theorem setDraw_posture (j : Nat) (e : Option DrawEntry) (s : State) : (s.setDraw j e).posture = s.posture := rfl

@[simp] theorem askPressure_posture (s : State) : s.askPressure.posture = s.posture := rfl

@[simp] theorem countCycle_posture (s : State) : s.countCycle.posture = s.posture := rfl

@[simp] theorem setCycle_posture (cy : Cycle) (s : State) : (s.setCycle cy).posture = s.posture := rfl

@[simp] theorem onCycle_posture (f : Cycle → Cycle) (s : State) : (s.onCycle f).posture = s.posture := rfl

@[simp] theorem recordCause_posture (src : FaultSource) (s : State) : (s.recordCause src).posture = s.posture := rfl

@[simp] theorem closeStream_posture (s : State) : s.closeStream.posture = s.posture := rfl

@[simp] theorem raiseFlag_posture (w : Word) (s : State) : (s.raiseFlag w).posture = s.posture := rfl

@[simp] theorem travelCloses_posture (t : Nat) (st : OpenStream) (stopped : Bool) (s : State) :
    (s.travelCloses t st stopped).posture = s.posture :=
    rfl

@[simp] theorem resetDraw_posture (s : State) : s.resetDraw.posture = s.posture := rfl

@[simp] theorem presenceExpires_posture (s : State) : s.presenceExpires.posture = s.posture := rfl

@[simp] theorem presenceBack_posture (s : State) : s.presenceBack.posture = s.posture := rfl

@[simp] theorem attemptEndsFailed_posture (s : State) : s.attemptEndsFailed.posture = s.posture := rfl

@[simp] theorem linkClear_posture (s : State) : s.linkClear.posture = s.posture := rfl

@[simp] theorem linkHalt_posture (s : State) : s.linkHalt.posture = s.posture := rfl

@[simp] theorem linkStart_posture (s : State) : s.linkStart.posture = s.posture := rfl

@[simp] theorem clearThrough_posture (s : State) : s.clearThrough.posture = s.posture := rfl

@[simp] theorem relevel_posture (s : State) : s.relevel.posture = s.posture := rfl

@[simp] theorem clearEvents_posture (s : State) : s.clearEvents.posture = s.posture := rfl

@[simp] theorem takeStamp_posture (s : State) : s.takeStamp.posture = s.posture := rfl

/-! ### EU and HT -/

@[simp] theorem acknowledge_posture (s : State) : s.acknowledge.posture = s.posture := by unfold acknowledge; split <;> rfl

@[simp] theorem putEntry_posture (h : Nat) (e : HoleEntry) (s : State) : (s.putEntry h e).posture = s.posture := by
  unfold putEntry
  dsimp only
  repeat' split
  all_goals simp

@[simp] theorem applyToEntry_posture (h : Heard) (s : State) : (s.applyToEntry h).posture = s.posture := by
  unfold applyToEntry
  repeat' split
  all_goals simp

@[simp] theorem applyHeld_posture (h : Heard) (s : State) : (s.applyHeld h).posture = s.posture := by
  unfold applyHeld
  repeat' split
  all_goals simp

@[simp] theorem oweCorrection_posture (n : Nat) (s : State) : (s.oweCorrection n).posture = s.posture := by
  unfold oweCorrection
  repeat' split
  all_goals simp

@[simp] theorem reconcileClaims_posture (j : Nat) (claim : Option Claim) (s : State) :
    (s.reconcileClaims j claim).posture = s.posture := by
  unfold reconcileClaims
  split
  · rfl
  · refine foldl_posture (fun t n => ?_) _ s
    repeat' split
    all_goals simp

/-! ### LC -/

@[simp] theorem linkUnconfigured_posture (s : State) : s.linkUnconfigured.posture = s.posture := by simp [linkUnconfigured]

@[simp] theorem readBackWhole_posture (f : TxFrame) (s : State) :
    (s.readBackWhole f).posture = s.posture := by simp [readBackWhole]

@[simp] theorem transmit_posture (quiet : Nat) (s : State) : (s.transmit quiet).posture = s.posture := by
  unfold transmit quietFor
  dsimp only
  split_ifs <;> split <;> (try split) <;> rfl

/-! ### PU -/

@[simp] theorem setRecord_posture (d : Datum) (r : DatumRecord) (s : State) : (s.setRecord d r).posture = s.posture :=
  by cases d <;> rfl

@[simp] theorem computeCorrection_posture (s : State) : s.computeCorrection.posture = s.posture := by
  unfold computeCorrection
  dsimp only
  repeat' split
  all_goals simp

@[simp] theorem setProber_posture (st : ProberStatus) (t : Option Nat) (m : Option (Nat × Nat)) (s : State) :
    (s.setProber st t m).posture = s.posture :=
  by unfold setProber; split <;> rfl

@[simp] theorem proberDue_posture (s : State) : s.proberDue.posture = s.posture := by
  unfold proberDue
  repeat' split
  all_goals simp

@[simp] theorem probeFailed_posture (s : State) : s.probeFailed.posture = s.posture := by simp [probeFailed]

@[simp] theorem expireDatum_posture (d : Datum) (s : State) : (s.expireDatum d).posture = s.posture := by
  unfold expireDatum
  dsimp only
  split_ifs <;> simp

@[simp] theorem demand_posture (p : Presence) (s : State) : (s.demand p).posture = s.posture := by
  unfold demand
  dsimp only
  repeat' split
  all_goals simp

@[simp] theorem judgeDatum_posture (rail cross : Nat) (kind : SenseKind) (dx dy : Int) (s : State) :
    (s.judgeDatum rail cross kind dx dy).posture = s.posture := by
  unfold judgeDatum
  dsimp only
  repeat' split
  all_goals simp

@[simp] theorem applyDatum_posture (d : Datum) (r q source : Nat) (stamp : Stamp) (s : State) :
    (s.applyDatum d r q source stamp).posture = s.posture :=
  by simp [applyDatum]

@[simp] theorem datumBack_posture (d : Datum) (r q : Nat) (stamp : Stamp) (s : State) :
    (s.datumBack d r q stamp).posture = s.posture := by
  unfold datumBack
  dsimp only
  split_ifs <;> simp

@[simp] theorem proberReset_posture (s : State) : s.proberReset.posture = s.posture := by
  unfold proberReset
  repeat' split
  all_goals simp

@[simp] theorem retry_posture (s : State) : s.retry.posture = s.posture := by simp [retry]

@[simp] theorem removeDatums_posture (s : State) : s.removeDatums.posture = s.posture :=
    foldl_posture (fun t id => removeFrame_posture id t) _ s

/-! ### ZC -/

@[simp] theorem hearSeize_posture (side : Side) (s : State) : (s.hearSeize side).posture = s.posture := by
  unfold hearSeize
  dsimp only
  repeat' split
  all_goals simp

@[simp] theorem hearRequest_posture (side : Side) (s : State) : (s.hearRequest side).posture = s.posture := by
  unfold hearRequest
  repeat' split
  all_goals simp

@[simp] theorem seizeBack_posture (f : TxFrame) (side : Side) (stamp : Stamp) (s : State) :
    (s.seizeBack f side stamp).posture = s.posture := by
  unfold seizeBack
  dsimp only
  repeat' split
  all_goals simp

@[simp] theorem requestBack_posture (f : TxFrame) (side : Side) (s : State) : (s.requestBack f side).posture = s.posture := by
  unfold requestBack
  dsimp only
  repeat' split
  all_goals simp

@[simp] theorem releaseBack_posture (side : Side) (s : State) : (s.releaseBack side).posture = s.posture := by
  unfold releaseBack
  dsimp only
  repeat' split
  all_goals simp

@[simp] theorem yieldOver_posture (side : Side) (s : State) : (s.yieldOver side).posture = s.posture := by
  unfold yieldOver
  repeat' split
  all_goals simp

@[simp] theorem selfLapsed_posture (side : Side) (s : State) : (s.selfLapsed side).posture = s.posture := by
  unfold selfLapsed
  dsimp only
  repeat' split
  all_goals simp

@[simp] theorem considerRelease_posture (side : Side) (s : State) : (s.considerRelease side).posture = s.posture := by
  unfold considerRelease
  dsimp only
  repeat' split
  all_goals simp

@[simp] theorem carryRelease_posture (side : Side) (s : State) : (s.carryRelease side).posture = s.posture := by
  unfold carryRelease
  dsimp only
  repeat' split
  all_goals simp

@[simp] theorem retreatDone_posture (side : Side) (s : State) : (s.retreatDone side).posture = s.posture := by
  unfold retreatDone
  dsimp only
  repeat' split
  all_goals simp

@[simp] theorem withdrawRequest_posture (side : Side) (s : State) : (s.withdrawRequest side).posture = s.posture := by
  unfold withdrawRequest
  repeat' split
  all_goals simp

@[simp] theorem makeRequest_posture (side : Side) (s : State) : (s.makeRequest side).posture = s.posture := by
  unfold makeRequest
  dsimp only
  repeat' split
  all_goals simp

@[simp] theorem clearZones_posture (s : State) : s.clearZones.posture = s.posture := by
  unfold clearZones
  dsimp only
  repeat' split
  all_goals simp

@[simp] theorem evalConflict_posture (s : State) : s.evalConflict.posture = s.posture := by
  unfold evalConflict
  dsimp only
  repeat' split
  all_goals simp

@[simp] theorem giveUpZones_posture (s : State) : s.giveUpZones.posture = s.posture := by simp [giveUpZones]

@[simp] theorem stepZone_posture (side : Side) (s : State) : (s.stepZone side).posture = s.posture := by simp [stepZone]

@[simp] theorem stepZones_posture (s : State) : s.stepZones.posture = s.posture := by simp [stepZones]

@[simp] theorem stepRequests_posture (s : State) : s.stepRequests.posture = s.posture := by simp [stepRequests]

/-! ### DU -/

@[simp] theorem hearIntent_posture (j amount hole : Nat) (stamp : Stamp) (s : State) :
    (s.hearIntent j amount hole stamp).posture = s.posture := by
  unfold hearIntent
  repeat' split
  all_goals simp

@[simp] theorem queueIntent_posture (s : State) : s.queueIntent.posture = s.posture := by simp [queueIntent]

@[simp] theorem beginDraw_posture (hole amount : Nat) (s : State) : (s.beginDraw hole amount).posture = s.posture :=
  by simp [beginDraw]

@[simp] theorem renewIntent_posture (s : State) : s.renewIntent.posture = s.posture := by simp [renewIntent]

@[simp] theorem withdraw_posture (s : State) : s.withdraw.posture = s.posture := by simp [withdraw]

@[simp] theorem freshIntent_posture (s : State) : s.freshIntent.posture = s.posture := by
  unfold freshIntent
  dsimp only
  repeat' split
  all_goals simp

@[simp] theorem removal_posture (s : State) : s.removal.posture = s.posture := by
  unfold removal
  split <;> simp

@[simp] theorem emptyDraw_posture (j : Nat) (s : State) : (s.emptyDraw j).posture = s.posture := by
  unfold emptyDraw
  split <;> simp

@[simp] theorem decideDraw_posture (s : State) : s.decideDraw.posture = s.posture := by
  unfold decideDraw
  dsimp only
  repeat' split
  all_goals simp

@[simp] theorem supplyFails_posture (s : State) : s.supplyFails.posture = s.posture := by simp [supplyFails]

@[simp] theorem judgePressure_posture (v : Nat) (s : State) : (s.judgePressure v).1.posture = s.posture := by
  unfold judgePressure
  dsimp only
  repeat' split
  all_goals simp

@[simp] theorem intentBack_posture (f : TxFrame) (amount hole : Nat) (stamp : Stamp) (s : State) :
    (s.intentBack f amount hole stamp).posture = s.posture := by
  unfold intentBack
  dsimp only
  repeat' split
  all_goals simp

@[simp] theorem announceBack_posture (f : TxFrame) (s : State) : (s.announceBack f).posture = s.posture := by
  unfold announceBack
  repeat' split
  all_goals simp

@[simp] theorem squeezeClosed_posture (normally : Bool) (s : State) : (s.squeezeClosed normally).posture = s.posture := by
  unfold squeezeClosed
  dsimp only
  repeat' split
  all_goals simp

@[simp] theorem giveUpIntent_posture (s : State) : s.giveUpIntent.posture = s.posture := by
  unfold giveUpIntent
  dsimp only
  repeat' split
  all_goals simp

@[simp] theorem clearDraw_posture (s : State) : s.clearDraw.posture = s.posture := by
  unfold clearDraw
  dsimp only
  repeat' split
  all_goals simp

/-! ### CS -/

@[simp] theorem takeEnding_posture (cause : EndCause) (through : Bool) (s : State) :
    (s.takeEnding cause through).posture = s.posture := by
  unfold takeEnding
  dsimp only
  repeat' split
  all_goals simp

@[simp] theorem revertOwn_posture (h : Nat) (s : State) : (s.revertOwn h).posture = s.posture := by
  unfold revertOwn
  repeat' split
  all_goals simp

@[simp] theorem writeOutcome_posture (c : Claim) (o : CycleOutcome) (frame : Bool) (s : State) :
    (s.writeOutcome c o frame).posture = s.posture := by
  unfold writeOutcome
  dsimp only
  repeat' split
  all_goals simp

@[simp] theorem endCycle_posture (s : State) : s.endCycle.posture = s.posture := by
  unfold endCycle
  split
  · rfl
  · rename_i cy _
    have applied := foldl_posture (fun t h => applyToEntry_posture h t) cy.left
    dsimp only
    repeat' split
    all_goals simp [applied]

@[simp] theorem finishEnding_posture (cy : Cycle) (e : Ending) (s : State) : (s.finishEnding cy e).posture = s.posture := by
  unfold finishEnding
  dsimp only
  repeat' split
  all_goals simp

@[simp] theorem finishReporting_posture (cy : Cycle) (s : State) : (s.finishReporting cy).posture = s.posture := by
  unfold finishReporting
  repeat' split
  all_goals simp

@[simp] theorem haltCycle_posture (s : State) : s.haltCycle.posture = s.posture := by
  unfold haltCycle
  dsimp only
  repeat' split
  all_goals simp

@[simp] theorem commandDone_posture (c : Command) (stopped : Bool) (s : State) :
    (s.commandDone c stopped).posture = s.posture := by
  unfold commandDone beginDraw
  dsimp only
  repeat' split
  all_goals simp

@[simp] theorem chooseGrip_posture (stack : Nat) (cy : Cycle) (s : State) : (s.chooseGrip stack cy).posture = s.posture := by
  unfold chooseGrip
  repeat' split
  all_goals simp

@[simp] theorem proceedSet_posture (h : Nat) (cy : Cycle) (s : State) : (s.proceedSet h cy).posture = s.posture := by
  unfold proceedSet
  repeat' split
  all_goals simp

@[simp] theorem reposition_posture (kind : SenseKind) (dx dy : Int) (cy : Cycle) (s : State) :
    (s.reposition kind dx dy cy).posture = s.posture := by
  unfold reposition
  dsimp only
  repeat' split
  all_goals simp

@[simp] theorem judgeSense_posture (c : Claim) (kind : SenseKind) (dx dy : Int) (cy : Cycle) (s : State) :
    (s.judgeSense c kind dx dy cy).posture = s.posture := by
  unfold judgeSense
  dsimp only
  repeat' split
  all_goals simp

@[simp] theorem senseDone_posture (kind : SenseKind) (dx dy : Int) (s : State) :
    (s.senseDone kind dx dy).posture = s.posture := by
  unfold senseDone
  repeat' split
  all_goals simp

@[simp] theorem gaugeDone_posture (v : Nat) (s : State) : (s.gaugeDone v).posture = s.posture := by
  unfold gaugeDone
  dsimp only
  repeat' split
  all_goals simp

@[simp] theorem drillDone_posture (s : State) : s.drillDone.posture = s.posture := by
  unfold drillDone
  dsimp only
  repeat' split
  all_goals simp

@[simp] theorem thrustSample_posture (v : Nat) (s : State) : (s.thrustSample v).posture = s.posture := by
  unfold thrustSample
  dsimp only
  repeat' split
  all_goals simp

@[simp] theorem squeezeEnds_posture (o : CycleOutcome) (normally : Bool) (s : State) :
    (s.squeezeEnds o normally).posture = s.posture :=
  by simp [squeezeEnds]

@[simp] theorem squeezeDone_posture (peak stroke : Nat) (s : State) : (s.squeezeDone peak stroke).posture = s.posture := by
  unfold squeezeDone
  repeat' split
  all_goals simp

@[simp] theorem cycleFails_posture (placed : List Command) (s : State) : (s.cycleFails placed).posture = s.posture := by
  unfold cycleFails
  dsimp only
  repeat' split
  all_goals simp

/-! ### EP -/

@[simp] theorem placeHalt_posture (s : State) : s.placeHalt.posture = s.posture := rfl

@[simp] theorem lowerFlag_posture (s : State) : s.lowerFlag.posture = s.posture := by unfold lowerFlag; split <;> rfl

@[simp] theorem closeFailed_posture (s : State) : s.closeFailed.posture = s.posture := by simp [closeFailed]

@[simp] theorem haltPort_posture (s : State) : s.haltPort.posture = s.posture :=
  by obtain ⟨ep, h, -, -⟩ := haltPort_frame s; rw [h]; rfl

@[simp] theorem commandTaken_posture (c : Command) (u : PortUser) (s : State) : (s.commandTaken c u).posture = s.posture := by
  unfold commandTaken
  repeat' split
  all_goals simp

@[simp] theorem resumeRises_posture (s : State) : s.resumeRises.posture = s.posture := by
  unfold resumeRises
  dsimp only
  repeat' split
  all_goals simp

@[simp] theorem resumeFalls_posture (s : State) : s.resumeFalls.posture = s.posture := by
  unfold resumeFalls
  dsimp only
  repeat' split
  all_goals simp [placeHalt]

@[simp] theorem loneFails_posture (s : State) : s.loneFails.posture = s.posture := by
  unfold loneFails
  repeat' split
  all_goals simp

@[simp] theorem loneDone_posture (stopped : Bool) (s : State) : (s.loneDone stopped).posture = s.posture := by
  unfold loneDone
  repeat' split
  all_goals simp

@[simp] theorem doneCloses_posture (st : OpenStream) (s : State) : (s.doneCloses st).posture = s.posture := by
  unfold doneCloses
  dsimp only
  repeat' split
  all_goals simp

@[simp] theorem clearanceStop_posture (s : State) : s.clearanceStop.posture = s.posture := by rw [clearanceStop_eq]; rfl

/-! ### WS -/

@[simp] theorem dropSelection_posture (s : State) : s.dropSelection.posture = s.posture := by
  unfold dropSelection
  repeat' split
  all_goals simp

@[simp] theorem endLone_posture (how : LoneEnd) (s : State) : (s.endLone how).posture = s.posture := by
  unfold endLone
  repeat' split
  all_goals simp

@[simp] theorem forgetPeers_posture (s : State) : s.forgetPeers.posture = s.posture := by simp [forgetPeers]

@[simp] theorem stepSelection_posture (s : State) : s.stepSelection.posture = s.posture := by
  unfold stepSelection
  repeat' split
  all_goals simp

@[simp] theorem offerClaim_posture (ch : Choice) (s : State) : (s.offerClaim ch).posture = s.posture := by
  unfold offerClaim
  dsimp only
  repeat' split
  all_goals simp

/-! ### Frames -/

@[simp] theorem settleConflict_posture (h : Heard) (n : Nat) (s : State) : (s.settleConflict h n).posture = s.posture := by
  unfold settleConflict
  repeat' split
  all_goals simp

@[simp] theorem hearHole_posture (h : Heard) (s : State) : (s.hearHole h).posture = s.posture := by
  unfold hearHole
  repeat' split
  all_goals simp

@[simp] theorem planMismatch_posture (j : Nat) (p : Presence) (s : State) : (s.planMismatch j p).posture = s.posture := by
  unfold planMismatch
  dsimp only
  repeat' split
  all_goals simp

@[simp] theorem dispatchKind_posture (j : Nat) (b : Body) (stamp : Stamp) (s : State) :
    (s.dispatchKind j b stamp).posture = s.posture := by
  unfold dispatchKind
  repeat' split
  all_goals simp

@[simp] theorem closeClaim_posture (f : TxFrame) (s : State) : (s.closeClaim f).posture = s.posture := by
  unfold closeClaim
  repeat' split
  all_goals simp

@[simp] theorem confirmClaim_posture (sel : Selection) (c : Claim) (e : HoleEntry) (stamp : Stamp) (s : State) :
    (s.confirmClaim sel c e stamp).posture = s.posture := by
  unfold confirmClaim
  dsimp only
  repeat' split
  all_goals simp

@[simp] theorem claimBack_posture (f : TxFrame) (c : Claim) (stamp : Stamp) (s : State) :
    (s.claimBack f c stamp).posture = s.posture := by
  unfold claimBack
  dsimp only
  repeat' split
  all_goals simp

@[simp] theorem ownerBack_posture (f : TxFrame) (s : State) : (s.ownerBack f).posture = s.posture := by
  unfold ownerBack
  repeat' split
  all_goals simp

@[simp] theorem readBack_posture (named : Body → Bool) (s : State) : (s.readBack named).posture = s.posture := by
  unfold readBack
  repeat' split
  all_goals simp

@[simp] theorem retryWithdrawal_posture (s : State) : s.retryWithdrawal.posture = s.posture := by
  unfold retryWithdrawal
  repeat' split
  all_goals simp

@[simp] theorem silence_posture (j : Nat) (s : State) : (s.silence j).posture = s.posture := by
  unfold silence
  dsimp only
  repeat' split
  all_goals simp

@[simp] theorem lose_posture (j : Nat) (s : State) : (s.lose j).posture = s.posture := by
  unfold lose
  dsimp only
  repeat' split
  all_goals simp

@[simp] theorem loseAfterSilence_posture (j : Nat) (s : State) : (s.loseAfterSilence j).posture = s.posture := by
  unfold loseAfterSilence
  repeat' split
  all_goals simp

/-! ### Selection -/

@[simp] theorem takeDatum_posture (t : Int × Int) (z : Option Side) (s : State) : (s.takeDatum t z).posture = s.posture := by
  unfold takeDatum
  split <;> simp

theorem askSeize_posture {side : Side} {x : Selection} {s t : State} (h
    : s.askSeize side x = some t) : t.posture = s.posture := by
  unfold askSeize at h
  split at h
  · obtain rfl := Option.some.inj h
    simp
  · obtain rfl := Option.some.inj h
    simp
  · cases h

@[simp] theorem takeChoice_posture (ch : Choice) (s : State) : (s.takeChoice ch).1.posture = s.posture := by
  unfold takeChoice
  split
  · exact offerClaim_posture ch s
  · split
    · exact offerClaim_posture ch s
    · split
      · exact askSeize_posture ‹_›
      · rfl

@[simp] theorem choose_posture (refused : List Side) (s : State) : (s.choose refused).1.posture = s.posture := by
  unfold choose
  split
  · split
    · exact takeDatum_posture _ _ s
    · split
      · exact takeDatum_posture _ _ s
      · split
        · exact askSeize_posture ‹_›
        · rfl
  · repeat' split
    all_goals simp

theorem select_posture (n : Nat) (refused : List Side) (s : State) : (select n refused s).posture = s.posture := by
  induction n generalizing refused s with
  | zero => rfl
  | succ n ih =>
    have chosen := choose_posture refused s
    unfold select
    split
    · rename_i t h
      rw [h] at chosen
      exact chosen
    · rename_i t side h
      rw [h] at chosen
      exact (ih _ t).trans chosen

@[simp] theorem stepSelect_posture (s : State) : s.stepSelect.posture = s.posture := by
  unfold stepSelect
  split
  · exact select_posture 3 [] s
  · rfl

end State

end Sys2Proof.Machine
end

section
/-! PROOFS. The lines, the configuration and IDLE through every change of the work state. -/

namespace Sys2Proof.Machine

open Sys2Proof (Byte Word Data Stamp Datum Side Instr)

namespace State

/-- What is true of a state in the three invariants stays true of another. -/
structure Stands (s t : State) : Prop where
  lines : s.linesAgree → t.linesAgree
  idle : s.idleIsOpen → t.idleIsOpen
  whole : s.configuredWhole → t.configuredWhole

namespace Stands

theorem refl (s : State) : Stands s s := ⟨id, id, id⟩

theorem trans {s t u : State} (h : Stands s t) (h' : Stands t u) : Stands s u :=
  ⟨h'.lines ∘ h.lines, h'.idle ∘ h.idle, h'.whole ∘ h.whole⟩

/-- The three invariants look at nothing but the posture. -/
theorem kept {s t : State} (h : t.posture = s.posture) : Stands s t := by
  simp only [posture, Posture.mk.injEq] at h
  obtain ⟨hwork, hfinished, hfault, hjig, hholes, hsetup, hps⟩ := h
  constructor
  · simp [linesAgree, *]
  · simp [idleIsOpen, *]
  · simp [configuredWhole, *]

theorem repeated {f : State → State} (h : ∀ s, Stands s (f s)) (n : Nat) (s : State) : Stands s (repeatState f n s) := by
  induction n generalizing s with
  | zero => exact refl s
  | succ n ih => exact (h s).trans (ih _)

theorem foldl {α : Type} {f : State → α → State} (h : ∀ s a, Stands s (f s a)) (l : List α) (s : State) :
    Stands s (l.foldl f s) := by
  induction l generalizing s with
  | nil => exact refl s
  | cons a l ih => exact (h s a).trans (ih _)

end Stands

theorem state_of_posture {s t : State} (h : t.posture = s.posture) : t.ws.state = s.ws.state := congrArg Posture.work h

theorem jigClosed_of_posture {s t : State} (h : t.posture = s.posture) : t.lines.jigClosed = s.lines.jigClosed :=
  congrArg Posture.jigClosed h

/-! ### Changes of the work state -/

@[simp] theorem setWork_posture (w : WorkState) (s : State) : (s.setWork w).posture = s.posture.inWork w := rfl

/-- Out of UNCONFIGURED a station may pass into any state, into IDLE with the jig open. -/
theorem Stands.passage {s t : State} (w : WorkState)
    (hs : s.ws.state ≠ .unconfigured) (hidle : w = .idle → s.lines.jigClosed = false)
    (h : t.posture = s.posture.inWork w) : Stands s t := by
  have passed : Stands s (s.setWork w) :=
    ⟨fun _ => by cases w <;> simp [linesAgree, setWork], fun _ => hidle, fun h => ⟨fun _ => h.1 hs, h.2⟩⟩
  exact passed.trans (.kept h)

theorem enterFaulted_stands (src : FaultSource) (s : State) : Stands s (s.enterFaulted src) := by
  unfold enterFaulted
  split
  case h_5 | h_6 | h_7 => exact .refl s
  all_goals exact .passage .faulted (by simp [*]) nofun (by simp)

theorem enterHalted_stands (src : FaultSource) (s : State) : Stands s (s.enterHalted src) := by
  unfold enterHalted
  split
  case h_1 | h_2 => exact .refl s
  all_goals
    refine .passage .halted (by simp [*]) nofun ?_
    dsimp only
    split <;> simp

theorem clearanceHalt_stands (c : HaltCheck) (s : State) : Stands s (s.clearanceHalt c) :=
  .trans (.kept (by simp)) (enterHalted_stands _ _)

theorem raiseFault_stands (e : EventSource) (src : FaultSource) (s : State) : Stands s (s.raiseFault e src) :=
  .trans (.kept (by simp)) (enterFaulted_stands _ _)
theorem supplyFaulted_stands (s : State) : Stands s s.supplyFaulted := by
  unfold supplyFaulted
  split
  · exact enterFaulted_stands _ s
  · exact .refl s

/-! ### Jig, landing, station clear and configuration (R86 to R92, R174) -/

theorem frameCycleStart_posture (s : State) :
    s.frameCycleStart.posture = { s.posture.inWork .waiting with holes := s.ps.freshTable.length } := by
  calc s.frameCycleStart.posture = State.posture { s.setWork .waiting with ht := s.ps.freshTable } := by
        simp [State.frameCycleStart]
    _ = _ := rfl

/-- A frame cycle start of a configured station leaves it WAITING with the plan's table. -/
theorem Stands.frameCycleStart {s t : State} (h : s.configuredWhole → t.setup.isSome = true ∧ t.ps.status = .valid) :
    Stands s t.frameCycleStart := by
  have started := t.frameCycleStart_posture
  simp only [posture, Posture.inWork, PlanStore.freshTable, List.length_replicate, Posture.mk.injEq] at started
  obtain ⟨hwork, hfinished, hfault, -, hholes, hsetup, hps⟩ := started
  constructor
  · simp [linesAgree, hwork, hfinished, hfault]
  · simp [idleIsOpen, hwork]
  · intro hs
    simp [configuredWhole, hholes, hsetup, hps, h hs]

@[simp] theorem toIdle_posture (s : State) : s.toIdle.posture = s.posture.inWork .idle := rfl

theorem jigCloses_stands (s : State) : Stands s s.jigCloses := by
  unfold jigCloses
  dsimp only
  split
  · rename_i hidle
    exact .frameCycleStart fun hs => hs.1 (hidle.trans_ne nofun)
  · rename_i hidle
    exact ⟨id, fun _ h => absurd h hidle, id⟩

theorem jigOpens_stands (s : State) : Stands s s.jigOpens := by
  have opened : Stands s { s with lines.jigClosed := false } := ⟨id, fun _ _ => rfl, id⟩
  refine opened.trans ?_
  unfold jigOpens
  dsimp only
  split
  case h_4 => exact .kept rfl
  case h_5 | h_6 | h_7 => exact .refl _
  all_goals
    refine .passage .idle (by simp [*]) (fun _ => rfl) ?_
    split <;> simp

theorem land_stands {s : State} (hs : s.ws.state ≠ .unconfigured) : Stands s s.land := by
  unfold land
  split
  · rename_i hjig
    exact .passage .idle hs (fun _ => by simpa using hjig) (by simp)
  · split
    · exact .frameCycleStart fun h => h.1 hs
    · exact .passage .waiting hs nofun (by simp)

theorem stationClear_stands (s : State) : Stands s s.stationClear := by
  unfold stationClear
  split
  · rename_i honline
    refine .trans (.kept (by simp)) (land_stands ?_)
    rw [state_of_posture (s := s) (by simp)]
    intro h
    simp [h, WorkState.online] at honline
  · exact .refl s

/-- In UNCONFIGURED nothing is asked of setup and plan, and no hole entry may stand without a VALID plan. -/
theorem enterUnconfigured_stands {s t : State} (h : t.ps.status ≠ .valid) : Stands s t.enterUnconfigured := by
  have entered : t.enterUnconfigured.posture = { t.posture.inWork .unconfigured with holes := 0 } :=
    calc t.enterUnconfigured.posture
        = { (setProber .due none none t.linkUnconfigured.dropDatums).noZones.resetDraw.posture.inWork .unconfigured with
            holes := 0 } := by
          rw [enterUnconfigured, setWork_posture, forgetPeers_posture]
          rfl
      _ = _ := by simp
  simp only [posture, Posture.inWork, Posture.mk.injEq] at entered
  obtain ⟨hwork, hfinished, hfault, -, hholes, -, hps⟩ := entered
  constructor
  · simp [linesAgree, hwork, hfinished, hfault]
  · simp [idleIsOpen, hwork]
  · simp [configuredWhole, hwork, hholes, hps, h]

theorem configured_stands (s : State) : Stands s s.configured := by
  unfold configured
  split
  · rename_i h
    simp only [Bool.and_eq_true, decide_eq_true_eq] at h
    obtain ⟨⟨-, hsetup⟩, hvalid⟩ := h
    unfold passToIdle
    dsimp only
    split
    · exact .frameCycleStart fun _ => ⟨hsetup, hvalid⟩
    · rename_i hjig
      constructor
      · simp [linesAgree, toIdle, linkStart, setWork]
      · intro _ _
        exact Bool.eq_false_of_not_eq_true hjig
      · exact fun h => ⟨fun _ => ⟨hsetup, hvalid⟩, h.2⟩
  · exact .refl s

/-! ### EP (6.1, 6.2) -/

theorem effectorFault_stands (kind : FailKind) (deadly : Bool) (s : State) : Stands s (s.effectorFault kind deadly) := by
  unfold effectorFault
  dsimp only
  refine .trans (.kept (raise_posture .effectorFault s)) ?_
  split
  · exact enterHalted_stands _ _
  · exact enterFaulted_stands _ _

theorem portFails_stands (kind : FailKind) (extra : Option Command) (s : State) : Stands s (s.portFails kind extra) := by
  unfold portFails
  dsimp only
  refine .trans (.kept ?_) (effectorFault_stands kind _ _)
  split <;> simp

theorem placeCommand_stands (c : Command) (u : PortUser) (s : State) : Stands s (s.placeCommand c u) := by
  unfold placeCommand
  split
  · exact .kept (by simp)
  · exact portFails_stands _ _ s

theorem responseLate_stands (s : State) : Stands s s.responseLate := by
  unfold responseLate
  split
  · exact .refl s
  · dsimp only
    split
    · exact .kept (by simp)
    · split
      · exact .kept (by simp)
      · exact .trans (.kept (by simp)) (portFails_stands _ _ _)

theorem completionLate_stands (s : State) : Stands s s.completionLate := by
  unfold completionLate
  split
  · exact .trans (.kept (by simp)) (portFails_stands _ _ _)
  · exact .refl s

theorem readyFalls_stands (width : Nat) (s : State) : Stands s (s.readyFalls width) := by
  unfold readyFalls
  dsimp only
  split
  · exact .trans (.kept (by simp)) (portFails_stands _ _ _)
  · exact .kept (by simp)

theorem clearanceChecks_stands (s : State) : Stands s s.clearanceChecks := by
  unfold clearanceChecks
  split
  · exact clearanceHalt_stands _ s
  · exact .kept (by simp)

theorem positionHeard_stands (st : OpenStream) (p : Nat) (s : State) : Stands s (s.positionHeard st p) := by
  unfold positionHeard
  dsimp only
  generalize hu : clearanceChecks _ = u
  have checked : Stands s u := by
    rw [← hu]
    exact .trans (.kept (by simp)) (clearanceChecks_stands _)
  split
  · exact checked.trans (clearanceHalt_stands _ u)
  · exact checked

theorem acceptReport_stands (st : OpenStream) (d : Data) (w : Accepted) (s : State) : Stands s (s.acceptReport st d w) := by
  cases w with
  | part => exact .kept rfl
  | done => exact .kept (doneCloses_posture st s)
  | position p => exact positionHeard_stands st p s
  | sample v => exact .kept (thrustSample_posture v s)
  | trailing => exact .kept (drillDone_posture _)
  | sense kind dx dy => exact .kept (senseDone_posture kind dx dy _)
  | gauge v => exact .kept (gaugeDone_posture v _)
  | squeeze peak stroke => exact .kept (squeezeDone_posture peak stroke _)
  | pressure v =>
    have judged : Stands s (s.closeStream.pressureDone v).1 := .kept (judgePressure_posture v _)
    unfold acceptReport
    dsimp only
    split
    · exact judged.trans (supplyFaulted_stands _)
    · exact judged

theorem judgeWord_stands (tag : Nat) (d : Data) (mark : Bool) (s : State) : Stands s (s.judgeWord tag d mark) := by
  unfold judgeWord
  split
  · exact .refl s
  · split
    · split
      · exact .refl s
      · exact portFails_stands _ _ s
    · split
      · exact portFails_stands _ _ s
      · split
        · exact portFails_stands _ _ s
        · split
          · exact acceptReport_stands _ d _ s
          · exact portFails_stands _ _ s

theorem takeWord_stands (tag : Nat) (d : Data) (mark : Bool) (s : State) : Stands s (s.takeWord tag d mark) :=
  .trans (.kept (by simp)) (judgeWord_stands tag d mark _)

/-! ### Placing what CS has asked for -/

theorem placeForCycle_stands (c : Command) (f : Cycle → Cycle) (s : State) : Stands s (s.placeForCycle c f) :=
  .trans (.kept (by simp)) (placeCommand_stands c _ _)

theorem tryTravel_stands (p : Nat) (asked : Bool) (s : State) : Stands s (s.tryTravel p asked) := by
  unfold tryTravel
  dsimp only
  split_ifs
  · exact .refl s
  · exact .refl s
  · exact .kept (by simp)
  · exact placeForCycle_stands _ _ s
  · exact .kept (by simp)

theorem tryDrill_stands (s : State) : Stands s s.tryDrill := by
  unfold tryDrill
  split
  · split
    · exact .refl s
    · split
      · exact .refl s
      · exact .trans (.kept (by simp)) (placeForCycle_stands _ _ _)
  · exact .refl s

theorem trySqueeze_stands (cy : Cycle) (s : State) : Stands s (s.trySqueeze cy) := by
  unfold trySqueeze
  split
  · dsimp only
    split
    · split
      · exact .kept (by simp)
      · split
        · exact .trans (.kept (by simp)) (placeForCycle_stands _ _ _)
        · exact portFails_stands _ _ s
    · exact .refl s
  · exact .refl s

theorem tryPoll_stands (s : State) : Stands s s.tryPoll := by
  unfold tryPoll
  split
  · exact .trans (.kept (by simp)) (placeForCycle_stands _ _ _)
  · exact .refl s

theorem tryTask_stands (c : Command) (asked : Bool) (s : State) : Stands s (s.tryTask c asked) := by
  unfold tryTask
  split
  · exact .refl s
  · split
    · exact tryTravel_stands _ asked s
    · exact tryDrill_stands s
    · exact placeForCycle_stands _ _ s
    · split
      · exact placeForCycle_stands _ _ s
      · exact .refl s
    · exact .refl s
    · exact placeForCycle_stands _ _ s

theorem carryCycle_stands (cy : Cycle) (s : State) : Stands s (s.carryCycle cy) := by
  unfold carryCycle
  split
  · exact tryTask_stands _ _ s
  · exact .refl s
  · split
    · exact (tryPoll_stands s).trans (trySqueeze_stands cy _)
    · exact .kept (by simp)
    · exact .refl s

theorem placeInterject_stands (s : State) : Stands s s.placeInterject := by
  unfold placeInterject
  split
  · exact .refl s
  · dsimp only
    split
    · exact .refl s
    · split
      all_goals
        split
        · split
          · exact .trans (.kept (by simp)) (placeCommand_stands _ _ _)
          · exact .refl s
        · exact .kept (by simp)

theorem windCycle_stands (cy : Cycle) (e : Ending) (s : State) : Stands s (s.windCycle cy e) := by
  have placed : ∀ (cy' : Cycle) (c : Command), Stands s ((s.setCycle cy').placeCommand c .cycle) := fun cy' c =>
    .trans (.kept (setCycle_posture cy' s)) (placeCommand_stands c _ _)
  unfold windCycle
  dsimp only
  split
  · split
    · exact .kept (by simp)
    · exact .refl s
  · split
    · split
      · exact .refl s
      · split
        all_goals
          split
          · split
            · exact placed _ _
            · exact .refl s
          · exact .kept (by simp)
    · split
      · exact placed _ _
      · exact .refl s

theorem stepCycle_stands (s : State) : Stands s s.stepCycle := by
  unfold stepCycle
  split
  · exact .refl s
  · split
    · split
      · exact carryCycle_stands _ s
      · exact windCycle_stands _ _ s
    · exact carryCycle_stands _ s

theorem stepLone_stands (s : State) : Stands s s.stepLone := by
  unfold stepLone
  split
  · exact .refl s
  · split_ifs
    · exact .refl s
    · exact placeCommand_stands _ _ s
    · exact .refl s
    · exact .kept (by simp)
    · exact .refl s
    · exact .kept (by simp)
    · exact .trans (.kept (by simp)) (placeCommand_stands _ _ _)
    · exact .refl s

theorem stepPark_stands (s : State) : Stands s s.stepPark := by
  unfold stepPark
  dsimp only
  split
  · exact .trans (.kept (by simp)) (placeCommand_stands _ _ _)
  · exact .refl s

/-! ### The work state (R90, R91, R105, R106) -/

theorem toWorking_stands {s : State} (hs : s.ws.state ≠ .unconfigured) : Stands s s.toWorking := by
  unfold toWorking
  dsimp only
  refine .passage .working hs nofun ?_
  split <;> rfl

theorem stepConditions_stands (s : State) : Stands s s.stepConditions := by
  unfold stepConditions
  split
  · split
    · exact toWorking_stands (by simp [*])
    · exact .refl s
  · split
    · exact .passage .waiting (by simp [*]) nofun (by simp)
    · exact .refl s
  · split
    · exact .passage .waiting (by simp [*]) nofun (by simp)
    · exact .refl s
  all_goals exact .refl s

theorem stepFinish_stands (s : State) : Stands s s.stepFinish := by
  unfold stepFinish
  split
  · split
    · unfold toFinished
      dsimp only
      refine .passage .finished (by simp [*]) nofun ?_
      split <;> rfl
    · exact .refl s
  · split
    · exact toWorking_stands (by simp [*])
    · exact .refl s
  all_goals exact .refl s

theorem settleOnce_stands (s : State) : Stands s s.settleOnce := by
  unfold settleOnce
  split
  · dsimp only
    generalize hu : stepPark _ = u
    have passed : Stands s u := by
      rw [← hu]
      refine .trans ?_ (stepPark_stands _)
      refine .trans ?_ (.kept ((stepSelect_posture _).trans (stepRequests_posture _)))
      refine .trans ?_ (stepFinish_stands _)
      refine .trans ?_ (.kept (stepZones_posture _))
      refine .trans ?_ (stepConditions_stands _)
      refine .trans ?_ (.kept (stepSelection_posture _))
      exact (placeInterject_stands s).trans ((stepCycle_stands _).trans (stepLone_stands _))
    split
    · exact passed.trans (.kept (by simp))
    · exact passed
  · exact .refl s

theorem settle_stands (s : State) : Stands s s.settle := .repeated settleOnce_stands 8 s

/-! ### The link (3.7, 3.8, 5.5) -/

theorem hearPresence_stands (j : Nat) (p : Presence) (s : State) : Stands s (s.hearPresence j p) := by
  unfold hearPresence
  extract_lets passes mismatch peer demanded fresh bounded conflicted checked zoned
  have hbounded : Stands s bounded := by
    refine .kept ?_
    simp only [bounded, demanded, peer, mismatch]
    split <;> simp
  have hchecked : Stands bounded checked := by
    refine .trans (.kept (evalConflict_posture bounded)) ?_
    show Stands conflicted (match conflicted.cfg.sideOf j with
      | some _ => conflicted.clearanceChecks
      | none => conflicted)
    split
    · exact clearanceChecks_stands conflicted
    · exact .refl conflicted
  have hzoned : zoned.posture = checked.posture := by
    simp only [zoned]
    split
    · split <;> simp
    · rfl
  have heard := hbounded.trans hchecked
  split
  · exact heard
  · split
    · exact heard.trans (.kept ((reconcileClaims_posture j p.claim zoned).trans hzoned))
    · exact heard.trans (.kept hzoned)

theorem dispatch_stands (j : Nat) (b : Body) (s : State) : Stands s (s.dispatch j b) := by
  unfold dispatch
  split
  · exact hearPresence_stands j _ s
  · split
    · exact .kept (by simp)
    · exact .refl s

theorem receive_stands (bytes : List Byte) (s : State) : Stands s (s.receive bytes) := by
  unfold receive
  split
  · exact .refl s
  · split_ifs
    · exact .refl s
    · exact .trans (.kept (by simp)) (raiseFault_stands _ _ _)
    · split
      · exact .refl s
      · exact dispatch_stands _ _ s

theorem hearFrame_stands (bytes : List Byte) (s : State) : Stands s (s.hearFrame bytes) := by
  unfold hearFrame
  dsimp only
  split_ifs
  · exact .kept (by simp)
  · exact .trans (.kept (by simp)) (receive_stands bytes _)
  · exact .kept (by simp)

theorem failAttempt_stands (s : State) : Stands s s.failAttempt := by
  unfold failAttempt
  split
  · exact .refl s
  · dsimp only
    split
    · exact .trans (.kept (by simp)) (raiseFault_stands _ _ _)
    · exact .kept (by simp)

/-! ### Timers -/

theorem limitPasses_stands (s : State) : Stands s s.limitPasses := .trans (.kept (supplyFails_posture s)) (supplyFaulted_stands _)

theorem expire_stands {effect : State → State} (h : ∀ s, Stands s (effect s)) (due : Option Nat) (s : State) :
    Stands s (s.expire due effect) := by
  unfold expire
  split
  · exact .refl s
  · exact .trans (.kept (reach_posture _ s)) (h _)

end State

end Sys2Proof.Machine
end

section
/-! PROOFS. The lines, the configuration and IDLE through every step (O8, O11, O12). -/

namespace Sys2Proof.Machine

open Sys2Proof (Byte Word Data Stamp Datum Side Instr)

namespace State

/-! ### The service port (ch. 10) -/

@[simp] theorem expireIfOld_posture (d : Datum) (s : State) : (s.expireIfOld d).posture = s.posture := by
  unfold expireIfOld
  repeat' split
  all_goals simp

@[simp] theorem setupAtPosition_posture (old : Option DatumRole) (s : State) : (s.setupAtPosition old).posture = s.posture := by
  unfold setupAtPosition
  dsimp only
  split <;> simp

theorem applySetup_stands (c : Setup) (s : State) : Stands s (s.applySetup c) := by
  have written : Stands s { s with setup := some c } := ⟨id, id, fun h => ⟨fun hs => ⟨rfl, (h.1 hs).2⟩, h.2⟩⟩
  unfold applySetup
  dsimp only
  refine .trans (.trans written (.kept ?_)) (configured_stands _)
  simp

theorem accept_stands {s t : State} (h : Stands s t) : Stands s t.accept.state := h.trans (settle_stands t)

theorem serveHeader_stands (h : PlanHeader) (s : State) : Stands s (s.serveHeader h).state := by
  unfold serveHeader
  split
  · exact .refl s
  · split
    · exact .refl s
    · refine accept_stands ?_
      have loading : (PlanStore.withHeader h).status ≠ .valid := nofun
      split
      · exact enterUnconfigured_stands loading
      · rename_i hstatus
        refine ⟨id, id, fun hs => ⟨fun hwork => absurd (hs.1 hwork).2 hstatus, ?_⟩⟩
        have empty := hs.2
        rw [if_neg hstatus] at empty
        exact empty.trans (if_neg loading).symm

theorem not_valid_of_loadingOpen {s : State} (h : s.loadingOpen = true) : s.ps.status ≠ .valid := by
  simp only [loadingOpen, Bool.and_eq_true, decide_eq_true_eq] at h
  simp [h.1]

/-- While the plan is LOADING a record of it changes nothing that the invariants look at. -/
theorem loaded_stands {s : State} {p : PlanStore} (h : s.loadingOpen = true) (hp : p.status = s.ps.status) :
    Stands s { s with ps := p } := by
  have invalid := not_valid_of_loadingOpen h
  refine ⟨id, id, fun hs => ⟨fun hwork => absurd (hs.1 hwork).2 invalid, ?_⟩⟩
  have empty := hs.2
  rw [if_neg invalid] at empty
  exact empty.trans (if_neg (hp.trans_ne invalid)).symm

/-- A plan becomes VALID while the station is UNCONFIGURED still, and its table with it. -/
theorem serveCommit_stands (s : State) : Stands s s.serveCommit.state := by
  unfold serveCommit
  split
  · exact .refl s
  · rename_i hopen
    split
    · exact .refl s
    · have invalid := not_valid_of_loadingOpen (by simpa using hopen)
      refine accept_stands (.trans ?_ (configured_stands _))
      refine ⟨id, id, fun hs => ⟨fun hwork => absurd (hs.1 hwork).2 invalid, ?_⟩⟩
      exact (List.length_replicate ..).trans (if_pos rfl).symm

theorem serveRework_stands (n : Nat) (target : ReworkTarget) (s : State) : Stands s (s.serveRework n target).state := by
  unfold serveRework
  split
  · exact .refl s
  · split
    · exact .refl s
    · split_ifs
      · exact .refl s
      · exact .refl s
      · refine accept_stands (.kept ?_)
        simp [rework]
      · exact .refl s

theorem serveErrorClear_stands (s : State) : Stands s s.serveErrorClear.state := by
  unfold serveErrorClear
  split
  · exact .refl s
  · rename_i hfaulted
    split_ifs
    · exact .refl s
    · exact .refl s
    · refine accept_stands (.trans ?_ (land_stands ?_))
      · exact .kept (by simp)
      · rw [not_not.mp hfaulted]
        nofun

theorem serve_stands (r : Request) (s : State) : Stands s (s.serve r).state := by
  cases r with
  | writeSetup c n =>
    show Stands s (s.serveWriteSetup c n).state
    unfold serveWriteSetup
    split
    · exact .refl s
    · split
      · exact .refl s
      · exact accept_stands (applySetup_stands c s)
  | loadPlanHeader h => exact serveHeader_stands h s
  | loadPlanGroup n g =>
    show Stands s (s.serveGroup n g).state
    unfold serveGroup
    split
    · exact .refl s
    · rename_i hopen
      split
      · exact .refl s
      · exact accept_stands (loaded_stands (by simpa using hopen) rfl)
  | loadPlanHole n h =>
    show Stands s (s.serveHole n h).state
    unfold serveHole
    split
    · exact .refl s
    · rename_i hopen
      split
      · exact .refl s
      · exact accept_stands (loaded_stands (by simpa using hopen) rfl)
  | commitPlan => exact serveCommit_stands s
  | readSetup =>
    show Stands s s.serveReadSetup.state
    unfold serveReadSetup
    split <;> exact .refl s
  | readStatus => exact .refl s
  | readHole n =>
    show Stands s (s.serveReadHole n).state
    unfold serveReadHole
    split
    · exact .refl s
    · split <;> exact .refl s
  | readPeer j =>
    show Stands s (s.serveReadPeer j).state
    unfold serveReadPeer
    split_ifs <;> exact .refl s
  | readEvents => exact .refl s
  | errorClear => exact serveErrorClear_stands s
  | stationClear => exact accept_stands (stationClear_stands s)
  | reworkHole n target => exact serveRework_stands n target s

theorem takeRequest_stands (bytes : List Byte) (s : State) : Stands s (s.takeRequest bytes) := by
  have judged : Stands s (judgeRequest bytes { s with sp.buffer := bytes, sp.rx := .answering }).state := by
    refine .trans (t := { s with sp.buffer := bytes, sp.rx := .answering }) (.kept (by simp)) ?_
    unfold judgeRequest
    split
    · exact .refl _
    · exact serve_stands _ _
  exact judged.trans (.kept rfl)

theorem hearByte_stands (b : Byte) (s : State) : Stands s (s.hearByte b) := by
  unfold hearByte
  dsimp only
  split
  · split <;> exact .kept (by simp)
  · split
    · exact .kept (by simp)
    · unfold storeByte
      dsimp only
      split_ifs
      · exact .kept (by simp)
      · exact .kept rfl
      · exact .trans (.kept (by simp)) (takeRequest_stands _ _)
      · exact .kept (by simp)
  · exact .kept (by simp)

theorem hearBytes_stands (bytes : List Byte) (s : State) : Stands s (s.hearBytes bytes) :=
  .foldl (fun t b => hearByte_stands b t) bytes s

/-! ### Every command -/

/-- Power-on leaves the station UNCONFIGURED with nothing held and both lines released. -/
theorem powerOn_stands {s t : State} (h : exec .powerOn s = .next t) : Stands s t := by
  obtain rfl := Host.Outcome.next.inj h
  exact ⟨fun _ => by simp [linesAgree, reset], fun _ => nofun, fun _ => ⟨fun h => absurd rfl h, rfl⟩⟩

theorem exec_stands (c : Instr) (s : State) : ∃ t : State, exec c s = .next t ∧ Stands s t := by
  have settled : ∀ {u : State}, Stands s u →
      ∃ t : State, Host.Outcome.next u.settle = (.next t : Host.Outcome State Fault Refusal) ∧ Stands s t :=
    fun {u} hu => ⟨u.settle, rfl, hu.trans (settle_stands u)⟩
  have expired : ∀ {effect : State → State}, (∀ t, (effect t).posture = t.posture) → ∀ due, Stands s (s.expire due effect) :=
    fun {_} h due => expire_stands (fun t => .kept (h t)) due s
  cases c with
  | powerOn => exact ⟨_, rfl, powerOn_stands rfl⟩
  | jigClosed => exact settled (jigCloses_stands s)
  | jigOpen => exact settled (jigOpens_stands s)
  | stationReset w => exact settled (.trans (t := { s with lines.resetHighUntil := s.clock + w }) (.kept (by simp)) (stationClear_stands _))
  | ack w => exact ⟨_, rfl, .kept (acknowledge_posture { s with lines.ackHighUntil := s.clock + w })⟩
  | effectorReadyFall w => exact settled (readyFalls_stands w s)
  | serviceByte b => exact ⟨_, rfl, hearByte_stands b s⟩
  | writeSetup l | readSetup l | loadPlanHeader l | loadPlanGroup l | loadPlanHole l | commitPlan l | readStatus l | readHole l
  | readPeer l | readEvents l | errorClear l | stationClear l | reworkHole l => exact ⟨_, rfl, hearBytes_stands l s⟩
  | serviceByteGap => exact ⟨_, rfl, expired (effect := State.dropPartial) (fun _ => rfl) _⟩
  | serviceLineQuiet => exact ⟨_, rfl, expired (effect := State.lineQuiet) (fun _ => rfl) _⟩
  | answerSent =>
    refine ⟨_, rfl, .kept ?_⟩
    unfold State.answerEnds
    split <;> rfl
  | frameDiscarded f | presenceReceived f | datumReceived f | claimReceived f | releaseReceived f | reportDrilledReceived f
  | reportSetReceived f | reportRejectedReceived f | correctionReceived f | reworkCorrectionReceived f | zoneSeizeReceived f
  | zoneReleaseReceived f | zoneRequestReceived f | drawIntentReceived f | drawDoneReceived f | drawWithdrawReceived f =>
    exact settled (hearFrame_stands f s)
  | transmitStart q => exact ⟨_, rfl, .kept (transmit_posture q s)⟩
  | attemptFailed => exact settled (failAttempt_stands s)
  | presenceReadBack | datumReadBack | claimReadBack | releaseReadBack | reportReadBack | correctionReadBack | zoneSeizeReadBack
  | zoneRequestReadBack | zoneReleaseReadBack | drawIntentReadBack | drawWithdrawReadBack | drawDoneReadBack =>
    exact settled (.kept (readBack_posture _ s))
  | presenceIntervalExpiry => exact settled (expired presenceExpires_posture _)
  | datumExpiry d => exact settled (expired (expireDatum_posture d) _)
  | proberAgeDue => exact settled (expired proberDue_posture _)
  | retryDeadline => exact settled (expired retry_posture _)
  | peerSilent j => exact settled (expired (silence_posture j) _)
  | peerLost j => exact settled (expired (loseAfterSilence_posture j) _)
  | selfLapse side => exact settled (expired (selfLapsed_posture side) _)
  | yieldDeadline side => exact settled (expired (yieldOver_posture side) _)
  | drawEntryExpiry j => exact settled (expired (emptyDraw_posture j) _)
  | settleDeadline => exact settled (expired decideDraw_posture _)
  | waitDeadline => exact settled (expired freshIntent_posture _)
  | nextPoll => exact settled (expired askPressure_posture _)
  | pressureWaitLimit => exact settled (expire_stands limitPasses_stands _ s)
  | ownIntentRenewal => exact settled (expired renewIntent_posture _)
  | clampSettleExpiry | ramRecoveryExpiry => exact settled (expired (effect := id) (fun _ => rfl) _)
  | resumeRise => exact settled (.kept (resumeRises_posture s))
  | resumeFall => exact settled (.kept (resumeFalls_posture s))
  | responseTimeout => exact settled (responseLate_stands s)
  | completionDeadline => exact settled (completionLate_stands s)
  | reportFlagFall => exact ⟨_, rfl, .kept rfl⟩
  | reportWord | doneReport | positionReport | thrustReport | senseReport | gaugeReport | squeezeReport | pressureReport
  | faultReport | refusedReport => exact settled (takeWord_stands _ _ _ s)

theorem tick_posture (s : State) : s.tick.posture = s.posture := by simp only [posture, tick]

theorem step_stands {s t : State} (h : step s = .next t) : Stands s t := by
  unfold step at h
  split at h
  · obtain rfl := Host.Outcome.next.inj h
    exact .kept (tick_posture s)
  · rename_i c rest _
    obtain ⟨u, hu, stands⟩ := exec_stands c { s with pending := rest }
    obtain rfl := Host.Outcome.next.inj (hu.symm.trans h)
    exact .trans (t := { s with pending := rest }) (.kept rfl) stands

end State

/-- Settles O8: WS takes a work state only through `setWork`, which drives both lines, and nothing else touches them. -/
theorem stepKeepsLines : Obligations.StepKeepsLines := fun _ _ hs h => (State.step_stands h).lines hs

/-- Settles O11: out of UNCONFIGURED no request but LOAD PLAN HEADER takes VALID away, and that one enters UNCONFIGURED. -/
theorem stepKeepsConfiguration : Obligations.StepKeepsConfiguration := fun _ _ hs h => (State.step_stands h).whole hs

/-- Settles O12: every passage into IDLE finds the jig open, and JIG CLOSED in IDLE is a frame cycle start. -/
theorem stepKeepsIdleOpen : Obligations.StepKeepsIdleOpen := fun _ _ hs h => (State.step_stands h).idle hs

end Sys2Proof.Machine
end

section
/-! PROOFS. The own CLAIM read back (R75, R101). -/

namespace Sys2Proof.Machine

open Sys2Proof (Byte Word Data Stamp Datum Side Instr)

/-! ### How the CLAIM is judged (R101) -/

/-- The entry does not stand claimed by another station. -/
def HoleEntry.unheldByOthers (k : Nat) (e : HoleEntry) : Prop := e.state.claimed = false ∨ e.claimedBy k = true

theorem judgeClaim_lost {k : Nat} {e : HoleEntry} (queued : Bool) (c : Claim) (hclaimed : e.state.claimed = true)
    (hother : e.claimedBy k = false) : judgeClaim k queued c e = .lost := by
  simp [judgeClaim, hclaimed, hother]

theorem HoleEntry.unheldByOthers.not_lost {k : Nat} {e : HoleEntry} (h : e.unheldByOthers k) :
    (e.state.claimed && !e.claimedBy k) = false := by
  rcases h with h | h <;> simp [h]

theorem judgeClaim_stale {k : Nat} {c : Claim} {e : HoleEntry} (queued : Bool) (h : e.unheldByOthers k)
    (hlater : c.phase.assumed.code < e.state.code) : judgeClaim k queued c e = .stale := by
  simp [judgeClaim, h.not_lost, hlater]

theorem judgeClaim_assumed {k : Nat} {c : Claim} {e : HoleEntry} (queued : Bool) (h : e.state = c.phase.assumed) :
    judgeClaim k queued c e = if queued then .confirmed else .unwanted := by
  have unclaimed : c.phase.assumed.claimed = false := by cases c.phase <;> rfl
  simp [judgeClaim, h, unclaimed]

theorem judgeClaim_earlier {k : Nat} {c : Claim} {e : HoleEntry} (queued : Bool) (h : e.unheldByOthers k)
    (hearlier : e.state.code < c.phase.assumed.code) : judgeClaim k queued c e = if queued then .stale else .unwanted := by
  have differs : e.state ≠ c.phase.assumed := by
    rintro heq
    simp [heq] at hearlier
  simp [judgeClaim, h.not_lost, hearlier.le, differs]

namespace State

/-! ### What WS and HT do with the outcome -/

theorem ownerBack_claim {f : TxFrame} {c : Claim} (hf : f.body = .claim c) (s : State) :
    s.ownerBack f = s.claimBack f c s.lc.stamp := by
  simp [ownerBack, hf]

section Selected

variable {f : TxFrame} {c : Claim} {e : HoleEntry} {x : Selection} {s : State} {stamp : Stamp}
  (he : s.ht[c.hole]? = some e) (hx : s.ws.selection = some x) (hid : x.frameId = f.id)
  (hstage : x.stage = .claimQueued ∨ x.stage = .claimWithdrawn)

include he hx hid hstage

/-- The CLAIM of the selection in hand is judged as queued when it has not been withdrawn. -/
theorem claimBack_confirmed (h : judgeClaim s.k (decide (x.stage = .claimQueued)) c e = .confirmed) :
    s.claimBack f c stamp = s.confirmClaim x c e stamp := by
  rcases hstage with hstage | hstage <;> simp_all [claimBack, Option.filter]

theorem claimBack_dropped (h : judgeClaim s.k (decide (x.stage = .claimQueued)) c e = .lost
      ∨ judgeClaim s.k (decide (x.stage = .claimQueued)) c e = .stale) :
    s.claimBack f c stamp = { s with ws.selection := none } := by
  rcases hstage with hstage | hstage <;> rcases h with h | h <;> simp_all [claimBack, Option.filter]

theorem claimBack_unwanted (h : judgeClaim s.k (decide (x.stage = .claimQueued)) c e = .unwanted) :
    s.claimBack f c stamp = State.offer .ws (.release c) { s with ws.selection := none } := by
  rcases hstage with hstage | hstage <;> simp_all [claimBack, Option.filter]

end Selected

/-- A CLAIM behind which no selection stands. -/
theorem claimBack_unselected {f : TxFrame} {c : Claim} {e : HoleEntry} {s : State} {stamp : Stamp} (he : s.ht[c.hole]? = some e)
    (hx : ∀ x, s.ws.selection = some x → x.frameId ≠ f.id ∨ x.stage = .seizeWait ∨ x.stage = .inCycle) :
    s.claimBack f c stamp = if judgeClaim s.k false c e = .unwanted then s.offer .ws (.release c) else s := by
  have unselected : (s.ws.selection.filter fun x =>
      x.frameId = f.id && (x.stage = .claimQueued || x.stage = .claimWithdrawn)) = none := by
    rw [Option.filter_eq_none_iff]
    intro x hx'
    rcases hx x hx' with h | h | h <;> simp [h]
  simp only [claimBack, he, unselected]
  cases hj : judgeClaim s.k false c e <;> simp [hj]

/-- The entry claimed, the current claim taken and the hole cycle opened. -/
theorem confirmClaim_opens {x : Selection} {c : Claim} {e : HoleEntry} {stamp : Stamp} {s : State} (he : s.ht[c.hole]? = some e) :
    (s.confirmClaim x c e stamp).ht[c.hole]?
        = some { e with state := if c.phase = .drill then .drillClaimed else .setClaimed, claimant := some s.k }
      ∧ (s.confirmClaim x c e stamp).ws.claim = some c
      ∧ (s.confirmClaim x c e stamp).ws.selection = some { x with stage := .inCycle, claimStamp := some stamp }
      ∧ (s.confirmClaim x c e stamp).cs.cycle = some (newCycle (.hole c) x.rail x.cross x.zone .claiming)
      ∧ ∀ side, ((s.confirmClaim x c e stamp).zone side).cycles
          = if (s.zone side).pending = true then min 16 ((s.zone side).cycles + 1) else (s.zone side).cycles := by
  obtain ⟨hlt, -⟩ := List.getElem?_eq_some_iff.mp he
  refine ⟨?_, rfl, rfl, rfl, fun side => ?_⟩
  · show (s.putEntry c.hole _).ht[c.hole]? = _
    cases c.phase <;> simp [hlt]
  · have counted : (s.confirmClaim x c e stamp).zone side = (s.zone side).countCycle := by
      unfold confirmClaim
      rw [countCycle_zone]
      simp [zone]
    rw [counted, ZoneRecord.countCycle]
    split <;> rfl

end State

/-- Settles O46: by the outcome of R101, with the selection whose frame the CLAIM is and without one. -/
theorem claimReadBackJudged : Obligations.ClaimReadBackJudged := by
  refine ⟨fun f c e x s hf he hx hid => ?_, fun f c e s hf he hx => ?_⟩
  · rw [State.ownerBack_claim hf]
    refine ⟨fun hq h => ?_, fun hstage hclaimed hother => ?_, fun hstage hclaimed hlater => ?_, fun hw h => ?_,
      fun hq hheld hearlier => ?_, fun hw hheld hearlier => ?_⟩
    · rw [State.claimBack_confirmed he hx hid (.inl hq) (by simp [judgeClaim_assumed _ h, hq])]
      exact State.confirmClaim_opens he
    · exact State.claimBack_dropped he hx hid hstage (.inl (judgeClaim_lost _ c hclaimed hother))
    · exact State.claimBack_dropped he hx hid hstage (.inr (judgeClaim_stale _ (.inl hclaimed) hlater))
    · exact State.claimBack_unwanted he hx hid (.inr hw) (by simp [judgeClaim_assumed _ h, hw])
    · exact State.claimBack_dropped he hx hid (.inl hq) (.inr (by simp [judgeClaim_earlier _ hheld hearlier, hq]))
    · exact State.claimBack_unwanted he hx hid (.inr hw) (by simp [judgeClaim_earlier _ hheld hearlier, hw])
  · rw [State.ownerBack_claim hf, State.claimBack_unselected he hx]
    refine ⟨fun h => if_neg ?_, fun hheld hcode => if_pos ?_⟩
    · by_cases hlost : e.state.claimed = true ∧ e.claimedBy s.k = false
      · simp [judgeClaim_lost false c hlost.1 hlost.2]
      · have hheld : e.unheldByOthers s.k := by
          unfold HoleEntry.unheldByOthers
          grind
        simp [judgeClaim_stale false hheld (h.resolve_left hlost)]
    · rcases hcode.lt_or_eq with hearlier | hsame
      · simp [judgeClaim_earlier false hheld hearlier]
      · have assumed : e.state = c.phase.assumed := by
          revert hsame
          cases e.state <;> cases c.phase <;> simp [HoleState.code, Phase.assumed]
        simp [judgeClaim_assumed false assumed]

end Sys2Proof.Machine
end

section
/-! PROOFS. Frames on an entry held by this station's claim (R12, R102 to R104, R129). -/

namespace Sys2Proof.Machine

open Sys2Proof (Byte Word Data Stamp Datum Side Instr)

namespace State

/-! ### HT's part -/

theorem hearHole_ownClaim {h : Heard} {n : Nat} {e : HoleEntry} {s : State} (hn : h.body.hole? = some n) (he : s.ht[n]? = some e)
    (hown : e.claimedBy s.k = true) : s.hearHole h = if passes s.k h.body e then s.settleConflict h n else s.applyHeld h := by
  simp [hearHole, hn, he, hown]

theorem oweCorrection_of_entry {n : Nat} {e : HoleEntry} {s : State} (he : s.ht[n]? = some e) :
    s.oweCorrection n = s.putEntry n { e with owed := true } := by
  simp [oweCorrection, he]

/-- A frame that is no REPORT and is not passed to WS changes nothing. -/
theorem applyHeld_of_not_report {h : Heard} {s : State} (hb : ∀ r, h.body ≠ .report r) : s.applyHeld h = s := by
  unfold applyHeld
  split
  · exact absurd ‹_› (hb _)
  · rfl

/-! ### WS's part -/

theorem settleConflict_noCycle {h : Heard} {n : Nat} {s : State} (hcy : s.cs.cycle = none) :
    s.settleConflict h n = s.oweCorrection n := by
  simp [settleConflict, hcy]

theorem settleConflict_kept {h : Heard} {n : Nat} {cy : Cycle} {s : State} (hcy : s.cs.cycle = some cy) (hend : cy.ending = none)
    (hkeeps : h.body.keepsClaim = true ∨ cy.stage.clampingOrLater = true) : s.settleConflict h n = s.oweCorrection n := by
  rcases hkeeps with hkeeps | hkeeps <;> simp [settleConflict, hcy, hend, hkeeps]

/-- Under an ending already begun the frame waits for its end. -/
theorem settleConflict_ending {h : Heard} {n : Nat} {cy : Cycle} {x : Ending} {s : State} (hcy : s.cs.cycle = some cy)
    (hend : cy.ending = some x) : s.settleConflict h n = s.setCycle { cy with left := cy.left ++ [h] } := by
  simp [settleConflict, hcy, hend]

/-- Before CLAMPING the cycle is abandoned and the frame left to its end. -/
theorem settleConflict_abandons {h : Heard} {n : Nat} {cy : Cycle} {s : State} (hcy : s.cs.cycle = some cy)
    (hend : cy.ending = none) (hkeeps : h.body.keepsClaim = false) (hearly : cy.stage.clampingOrLater = false) :
    (s.settleConflict h n).ht = s.ht ∧ ∃ cy' x, (s.settleConflict h n).cs.cycle = some cy' ∧ cy'.ending = some x
      ∧ x.cause = .abandon ∧ cy'.left = [h] ∧ cy'.work = cy.work := by
  have settled : s.settleConflict h n = (s.setCycle { cy with left := [h] }).takeEnding .abandon false := by
    simp [settleConflict, hcy, hend, hkeeps, hearly]
  have winds : cy.stage.goesOn = false := by
    revert hearly
    cases cy.stage <;> decide
  have notBudgeting : cy.stage ≠ .budgeting := by
    rintro heq
    simp [heq, Stage.clampingOrLater] at hearly
  rw [settled]
  simp [takeEnding, setCycle, hend, winds, notBudgeting]

end State

/-! ### What is passed to WS (R12) -/

theorem passes_report_iff (k : Nat) (r : Report) (e : HoleEntry) :
    passes k (.report r) e = true ↔ (r.outcome = .drilled → e.state = .drillClaimed) := by
  unfold passes
  cases ho : r.outcome <;> simp [ho]

theorem passes_correction_iff (k : Nat) (m : CorrectionMsg) (e : HoleEntry) :
    passes k (.correction m) e = true ↔ m.rework = true ∨ (m.asserted ≠ .planned
      ∧ (m.asserted = .drillClaimed ∨ m.asserted = .setClaimed → m.worker ≠ 0 ∧ m.worker ≠ k)) := by
  unfold passes
  cases ha : m.asserted <;> simp [ha]

theorem HoleEntry.state_of_claimedBy {e : HoleEntry} {k : Nat} (h : e.claimedBy k = true) :
    e.state = .drillClaimed ∨ e.state = .setClaimed := by
  revert h
  unfold HoleEntry.claimedBy
  cases e.state <;> simp [HoleState.claimed]

/-- A REPORT that is not passed to WS tells DRILLED of a SET-CLAIMED entry, and fills what that entry lacks (R16). -/
theorem State.applyHeld_report {j n : Nat} {r : Report} {stamp : Stamp} {e : HoleEntry} {s : State} (hn : r.hole = n)
    (he : s.ht[n]? = some e) (hown : e.claimedBy s.k = true) (hpass : passes s.k (.report r) e = false) :
    s.applyHeld { sender := j, body := .report r, stamp } = s.putEntry n { e with
      drillWorker := if e.drillWorker.getD 0 = 0 then some j else e.drillWorker,
      stack := if e.stack = none then r.stackOf else e.stack,
      plies := if e.stack = none then r.pliesOf else e.plies } := by
  have drilled : r.outcome = .drilled ∧ e.state ≠ .drillClaimed := by
    simpa [passes_report_iff] using (passes_report_iff s.k r e).not.mp (by simp [hpass])
  obtain ⟨hdrilled, hstate⟩ := drilled
  have setClaimed : e.state = .setClaimed := (HoleEntry.state_of_claimedBy hown).resolve_left hstate
  subst hn
  simp [applyHeld, applyToEntry, Body.hole?, mergeEntry, HoleEntry.reportDrilled, hdrilled, he, setClaimed]

open State

/-- A frame on an entry held by this station's claim: heard and stamped, then passed to WS or kept by HT. -/
theorem exec_ownClaimFrame {j n : Nat} {b : Body} {e : HoleEntry} {s : State} (hn : b.hole? = some n) (hb : bodyFits b = true)
    (hs : s.dispatches j) (he : s.ht[n]? = some e) (hown : e.claimedBy s.k = true) :
    exec (heardRow b (frameBytes j b)) s = .next
      (if passes s.k b e then (s.heard (frameBytes j b)).settleConflict { sender := j, body := b, stamp := s.lc.stamp + 1 } n
       else (s.heard (frameBytes j b)).applyHeld { sender := j, body := b, stamp := s.lc.stamp + 1 }).settle := by
  rw [exec_holeFrame hn hb hs, hearHole_ownClaim (s := s.heard (frameBytes j b)) hn he hown]
  rfl

/-- Settles O41: HT passes the frame to WS or takes it as it is, and WS settles it by the cycle's stage. -/
theorem ownClaimConflicts : Obligations.OwnClaimConflicts := by
  intro j n b e s hn hb hs he hown
  have he' : (s.heard (frameBytes j b)).ht[n]? = some e := he
  have cycle : (s.heard (frameBytes j b)).cs.cycle = s.cs.cycle := rfl
  refine ⟨fun hpass => ?_, fun hpass => ?_, fun c => ⟨rfl, rfl⟩, fun r => passes_report_iff s.k r e,
    fun m => passes_correction_iff s.k m e⟩
  · rw [exec_ownClaimFrame hn hb hs he hown, if_pos hpass]
    refine ⟨fun hcy => ?_, fun cy hcy hend hkeeps => ?_, fun cy hcy hend hkeeps hearly => ?_, fun cy x hcy hend => ?_⟩
    · rw [settleConflict_noCycle (cycle.trans hcy), oweCorrection_of_entry he']
    · rw [settleConflict_kept (cycle.trans hcy) hend hkeeps, oweCorrection_of_entry he']
    · obtain ⟨hht, cy', x, hcy', hx, hcause, hleft, hwork⟩ :=
        settleConflict_abandons (n := n) (h := ⟨j, b, s.lc.stamp + 1⟩) (cycle.trans hcy) hend hkeeps hearly
      exact ⟨_, cy', x, rfl, hht, hcy', hx, hcause, hleft, hwork⟩
    · exact ⟨_, rfl, by rw [settleConflict_ending (cycle.trans hcy) hend]; exact ⟨rfl, rfl⟩⟩
  · rw [exec_ownClaimFrame hn hb hs he hown, if_neg (by simp [hpass])]
    refine ⟨fun r hr => ?_, fun hr => ?_⟩
    · subst hr
      rw [applyHeld_report (Option.some.inj hn) he' hown hpass]
    · rw [applyHeld_of_not_report hr]

end Sys2Proof.Machine
end

section
/-! PROOFS. The passages among WAITING, WORKING and FINISHED (R90, R91, R105, R106). -/

namespace Sys2Proof.Machine

open Sys2Proof (Byte Word Data Stamp Datum Side Instr)

theorem HoleState.terminal_iff (st : HoleState) : st.terminal = true ↔ st = .set ∨ st = .rejected := by
  cases st <;> simp [HoleState.terminal]

namespace State

/-! ### The conditions -/

theorem workConditions_iff (s : State) : s.workConditions = true ↔ s.pu.correction ≠ none ∧ s.pt.conflict = false
    ∧ ∀ j ∈ s.cfg.neighbours, (s.peer j).status ≠ .unknown := by
  simp only [workConditions, neighboursHeard, Bool.and_eq_true, Bool.not_eq_true', List.all_eq_true, decide_eq_true_eq,
    Option.isSome_iff_ne_none]
  tauto

theorem quietPoint_iff (s : State) : s.quietPoint = true ↔ s.cs.cycle = none ∧ s.ws.selection = none := by
  simp [quietPoint]

theorem concernDone_iff (s : State) : s.concernDone = true ↔
    ∀ h ∈ s.pu.concern.getD [], ∃ e, s.ht[h]? = some e ∧ (e.state = .set ∨ e.state = .rejected) := by
  simp only [concernDone, List.all_eq_true]
  refine forall₂_congr fun h _ => ?_
  cases s.ht[h]? <;> simp [HoleState.terminal_iff]

/-- A hole of the concern still to be worked. -/
theorem concernDone_eq_false {h : Nat} {e : HoleEntry} {s : State} (hh : h ∈ s.pu.concern.getD []) (he : s.ht[h]? = some e)
    (hset : e.state ≠ .set) (hrejected : e.state ≠ .rejected) : s.concernDone = false := by
  refine Bool.eq_false_of_not_eq_true fun hdone => ?_
  obtain ⟨e', he', hterminal⟩ := s.concernDone_iff.mp hdone h hh
  obtain rfl := Option.some.inj (he.symm.trans he')
  exact hterminal.elim hset hrejected

/-! ### The passages -/

theorem toWorking_passes (s : State) : s.toWorking.ws.state = .working ∧ s.toWorking.lines.finishedLine = false
    ∧ s.toWorking.ws.park = if s.ws.park = .waitingForClearance then .no else s.ws.park := by
  have park : (s.setWork .working).ws.park = s.ws.park := rfl
  unfold toWorking
  dsimp only
  rw [park]
  split <;> exact ⟨rfl, rfl, rfl⟩

theorem stepConditions_waiting {s : State} (h : s.ws.state = .waiting) :
    s.stepConditions = if s.workConditions then s.toWorking else s := by
  simp [stepConditions, h]

theorem stepConditions_engaged {s : State} (h : s.ws.state = .working ∨ s.ws.state = .finished) :
    s.stepConditions = if !s.workConditions && s.quietPoint then s.setWork .waiting else s := by
  rcases h with h | h <;> simp [stepConditions, h]

/-- The finish condition (R105). -/
theorem stepFinish_working {s : State} (h : s.ws.state = .working) :
    s.stepFinish = if s.quietPoint && s.concernDone && s.zc.left.state != .heldOwn && s.zc.right.state != .heldOwn
        && s.workConditions then s.toFinished else s := by
  simp [stepFinish, h]

theorem stepFinish_finished {s : State} (h : s.ws.state = .finished) :
    s.stepFinish = if s.pu.concern.isSome && !s.concernDone then s.toWorking else s := by
  simp [stepFinish, h]

theorem toFinished_passes (s : State) : s.toFinished.ws.state = .finished ∧ s.toFinished.lines.finishedLine = true
    ∧ s.toFinished.eu = (s.raise .finished).eu
    ∧ s.toFinished.ws.park = if s.ws.park ≠ .travelling ∧ s.parkCalls = true then .waitingForClearance else s.ws.park := by
  have calls : ((s.raise .finished).setWork .finished).parkCalls = s.parkCalls := rfl
  have park : ((s.raise .finished).setWork .finished).ws.park = s.ws.park := rfl
  unfold toFinished
  dsimp only
  rw [calls, park]
  by_cases h : s.ws.park ≠ .travelling ∧ s.parkCalls = true
  · rw [if_pos (by simpa using h), if_pos h]
    exact ⟨rfl, rfl, rfl, rfl⟩
  · rw [if_neg (by simpa using h), if_neg h]
    exact ⟨rfl, rfl, rfl, rfl⟩

theorem parkCalls_iff (s : State) : s.parkCalls = true ↔ s.own ≠ s.cfg.park ∧ s.zoneAt s.cfg.park = none := by
  simp [parkCalls]

/-! ### WAITING after a pass -/

theorem workConditions_of_kept {s t : State} (h : t.kept = s.kept) : t.workConditions = s.workConditions := by
  simp only [kept, Kept.mk.injEq] at h
  obtain ⟨-, -, -, hsetup, -, -, hpeers, hconflict, -, -, hcorrection, -⟩ := h
  simp [workConditions, neighboursHeard, peer, cfg, hsetup, hpeers, hconflict, hcorrection]

/-- A station that is WAITING afterwards was WAITING before. -/
def WaitedBefore (s t : State) : Prop := t.ws.state = .waiting → s.ws.state = .waiting

theorem WaitedBefore.kept {s t : State} (h : t.posture = s.posture) : WaitedBefore s t :=
  (state_of_posture h).symm.trans

theorem WaitedBefore.trans {s t u : State} (h : WaitedBefore s t) (h' : WaitedBefore t u) : WaitedBefore s u := h ∘ h'

theorem placeCommand_waitedBefore (c : Command) (u : PortUser) (s : State) : WaitedBefore s (s.placeCommand c u) := by
  unfold placeCommand
  split
  · exact .kept (by simp)
  · exact fun h => absurd h (effectorFault_quiet _ _ _).2.1

theorem stepPark_waitedBefore (s : State) : WaitedBefore s s.stepPark := by
  unfold stepPark
  dsimp only
  split
  · exact .trans (.kept (by simp)) (placeCommand_waitedBefore _ _ _)
  · exact id

theorem stepFinish_waitedBefore (s : State) : WaitedBefore s s.stepFinish := by
  unfold stepFinish
  split
  · split
    · intro h
      rw [s.toFinished_passes.1] at h
      cases h
    · exact id
  · split
    · intro h
      rw [s.toWorking_passes.1] at h
      cases h
    · exact id
  all_goals exact id

theorem stepConditions_settled {s : State} (h : s.stepConditions.ws.state = .waiting) :
    s.stepConditions.workConditions = false := by
  rw [workConditions_of_kept (stepConditions_kept s)]
  by_contra hne
  have holds : s.workConditions = true := by simpa using hne
  revert h
  unfold stepConditions
  split
  · rw [if_pos holds, s.toWorking_passes.1]
    nofun
  all_goals simp_all

/-- What follows the check of the conditions in a pass. -/
def afterConditions (s : State) : State := s.stepZones.stepFinish.stepRequests.stepSelect.stepPark

theorem afterConditions_waitedBefore (s : State) : WaitedBefore s s.afterConditions :=
  .trans (.trans (.kept (stepZones_posture s)) (stepFinish_waitedBefore _))
    (.trans (.kept ((stepSelect_posture _).trans (stepRequests_posture _))) (stepPark_waitedBefore _))

theorem settleOnce_checksConditions {s : State} (h : s.ws.state.online = true) : ∃ u : State, u.kept = s.kept
    ∧ (s.settleOnce = u.stepConditions.afterConditions.offerOwed ∨ s.settleOnce = u.stepConditions.afterConditions) := by
  refine ⟨{ s.placeInterject.stepCycle.stepLone.stepSelection with ws.retest := false }, by simp, ?_⟩
  unfold settleOnce
  rw [if_pos h]
  dsimp only
  split
  · exact .inl rfl
  · exact .inr rfl

/-- After a pass no station is WAITING with the conditions holding: what follows the check of them keeps them and leads no station
back into WAITING. -/
theorem settleOnce_waits {s : State} (h : s.settleOnce.ws.state = .waiting) : s.settleOnce.workConditions = false := by
  rw [workConditions_of_kept (settleOnce_kept s)]
  by_cases hon : s.ws.state.online = true
  · obtain ⟨u, kept, hpass⟩ := settleOnce_checksConditions hon
    have waits : u.stepConditions.ws.state = .waiting := by
      refine u.stepConditions.afterConditions_waitedBefore ?_
      rcases hpass with hpass | hpass
      · exact (state_of_posture (offerOwed_posture _)).symm.trans (hpass ▸ h)
      · exact hpass ▸ h
    rw [← workConditions_of_kept kept, ← workConditions_of_kept (stepConditions_kept u)]
    exact stepConditions_settled waits
  · rw [settleOnce, if_neg hon] at h
    exact absurd (h ▸ rfl) hon

theorem settle_waits {s : State} (h : s.settle.ws.state = .waiting) : s.settle.workConditions = false := by
  have last : s.settle = settleOnce (repeatState settleOnce 7 s) := repeatState_succ settleOnce 7 s
  rw [last] at h ⊢
  exact settleOnce_waits h

end State

open State in
/-- Settles O57: the conditions and the passages of `stepConditions` and `stepFinish`, and the check of the conditions in the last
pass of settling. -/
theorem workPassages : Obligations.WorkPassages := by
  refine ⟨workConditions_iff, fun s => settle_waits, fun s hs => ⟨fun hc => ?_, fun hc => ?_⟩,
    fun s hs => ⟨fun hc hcy hsel => ?_, fun hno => ?_⟩,
    fun s hs => ⟨fun hcy hsel hc hleft hright hdone => ?_, fun hno => ?_⟩,
    fun s hs => ⟨fun l h e hl hh he hset hrej => ?_, fun hdone => ?_⟩⟩
  · rw [stepConditions_waiting hs, if_pos hc]
    exact ⟨s.toWorking_passes.1, s.toWorking_passes.2.2⟩
  · rw [stepConditions_waiting hs, if_neg (by simp [hc])]
  · rw [stepConditions_engaged hs, if_pos (by simp [hc, s.quietPoint_iff.mpr ⟨hcy, hsel⟩])]
    exact ⟨rfl, rfl, rfl⟩
  · rw [stepConditions_engaged hs, if_neg]
    simp only [Bool.and_eq_true, quietPoint_iff, Bool.not_eq_true']
    rintro ⟨hc, hcy, hsel⟩
    simp [hc, hcy, hsel] at hno
  · obtain ⟨hwork, hline, heu, hpark⟩ := s.toFinished_passes
    have quiet := s.quietPoint_iff.mpr ⟨hcy, hsel⟩
    rw [stepFinish_working hs, if_pos (by simp [quiet, s.concernDone_iff.mpr hdone, hleft, hright, hc])]
    refine ⟨hwork, hline, fun x hx => heu ▸ raise_source .finished hx, fun htravel hown hzone => ?_, fun hno => ?_⟩
    · rw [hpark, if_pos ⟨htravel, s.parkCalls_iff.mpr ⟨hown, hzone⟩⟩]
    · rw [hpark, if_neg]
      rintro ⟨htravel, hcalls⟩
      obtain ⟨hown, hzone⟩ := s.parkCalls_iff.mp hcalls
      exact hno.elim htravel (·.elim hown (· hzone))
  · rw [stepFinish_working hs, if_neg]
    simp only [Bool.and_eq_true, quietPoint_iff, bne_iff_ne]
    rintro ⟨⟨⟨⟨⟨hcy, hsel⟩, hdone⟩, hleft⟩, hright⟩, hc⟩
    rcases hno with hno | hno | hno | hno | hno | ⟨h, hh, e, he, hset, hrej⟩
    · exact hno hcy
    · exact hno hsel
    · simp [hc] at hno
    · exact hleft hno
    · exact hright hno
    · simp [concernDone_eq_false hh he hset hrej] at hdone
  · have undone : s.concernDone = false := concernDone_eq_false (by simpa [hl] using hh) he hset hrej
    rw [stepFinish_finished hs, if_pos (by simp [hl, undone])]
    exact s.toWorking_passes
  · rw [stepFinish_finished hs, if_neg (by simp [s.concernDone_iff.mpr hdone])]

end Sys2Proof.Machine
end

section
/-! PROOFS. What WS may choose, and which it chooses (R9, R29, R60, R70, R95 to R99). -/

namespace Sys2Proof.Machine

open Sys2Proof (Byte Word Data Stamp Datum Side Instr)

namespace State

/-! ### What is eligible (R95, R96) -/

theorem setOrder_iff (h : Nat) (s : State) : s.setOrder h = true ↔
    (∀ m ∈ s.ps.members h, ∃ e, s.ht[m]? = some e
      ∧ (e.state = .drilled ∨ e.state = .setClaimed ∨ e.state = .set ∨ e.state = .rejected))
    ∧ ∀ m, s.ps.predecessor h = some m → ∃ e, s.ht[m]? = some e ∧ (e.state = .set ∨ e.state = .rejected) := by
  simp only [setOrder, Bool.and_eq_true, List.all_eq_true]
  refine and_congr (forall₂_congr fun m _ => ?_) ?_
  · cases s.ht[m]? <;> simp
  · cases s.ps.predecessor h with
    | none => simp
    | some m => cases hm : s.ht[m]? <;> simp [hm, HoleState.terminal_iff]

theorem zoneRow_iff (refused : List Side) (z : Option Side) (s : State) : s.zoneRow refused z = true ↔ ∀ side, z = some side →
    ((s.zone side).state = .heldOwn ∧ (s.zone side).progress = .no) ∨ ((s.zone side).state = .free ∧ side ∉ refused) := by
  cases z <;> simp [zoneRow, zoneHeld_iff]

theorem eligible_of_target {refused : List Side} {phase : Phase} {h : Nat} {rail cross : Int} {s : State}
    (ht : s.target? h = some (rail, cross)) : s.eligible refused phase h
      = if s.stateRow ⟨h, phase⟩ && s.permitted rail.toNat && s.zoneRow refused (s.zoneAt rail) then
          some { claim := ⟨h, phase⟩, rail, cross, zone := s.zoneAt rail } else none := by
  simp [eligible, ht]

theorem eligible_claim {refused : List Side} {phase : Phase} {h : Nat} {ch : Choice} {s : State}
    (hch : s.eligible refused phase h = some ch) : ch.claim = ⟨h, phase⟩ := by
  unfold eligible at hch
  split at hch
  · cases hch
  · dsimp only at hch
    split at hch
    · obtain rfl := Option.some.inj hch
      rfl
    · cases hch

end State

/-! ### The nearest hole (R98) -/

/-- A choice is nearer than another, or as near and of no higher number. -/
def Choice.precedes (own : Nat) (a b : Choice) : Prop :=
  (a.rail - own).natAbs < (b.rail - own).natAbs ∨ (a.rail - own).natAbs = (b.rail - own).natAbs ∧ a.claim.hole ≤ b.claim.hole

/-- In a list of rising hole number the choice kept is one of the list's and precedes every other. -/
theorem foldl_nearer (own : Nat) (a : Choice) (l : List Choice) (hrising : (a :: l).Pairwise fun x y => x.claim.hole < y.claim.hole) :
    l.foldl (nearer own) a ∈ a :: l ∧ ∀ y ∈ a :: l, (l.foldl (nearer own) a).precedes own y := by
  induction l generalizing a with
  | nil => simp [Choice.precedes]
  | cons b l ih =>
    obtain ⟨ha, hl⟩ := List.pairwise_cons.mp hrising
    have hab : a.claim.hole < b.claim.hole := ha b (List.mem_cons_self ..)
    rw [List.foldl_cons]
    by_cases hb : (b.rail - own).natAbs < (a.rail - own).natAbs
    · have kept : nearer own a b = b := if_pos hb
      obtain ⟨hmem, hprecedes⟩ := ih b hl
      rw [kept]
      refine ⟨List.mem_cons_of_mem a hmem, fun y hy => ?_⟩
      rcases List.mem_cons.mp hy with rfl | hy
      · have hfirst := hprecedes b (List.mem_cons_self ..)
        unfold Choice.precedes at hfirst ⊢
        omega
      · exact hprecedes y hy
    · have kept : nearer own a b = a := if_neg hb
      have hal : (a :: l).Pairwise fun x y => x.claim.hole < y.claim.hole :=
        List.pairwise_cons.mpr ⟨fun y hy => ha y (List.mem_cons_of_mem b hy), (List.pairwise_cons.mp hl).2⟩
      obtain ⟨hmem, hprecedes⟩ := ih a hal
      rw [kept]
      refine ⟨List.mem_cons.mpr ((List.mem_cons.mp hmem).imp_right (List.mem_cons_of_mem b)), fun y hy => ?_⟩
      rcases List.mem_cons.mp hy with rfl | hy
      · exact hprecedes y (List.mem_cons_self ..)
      · rcases List.mem_cons.mp hy with rfl | hy
        · have hfirst := hprecedes a (List.mem_cons_self ..)
          unfold Choice.precedes at hfirst ⊢
          omega
        · exact hprecedes y (List.mem_cons_of_mem a hy)

namespace State

theorem eligible_rising {refused : List Side} {phase : Phase} {l : List Nat} (hl : l.Pairwise (· < ·)) (s : State) :
    (l.filterMap (s.eligible refused phase)).Pairwise fun x y => x.claim.hole < y.claim.hole := by
  refine List.pairwise_filterMap.mpr (hl.imp fun {a b} hab x hx y hy => ?_)
  rw [eligible_claim hx, eligible_claim hy]
  exact hab

theorem nearest_none_iff (refused : List Side) (phase : Phase) (s : State) :
    s.nearest refused phase = none ↔ ∀ h ∈ s.pu.concern.getD [], s.eligible refused phase h = none := by
  unfold nearest
  rw [← List.filterMap_eq_nil_iff]
  split <;> simp_all

theorem nearest_some {refused : List Side} {phase : Phase} {l : List Nat} {ch : Choice} {s : State} (hconcern : s.pu.concern = some l)
    (hl : l.Pairwise (· < ·)) (hch : s.nearest refused phase = some ch) :
    ch ∈ l.filterMap (s.eligible refused phase) ∧ ∀ x ∈ l.filterMap (s.eligible refused phase), ch.precedes s.own x := by
  unfold nearest at hch
  rw [hconcern, Option.getD_some] at hch
  split at hch
  · cases hch
  · rename_i a rest hcands
    obtain rfl := Option.some.inj hch
    rw [hcands]
    exact foldl_nearer s.own a rest (hcands ▸ eligible_rising hl s)

/-! ### When WS selects, and the datum cycle (R29, R97, R98) -/

theorem maySelect_iff (s : State) : s.maySelect = true ↔
    (s.ws.state = .working ∨ (s.ws.state = .waiting ∨ s.ws.state = .finished) ∧ s.proberStatus = some .due)
    ∧ s.cs.cycle = none ∧ s.ws.selection = none ∧ s.cs.lone = none
    ∧ ¬ (s.ws.state = .working ∧ s.ws.park = .waitingForClearance)
    ∧ s.zc.left.progress ≠ .due ∧ s.zc.left.progress ≠ .retreating
    ∧ s.zc.right.progress ≠ .due ∧ s.zc.right.progress ≠ .retreating := by
  simp only [maySelect, parkOwed, quietPoint, Bool.and_eq_true, Bool.or_eq_true, Bool.not_eq_true', Bool.and_eq_false_iff,
    decide_eq_true_eq, decide_eq_false_iff_not, Option.isNone_iff_eq_none, bne_iff_ne]
  tauto

theorem datumTargets_iff (t : Int × Int) (s : State) : s.datumTargets = some t ↔ ∃ h, s.ps.header = some h
    ∧ (s.cfg.role = .a ∧ t = ((s.cfg.railOrigin : Int) + h.xA, (s.cfg.crossOrigin : Int) + h.yA)
      ∨ s.cfg.role = .b ∧ t = ((s.cfg.railOrigin : Int) + h.xB, (s.cfg.crossOrigin : Int) + h.yB)) := by
  unfold datumTargets
  cases s.cfg.role <;> cases s.ps.header <;> simp [DatumRole.datum, eq_comm]

theorem neighboursHeard_iff (s : State) : s.neighboursHeard = true
    ↔ ∀ j, (j + 1 = s.k ∧ 1 ≤ j) ∨ (j = s.k + 1 ∧ s.k < s.cfg.stations) → (s.peer j).status ≠ .unknown := by
  simp only [neighboursHeard, List.all_eq_true, decide_eq_true_eq, Setup.mem_neighbours_iff]
  rfl

theorem datumChoice_iff (refused : List Side) (t : Int × Int) (z : Option Side) (s : State) : s.datumChoice refused = some (t, z)
    ↔ s.proberStatus = some .due ∧ s.neighboursHeard = true ∧ s.pt.conflict = false ∧ s.datumTargets = some t
      ∧ z = s.zoneAt t.1 ∧ s.zoneRow refused z = true := by
  unfold datumChoice
  split
  · rename_i h
    simp only [Bool.and_eq_true, decide_eq_true_eq, Bool.not_eq_true'] at h
    obtain ⟨⟨hdue, hheard⟩, hconflict⟩ := h
    cases s.datumTargets with
    | none => simp
    | some t' =>
      dsimp only
      split
      · rename_i hrow
        simp only [hdue, hheard, hconflict, true_and, Option.some.injEq, Prod.mk.injEq]
        constructor
        · rintro ⟨rfl, rfl⟩
          exact ⟨rfl, rfl, hrow⟩
        · rintro ⟨rfl, rfl, -⟩
          exact ⟨rfl, rfl⟩
      · rename_i hrow
        refine iff_of_false nofun ?_
        rintro ⟨-, -, -, ht, rfl, hrow'⟩
        obtain rfl := Option.some.inj ht
        exact hrow hrow'
  · rename_i h
    refine iff_of_false nofun ?_
    rintro ⟨hdue, hheard, hconflict, -⟩
    simp [hdue, hheard, hconflict] at h

/-! ### The selection made (R98, R99) -/

theorem select_of_choose {refused : List Side} {s t : State} (h : s.choose refused = (t, none)) (n : Nat) :
    select (n + 1) refused s = t := by
  simp [select, h]

theorem stepSelect_of_choose {s t : State} (hmay : s.maySelect = true) (h : s.choose [] = (t, none)) : s.stepSelect = t := by
  rw [stepSelect, if_pos hmay, select_of_choose h]

theorem choose_datum {refused : List Side} {t : Int × Int} {z : Option Side} {s : State} (hd : s.datumChoice refused = some (t, z))
    (hz : s.zoneStands z = true) : s.choose refused = (s.takeDatum t z, none) := by
  unfold choose
  rw [hd]
  cases z with
  | none => rfl
  | some side => exact if_pos hz

theorem not_zoneHeld_of_free {side : Side} {s : State} (h : (s.zone side).state = .free) : s.zoneHeld side = false := by
  simp [zoneHeld, h]

theorem askSeize_free {side : Side} {s : State} (h : (s.zone side).outstanding = .no) (x : Selection) :
    s.askSeize side x = some { s.sendOutstanding side .seize .seize with ws.selection := some x } := by
  simp [askSeize, h]

theorem choose_datum_seizes {refused : List Side} {t : Int × Int} {side : Side} {s : State}
    (hd : s.datumChoice refused = some (t, some side)) (hfree : (s.zone side).state = .free) (hout : (s.zone side).outstanding = .no) :
    s.choose refused = ({ s.sendOutstanding side .seize .seize with
      ws.selection := some { work := .datum, rail := t.1, cross := t.2, zone := some side, stage := .seizeWait } }, none) := by
  simp [choose, hd, not_zoneHeld_of_free hfree, askSeize_free hout]

/-- With no datum cycle to choose, a hole: the nearest to SET before the nearest to DRILL. -/
theorem choose_hole {refused : List Side} {ch : Choice} {s : State} (hd : s.datumChoice refused = none) (hwork : s.ws.state = .working)
    (hch : s.nearest refused .set = some ch ∨ s.nearest refused .set = none ∧ s.nearest refused .drill = some ch) :
    s.choose refused = s.takeChoice ch := by
  rcases hch with hset | ⟨hset, hdrill⟩
  · simp [choose, hd, hwork, hset]
  · simp [choose, hd, hwork, hset, hdrill]

theorem takeChoice_offers {ch : Choice} {s : State} (hz : s.zoneStands ch.zone = true) : s.takeChoice ch = (s.offerClaim ch, none) := by
  unfold takeChoice
  split
  · rfl
  · rename_i side hside
    rw [hside] at hz
    exact if_pos hz

theorem takeChoice_seizes {ch : Choice} {side : Side} {s : State} (hside : ch.zone = some side) (hfree : (s.zone side).state = .free)
    (hout : (s.zone side).outstanding = .no) : s.takeChoice ch = ({ s.sendOutstanding side .seize .seize with
      ws.selection := some { work := .hole ch.claim, rail := ch.rail, cross := ch.cross, zone := ch.zone, stage := .seizeWait } },
      none) := by
  simp [takeChoice, hside, not_zoneHeld_of_free hfree, askSeize_free hout]

/-- What a SEIZE sent for a selection leaves: the frame with LC, noted as outstanding, and the hole table as it was. -/
theorem seize_sent (side : Side) (x : Selection) (s : State) :
    State.offered { s.sendOutstanding side .seize .seize with ws.selection := some x } .zc (.zone side .seize)
      ∧ (State.zone { s.sendOutstanding side .seize .seize with ws.selection := some x } side).outstanding = .seize
      ∧ (s.sendOutstanding side .seize .seize).ht = s.ht := by
  refine ⟨sendOutstanding_offered side .seize .seize s, congrArg ZoneRecord.outstanding (sendOutstanding_zone side .seize .seize s), ?_⟩
  simp [sendOutstanding, onZone, offerZone]

/-! ### The datum cycle taken, or out of reach (R29, R75) -/

/-- A DUE datum cycle within reach opens, and counts against the pending requests. -/
theorem takeDatum_opens {t : Int × Int} {s : State} (hdue : s.proberStatus = some .due) (hrail : s.cfg.withinTravel t.1 = true)
    (hcross : s.cfg.withinCross t.2 = true) (z : Option Side) :
    (s.takeDatum t z).cs.cycle = some (newCycle .datum t.1 t.2 z .moving) ∧ (s.takeDatum t z).proberStatus = some .inCycle
      ∧ (s.takeDatum t z).ws.selection = some { work := .datum, rail := t.1, cross := t.2, zone := z, stage := .inCycle }
      ∧ ∀ side, ((s.takeDatum t z).zone side).cycles
        = if (s.zone side).pending = true then min 16 ((s.zone side).cycles + 1) else (s.zone side).cycles := by
  have hprober : s.pu.prober ≠ none := by
    intro h
    simp [proberStatus, h] at hdue
  have taken : s.takeDatum t z = countCycle { s.setProber .inCycle none none with
      cs.cycle := some (newCycle .datum t.1 t.2 z .moving),
      ws.selection := some { work := .datum, rail := t.1, cross := t.2, zone := z, stage := .inCycle } } := by
    simp [takeDatum, hrail, hcross]
  rw [taken]
  refine ⟨rfl, setProber_status hprober .inCycle none none, rfl, fun side => ?_⟩
  have zone : (s.setProber .inCycle none none).zone side = s.zone side := by rw [setProber_frame]; rfl
  rw [countCycle_zone]
  show (ZoneRecord.countCycle ((s.setProber .inCycle none none).zone side)).cycles = _
  rw [zone, ZoneRecord.countCycle]
  split <;> rfl

/-- One out of reach raises DATUM FAULT and waits for its retry; nothing else changes. -/
theorem takeDatum_fails {t : Int × Int} {s : State} (hdue : s.proberStatus = some .due)
    (hreach : s.cfg.withinTravel t.1 = false ∨ s.cfg.withinCross t.2 = false) (z : Option Side) :
    (s.takeDatum t z).pu.prober = some ⟨.retryWait, some (s.clock + 10000), none⟩ ∧ (s.takeDatum t z).cs = s.cs
      ∧ (s.takeDatum t z).ws = s.ws ∧ (s.takeDatum t z).lc = s.lc
      ∧ ∀ x, s.eu.sources[4]? = some x → (s.takeDatum t z).eu.sources[4]?
        = some { pending := x.pending || decide (0 < s.levels.getD 4 0), count := min 255 (x.count + 1) } := by
  obtain ⟨p, hp, -⟩ := Option.map_eq_some_iff.mp hdue
  have failed : s.takeDatum t z = raise .datumFault { s with pu.prober := some ⟨.retryWait, some (s.clock + 10000), none⟩ } := by
    rcases hreach with h | h <;> simp [takeDatum, h, probeFailed, setProber, hp, Config.probeRetry]
  rw [failed]
  exact ⟨rfl, rfl, rfl, rfl, fun x hx => raise_source .datumFault hx⟩

end State

open State

/-- Settles O59: what may be chosen, and the one choice of `choose` that `stepSelect` makes. -/
theorem selectionRules : Obligations.SelectionRules := by
  refine ⟨fun refused phase h rail cross e s ht he P hP => ?_, setOrder_iff,
    fun refused phase l s hconcern hl => ⟨fun hnone => ?_, fun ch hch => ?_⟩,
    maySelect_iff, fun refused t z s => ⟨datumTargets_iff t s, ?_⟩, fun s => ⟨fun hnot => ?_, fun hmay => ?_⟩⟩
  · have eligible : P ↔ (s.stateRow ⟨h, phase⟩ && s.permitted rail.toNat && s.zoneRow refused (s.zoneAt rail)) = true := by
      rw [hP, Bool.and_eq_true, Bool.and_eq_true, zoneRow_iff, stateRow_iff, and_assoc]
      simp [he]
    rw [eligible_of_target ht]
    exact ⟨fun h => if_pos (eligible.mp h), fun h => if_neg (eligible.not.mp h)⟩
  · simpa [hconcern] using (nearest_none_iff refused phase s).mp hnone
  · obtain ⟨hmem, hprecedes⟩ := nearest_some hconcern hl hch
    obtain ⟨h, hh, helig⟩ := List.mem_filterMap.mp hmem
    obtain ⟨hhole, hphase⟩ := Claim.mk.inj (eligible_claim helig)
    subst hhole
    refine ⟨hphase, hh, helig, fun h hh x hx => ?_⟩
    have first := hprecedes x (List.mem_filterMap.mpr ⟨h, hh, hx⟩)
    rwa [Choice.precedes, eligible_claim hx] at first
  · rw [datumChoice_iff, neighboursHeard_iff, zoneRow_iff]
    tauto
  · exact if_neg (by simp [hnot])
  · refine ⟨fun t z hd hz hrail hcross => ?_, fun t z hd hz hreach => ?_, fun t side hd hfree hout => ?_, fun hd hwork => ?_,
      fun hd hwork ch hch => ⟨fun hz => ?_, fun side hside hfree hout => ?_⟩, fun hd hset hdrill => ?_⟩
    · rw [stepSelect_of_choose hmay (choose_datum hd hz)]
      exact takeDatum_opens ((datumChoice_iff [] t z s).mp hd).1 hrail hcross z
    · rw [stepSelect_of_choose hmay (choose_datum hd hz)]
      exact takeDatum_fails ((datumChoice_iff [] t z s).mp hd).1 hreach z
    · rw [stepSelect_of_choose hmay (choose_datum_seizes hd hfree hout)]
      obtain ⟨hoffered, hseize, -⟩ := seize_sent side _ s
      exact ⟨hoffered, hseize, rfl⟩
    · exact stepSelect_of_choose hmay (by simp [choose, hd, hwork])
    · exact stepSelect_of_choose hmay ((choose_hole hd hwork hch).trans (takeChoice_offers hz))
    · rw [stepSelect_of_choose hmay ((choose_hole hd hwork hch).trans (takeChoice_seizes hside hfree hout))]
      obtain ⟨hoffered, hseize, hht⟩ := seize_sent side _ s
      exact ⟨hoffered, hseize, hht, rfl⟩
    · exact stepSelect_of_choose hmay (by simp [choose, hd, hset, hdrill])

end Sys2Proof.Machine
end

section
/-! PROOFS. Park and retreat: a release carried out, its lone motion placed, done, ended and failed (R70, R76, R106, R113, R115, R127). -/

namespace Sys2Proof.Machine

open Sys2Proof (Byte Word Data Stamp Datum Side Instr)

namespace State

/-! ### Placing (R70, R107, R119, R127) -/

/-- With EFFECTOR READY active a command enters its transfer and COMMAND FLAG rises. -/
theorem placeCommand_ready {s : State} (h : s.effectorReady = true) (c : Command) (u : PortUser) :
    s.placeCommand c u = State.raiseFlag c.word
      { s with ep.transfer := some { command := c, user := u, rest := c.extension s.cfg.tolerance }, ep.discard := false } :=
  if_pos h

theorem motionFree_iff (s : State) : s.motionFree = true ↔ s.cs.cycle = none ∧ s.claimQueued = false := by
  simp [motionFree]

theorem not_motionFree {s : State} (h : s.cs.cycle ≠ none) : s.motionFree = false := by
  simp [motionFree, h]

theorem zoneStands_false_iff (s : State) (z : Option Side) : s.zoneStands z = false ↔
    ∃ side, z = some side ∧ ((s.zone side).state ≠ .heldOwn ∨ (s.zone side).progress ≠ .no) := by
  rw [← Bool.not_eq_true, zoneStands_iff]
  simp only [not_forall, exists_prop, not_and_or, ne_eq]

theorem withinTravel_false_iff (c : Setup) (p : Nat) : c.withinTravel p = false ↔ p < c.low ∨ c.high < p := by
  rw [← Bool.not_eq_true, Setup.withinTravel_iff]
  omega

/-- What ZC, PT and the limits say of a TRAVEL to a position (R70, R119). -/
def travelAllowed (t : Nat) (s : State) : Bool := s.cfg.withinTravel t && s.zoneStands (s.zoneAt t) && s.permitted t

theorem travelAllowed_true {t : Nat} {s : State} (hp : s.permitted t = true) (hlow : s.cfg.low ≤ t) (hhigh : t ≤ s.cfg.high)
    (hz : ∀ side, s.zoneAt t = some side → (s.zone side).state = .heldOwn ∧ (s.zone side).progress = .no) :
    s.travelAllowed t = true := by
  simp [travelAllowed, hp, (Setup.withinTravel_iff _ _).mpr ⟨hlow, hhigh⟩, (zoneStands_iff _ _).mpr hz]

theorem travelAllowed_false {t : Nat} {s : State} (h : s.permitted t = false ∨ t < s.cfg.low ∨ s.cfg.high < t
    ∨ ∃ side, s.zoneAt t = some side ∧ ((s.zone side).state ≠ .heldOwn ∨ (s.zone side).progress ≠ .no)) :
    s.travelAllowed t = false := by
  rw [← or_assoc (a := t < s.cfg.low), ← withinTravel_false_iff, ← zoneStands_false_iff] at h
  rcases h with h | h | h <;> simp [travelAllowed, h]

theorem stepPark_eq (s : State) : s.stepPark =
    if s.ws.park = .waitingForClearance && s.ws.state.active && s.motionFree && s.cs.lone.isNone
        && s.canPlace (.travel s.cfg.park) && s.travelAllowed s.cfg.park then
      State.placeCommand (.travel s.cfg.park) .lone
        { s with cs.lone := some { owner := .park, target := s.cfg.park, placed := true }, ws.park := .travelling }
    else s := by
  simp only [stepPark, travelAllowed, Bool.and_assoc]

/-- One lone motion not yet placed and not ended: its TRAVEL placed when it may be, or its record dropped. -/
theorem stepLone_unplaced {l : Lone} {s : State} (hl : s.cs.lone = some l) (he : l.ending = none) (hp : l.placed = false) :
    s.stepLone = if s.retreatMoot l then { s with cs.lone := none }
      else if s.motionFree && s.canPlace (.travel l.target) && s.travelAllowed l.target then
        State.placeCommand (.travel l.target) .lone { s with cs.lone := some { l with placed := true, stopAsked := false } }
      else s := by
  simp [stepLone, hl, he, hp, travelAllowed, Bool.and_assoc]

theorem stepPark_rests {s : State} (h : s.motionFree = false ∨ s.travelAllowed s.cfg.park = false) : s.stepPark = s := by
  rw [stepPark_eq, if_neg]
  rcases h with h | h <;> simp [h]

theorem stepPark_travels {s : State} (hpark : s.ws.park = .waitingForClearance) (hactive : s.ws.state.active = true)
    (hfree : s.motionFree = true) (hlone : s.cs.lone = none) (hcan : s.canPlace (.travel s.cfg.park) = true)
    (hready : s.effectorReady = true) (hallowed : s.travelAllowed s.cfg.park = true) :
    s.stepPark = State.raiseFlag (Command.travel s.cfg.park).word
      { s with cs.lone := some { owner := .park, target := s.cfg.park, placed := true }, ws.park := .travelling,
               ep.transfer := some { command := .travel s.cfg.park, user := .lone,
                                     rest := (Command.travel s.cfg.park).extension s.cfg.tolerance }, ep.discard := false } := by
  rw [stepPark_eq, if_pos (by simp [hpark, hactive, hfree, hlone, hcan, hallowed]), placeCommand_ready]
  · rfl
  · exact hready

theorem stepLone_withCycle {l : Lone} {s : State} (hcy : s.cs.cycle ≠ none) (hl : s.cs.lone = some l) (he : l.ending = none)
    (hp : l.placed = false) : s.stepLone.ep = s.ep := by
  rw [stepLone_unplaced hl he hp, not_motionFree hcy]
  split <;> rfl

theorem stepLone_waits {l : Lone} {s : State} (hl : s.cs.lone = some l) (he : l.ending = none) (hp : l.placed = false)
    (hmoot : s.retreatMoot l = false) (h : s.travelAllowed l.target = false) : s.stepLone = s := by
  simp [stepLone_unplaced hl he hp, hmoot, h]

theorem stepLone_travels {l : Lone} {s : State} (hl : s.cs.lone = some l) (he : l.ending = none) (hp : l.placed = false)
    (hmoot : s.retreatMoot l = false) (hfree : s.motionFree = true) (hcan : s.canPlace (.travel l.target) = true)
    (hready : s.effectorReady = true) (hallowed : s.travelAllowed l.target = true) :
    s.stepLone = State.raiseFlag (Command.travel l.target).word
      { s with cs.lone := some { l with placed := true, stopAsked := false },
               ep.transfer := some { command := .travel l.target, user := .lone,
                                     rest := (Command.travel l.target).extension s.cfg.tolerance }, ep.discard := false } := by
  rw [stepLone_unplaced hl he hp, hmoot, if_neg Bool.false_ne_true, if_pos (by simp [hfree, hcan, hallowed]), placeCommand_ready]
  · rfl
  · exact hready

/-! ### A lone motion ended early (R115, R127) -/

theorem stepLone_ended {l : Lone} {s : State} (hl : s.cs.lone = some l) (he : l.ending ≠ none) (ht : s.ep.transfer = none) :
    s.stepLone = if s.motionStream then
        if s.ep.stopped = .no && s.canPlace .stopMotion then s.placeCommand .stopMotion .lone else s
      else { s with cs.lone := none } := by
  simp [stepLone, hl, Option.isSome_iff_ne_none.mpr he, ht]

/-! ### DONE of a lone motion's TRAVEL (R106, R114, R127) -/

theorem acceptReport_lone_done {o : OpenStream} (h : o.user = .lone) (d : Data) (s : State) :
    s.acceptReport o d .done = (s.doneClosed o).loneDone s.motionStopped := by
  show s.doneCloses o = _
  rw [doneCloses_eq, h]

theorem doneClosed_cs (o : OpenStream) (s : State) : (s.doneClosed o).cs = s.cs := by rw [doneClosed_frame]

theorem doneClosed_zone (o : OpenStream) (s : State) (side : Side) : (s.doneClosed o).zone side = s.zone side := by
  rw [doneClosed_frame]
  rfl

theorem loneDone_running {l : Lone} {s : State} (hl : s.cs.lone = some l) (he : l.ending = none) (stopped : Bool) :
    s.loneDone stopped = match l.owner, stopped with
      | .retreat side, false => State.retreatDone side { s with cs.lone := none }
      | .retreat _, true => { s with cs.lone := some { l with placed := false, stopAsked := false } }
      | .park, false => { s with cs.lone := none, ws.park := .no }
      | .park, true => { s with cs.lone := none, ws.park := .waitingForClearance } := by
  unfold loneDone
  rw [hl]
  simp only [he, Option.isSome_none, Bool.false_eq_true, if_false] <;> rfl

/-- A RELEASE offered for a zone that is being left (R76). -/
def released (side : Side) (s : State) : State := (s.offerZone side .release).onZone side fun z => { z with progress := .sent }

theorem released_sent (side : Side) (s : State) : ((s.released side).zone side).progress = .sent := by
  simp [released]

theorem released_offered (side : Side) (s : State) : (s.released side).offered .zc (.zone side .release) := by
  have h : (s.released side).lc = (s.offerZone side .release).lc := by cases side <;> rfl
  unfold offered
  rw [h]
  exact offer_offered .zc (.zone side .release) s

theorem released_cs (side : Side) (s : State) : (s.released side).cs = s.cs := by
  have h : (s.released side).cs = (s.offerZone side .release).cs := by cases side <;> rfl
  exact h.trans (offer_cs ..)

theorem retreatDone_releases {side : Side} {s : State} (hz : (s.zone side).state = .heldOwn)
    (hp : (s.zone side).progress = .retreating) : s.retreatDone side = s.released side := by
  simp [retreatDone, hz, hp, released]

/-! ### A release carried out (R70, R76, R82, R127) -/

/-- The carriage stands in a zone, or its TRAVEL in progress goes there. -/
def onZoneGround (lo hi : Nat) (s : State) : Prop := (lo ≤ s.own ∧ s.own ≤ hi) ∨ ∃ t, s.travelTarget = some t ∧ lo ≤ t ∧ t ≤ hi

section
variable {side : Side} {lo hi : Nat} {s : State} (hz : (s.zone side).state = .heldOwn) (hp : (s.zone side).progress = .due)
  (hb : (s.zone side).bounds = some (lo, hi)) (hcy : s.cs.cycle = none)

include hb in
theorem onZoneGround_iff : (within (s.zone side).bounds s.own || ((s.travelTarget.map fun t => within (s.zone side).bounds t).getD false))
    = true ↔ s.onZoneGround lo hi := by
  rw [hb]
  cases h : s.travelTarget <;> simp [onZoneGround, within_some_iff, h]

include hz hp hb hcy

theorem carryRelease_outside (h : ¬ s.onZoneGround lo hi) : s.carryRelease side = s.released side := by
  have houtside := Bool.eq_false_of_not_eq_true (mt (onZoneGround_iff hb).mp h)
  unfold carryRelease
  dsimp only
  rw [hz, hp, hcy, houtside]
  rfl

theorem carryRelease_inside (h : s.onZoneGround lo hi) : s.carryRelease side = if s.cs.lone.isNone && s.motionFree then
    match s.retreatTarget side with
    | none => s
    | some t => State.onZone side (fun z => { z with progress := .retreating })
        { s with cs.lone := some { owner := .retreat side, target := t } }
    else s := by
  unfold carryRelease
  dsimp only
  rw [hz, hp, hcy, (onZoneGround_iff hb).mpr h]
  rfl

theorem carryRelease_waits (h : s.onZoneGround lo hi) (hno : s.cs.lone ≠ none ∨ s.claimQueued = true) : s.carryRelease side = s := by
  rw [carryRelease_inside hz hp hb hcy h, if_neg]
  rcases hno with hno | hno <;> simp [hno, motionFree]

theorem carryRelease_retreats (h : s.onZoneGround lo hi) (hl : s.cs.lone = none) (hq : s.claimQueued = false) {t : Nat}
    (ht : s.retreatTarget side = some t) :
    (s.carryRelease side).cs.lone = some { owner := .retreat side, target := t }
    ∧ ((s.carryRelease side).zone side).progress = .retreating := by
  rw [carryRelease_inside hz hp hb hcy h, if_pos (by simp [hl, hq, hcy, motionFree]), ht]
  refine ⟨?_, ?_⟩
  · cases side <;> rfl
  · rw [onZone_zone]

theorem carryRelease_stays (h : s.onZoneGround lo hi) (ht : s.retreatTarget side = none) : s.carryRelease side = s := by
  rw [carryRelease_inside hz hp hb hcy h, ht]
  split <;> rfl

end

/-! ### The retreat's target (R76) -/

/-- A position a retreat from a zone may take: within the limits, outside both zones, on the zone's far side from its end of the rail,
and permitted. -/
structure RetreatPlace (side : Side) (lo hi : Nat) (s : State) (t : Nat) : Prop where
  low : s.cfg.low ≤ t
  high : t ≤ s.cfg.high
  outside : s.zoneAt t = none
  far : side = .left ∧ hi < t ∨ side = .right ∧ t < lo
  permitted : s.permitted t = true

/-- The position next to a zone on its far side from its end of the rail. -/
def besideZone (lo hi : Nat) : Side → Nat
  | .left => hi + 1
  | .right => lo - 1

theorem zoneAt_none_iff (s : State) (x : Int) : s.zoneAt x = none ↔ ∀ side, within (s.zone side).bounds x = false := by
  refine ⟨fun h side => zoneAt_none h side, fun h => ?_⟩
  have hl : within s.zc.left.bounds x = false := h .left
  have hr : within s.zc.right.bounds x = false := h .right
  simp [zoneAt, hl, hr]

theorem not_within_iff (b : Option (Nat × Nat)) (x : Nat) : within b x = false ↔ ∀ lo hi, b = some (lo, hi) → x < lo ∨ hi < x := by
  cases b with
  | none => simp [within]
  | some b =>
    rw [← Bool.not_eq_true, within_some_iff]
    simp only [Option.some.injEq]
    refine ⟨fun h lo hi e => ?_, fun h => ?_⟩
    · subst e
      dsimp only at h
      omega
    · have := h b.1 b.2 rfl
      omega

/-- A shorter path the same way keeps the gap that the longer one keeps (R64, R65). -/
theorem permitted_of_between {s : State} {t x : Nat} (h : s.permitted t = true) (hx : s.own ≤ x ∧ x ≤ t ∨ t ≤ x ∧ x ≤ s.own) :
    s.permitted x = true := by
  rw [permitted_iff] at h ⊢
  intro j hj
  obtain ⟨i, hi, hgap⟩ := h j hj
  refine ⟨i, hi, hgap.imp_right (Or.imp (fun h => ?_) fun h => ?_)⟩ <;> omega

section
variable {side : Side} {lo hi t : Nat} {s : State} (hb : (s.zone side).bounds = some (lo, hi)) (hlo : lo ≤ s.own) (hhi : s.own ≤ hi)
include hb hlo hhi

/-- The model's target is the position beside the zone, where a retreat may take it. -/
theorem retreatTarget_some (h : s.RetreatPlace side lo hi (besideZone lo hi side)) :
    s.retreatTarget side = some (besideZone lo hi side) := by
  have hwithin := (Setup.withinTravel_iff _ _).mpr ⟨h.low, h.high⟩
  have hout := h.outside
  have hperm := h.permitted
  have hfar := h.far
  unfold retreatTarget
  rw [hb]
  cases side with
  | left =>
    simp only [besideZone] at *
    rw [Nat.max_eq_right (by omega), hwithin, hout, hperm]
    rfl
  | right =>
    simp only [besideZone] at *
    rw [if_neg (by omega), Nat.min_eq_right (by omega), hwithin, hout, hperm]
    rfl

theorem retreatPlace_of_target (h : s.retreatTarget side = some t) : s.RetreatPlace side lo hi t := by
  unfold retreatTarget at h
  rw [hb] at h
  cases side with
  | left =>
    dsimp only at h
    rw [Nat.max_eq_right (by omega)] at h
    split at h
    · rename_i hok
      obtain rfl := Option.some.inj h
      simp only [Bool.and_eq_true, Setup.withinTravel_iff, Option.isNone_iff_eq_none] at hok
      obtain ⟨⟨⟨hlow, hhigh⟩, hout⟩, hperm⟩ := hok
      exact ⟨hlow, hhigh, hout, .inl ⟨rfl, by omega⟩, hperm⟩
    · cases h
  | right =>
    dsimp only at h
    rw [Nat.min_eq_right (by omega)] at h
    split at h
    · cases h
    split at h
    · rename_i hok
      obtain rfl := Option.some.inj h
      simp only [Bool.and_eq_true, Setup.withinTravel_iff, Option.isNone_iff_eq_none] at hok
      obtain ⟨⟨⟨hlow, hhigh⟩, hout⟩, hperm⟩ := hok
      exact ⟨hlow, hhigh, hout, .inr ⟨rfl, by omega⟩, hperm⟩
    · cases h

/-- Where a retreat may take any position, it may take the one beside the zone: the zones reach to the travel limits, so that nothing
lies between but what is outside both. -/
theorem RetreatPlace.beside (h : s.RetreatPlace side lo hi t) (hleft : ∀ b, s.zc.left.bounds = some b → b.1 = s.cfg.low)
    (hright : ∀ b, s.zc.right.bounds = some b → b.2 = s.cfg.high) : s.RetreatPlace side lo hi (besideZone lo hi side) := by
  have hlow := h.low
  have hhigh := h.high
  have hout := fun z => (not_within_iff _ t).mp ((zoneAt_none_iff _ _).mp h.outside z)
  have outside : ∀ x : Nat, (∀ z lo hi, (s.zone z).bounds = some (lo, hi) → x < lo ∨ hi < x) → s.zoneAt x = none :=
    fun x hx => (zoneAt_none_iff _ _).mpr fun z => (not_within_iff _ x).mpr (hx z)
  cases side with
  | left =>
    have hfar : hi < t := by simpa using h.far
    have hend : lo = s.cfg.low := hleft _ hb
    refine ⟨by simp only [besideZone]; omega, by simp only [besideZone]; omega, outside _ fun z a b hab => ?_,
      .inl ⟨rfl, by simp [besideZone]⟩, permitted_of_between h.permitted (.inl ⟨by simp only [besideZone]; omega, hfar⟩)⟩
    cases z with
    | left =>
      obtain ⟨rfl, rfl⟩ := Prod.mk.inj (Option.some.inj (hb.symm.trans hab))
      exact .inr (Nat.lt_succ_self _)
    | right =>
      have hrest := hout .right a b hab
      have hreach : b = s.cfg.high := hright _ hab
      simp only [besideZone]
      omega
  | right =>
    have hfar : t < lo := by simpa using h.far
    have hend : hi = s.cfg.high := hright _ hb
    refine ⟨by simp only [besideZone]; omega, by simp only [besideZone]; omega, outside _ fun z a b hab => ?_,
      .inr ⟨rfl, by simp only [besideZone]; omega⟩,
      permitted_of_between h.permitted (.inr ⟨by simp only [besideZone]; omega, by simp only [besideZone]; omega⟩)⟩
    cases z with
    | left =>
      have hrest := hout .left a b hab
      have hreach : a = s.cfg.low := hleft _ hab
      simp only [besideZone]
      omega
    | right =>
      obtain ⟨rfl, rfl⟩ := Prod.mk.inj (Option.some.inj (hb.symm.trans hab))
      exact .inl (by simp only [besideZone]; omega)

/-- A position no farther than the one beside the zone, on the same side of it, is that one. -/
theorem RetreatPlace.eq_beside (h : s.RetreatPlace side lo hi t)
    (hnear : max t s.own - min t s.own ≤ max (besideZone lo hi side) s.own - min (besideZone lo hi side) s.own) :
    t = besideZone lo hi side := by
  have hfar := h.far
  cases side <;> simp [besideZone] at * <;> omega

end

/-! ### A motion's TRAVEL failed (R113, R127, R167, R170) -/

/-- No lone motion, and no park pending if the park was its owner. -/
def loneGone (l : Lone) (s : State) : Prop := s.cs.lone = none ∧ (l.owner = .park → s.ws.park = .no)

theorem takeEnding_lone (cause : EndCause) (through : Bool) (s : State) : (s.takeEnding cause through).cs.lone = s.cs.lone := by
  unfold takeEnding
  split
  · rfl
  · split
    · rfl
    · dsimp only
      split
      · rfl
      · split
        · rw [giveUpIntent_cs]
        · rfl

theorem cycleFails_lone (placed : List Command) (s : State) : (s.cycleFails placed).cs.lone = s.cs.lone := by
  unfold cycleFails
  extract_lets drilling t
  have ht : t.cs = s.cs := by
    simp only [t]
    split <;> rfl
  rw [← ht]
  split
  · rfl
  · split
    · split
      · rfl
      · split
        · rw [squeezeEnds_cs]
        all_goals rfl
    · rfl

theorem loneFails_gone {l : Lone} {s : State} (hl : s.cs.lone = some l) (hp : l.placed = true) : loneGone l s.loneFails := by
  unfold loneFails
  rw [hl]
  dsimp only
  rw [if_pos hp]
  split
  · exact ⟨rfl, fun _ => rfl⟩
  · rename_i hno
    exact ⟨rfl, fun h => absurd h hno⟩

theorem giveUpIntent_park (s : State) : s.giveUpIntent.ws.park = s.ws.park := by
  unfold giveUpIntent
  split
  case h_3 =>
    dsimp only
    split
    · exact congrArg (·.ws.park) (removeFrame_linkStep _ s).frame
    · rfl
  case h_4 | h_5 | h_6 => exact congrArg (·.ws.park) (offer_linkStep .du (.draw .withdraw 0 s.du.own.hole) (s.setDraw s.k none)).frame
  all_goals rfl

theorem endLone_none (how : LoneEnd) {s : State} (h : s.cs.lone = none) : (s.endLone how).cs.lone = none := by
  rw [endLone, h]
  exact h

theorem enterFaulted_gone {l : Lone} {s : State} (h : loneGone l s) (src : FaultSource) : loneGone l (s.enterFaulted src) := by
  by_cases hs : s.faultable
  · have hpark : ∀ t : State, t.giveUpZones.ws.park = t.ws.park := fun t =>
      (congrArg (·.ws.park) (giveUpZone_linkStep .right _).frame).trans (congrArg (·.ws.park) (giveUpZone_linkStep .left t).frame)
    have hlone : (s.faultEntered src).cs.lone = none := endLone_none _ ((takeEnding_lone ..).trans h.1)
    rw [enterFaulted_eq hs]
    refine ⟨?_, fun _ => ?_⟩
    · rw [giveUpIntent_cs, giveUpZones_cs]
      exact (congrArg (·.lone) (dropSelection_cs _)).trans hlone
    · rw [giveUpIntent_park, hpark]
  · rwa [enterFaulted_rests src hs]

theorem enterHalted_gone {l : Lone} {s : State} (h : loneGone l s) (src : FaultSource) : loneGone l (s.enterHalted src) := by
  by_cases hs : s.ws.state.online = true
  · rw [enterHalted_eq hs]
    have howed := offerOwed_linkStep (State.setWork .halted (s.haltStopped src).linkHalt.noZones)
    have hlink := noZones_linkStep (s.haltStopped src).linkHalt
    refine ⟨?_, fun _ => ?_⟩
    · rw [howed.cs, setWork_cs, hlink.cs]
      rfl
    · exact (congrArg (·.ws.park) howed.frame).trans (congrArg (·.ws.park) hlink.frame)
  · have hrests : s.enterHalted src = s := by
      unfold enterHalted
      split <;> simp_all [WorkState.online]
    rwa [hrests]

/-- A failure at the port with a stream open fails the lone motion of its TRAVEL, whichever state the fault takes the station to. -/
theorem portFails_gone {o : OpenStream} {l : Lone} {s : State} (ho : s.ep.stream = some o) (hl : s.cs.lone = some l)
    (hp : l.placed = true) (kind : FailKind) : loneGone l (s.portFails kind none) := by
  have hunder : ((s.ep.transfer.map (·.command)).toList ++ (s.ep.stream.map (·.command)).toList
      ++ (none : Option Command).toList).isEmpty = false := by
    rw [ho]
    cases s.ep.transfer <;> rfl
  have hfails : ∀ placed, loneGone l ((s.closeFailed.cycleFails placed).loneFails.raise .effectorFault) := fun placed =>
    loneFails_gone ((cycleFails_lone placed _).trans (by rw [closeFailed_frame, hl])) hp
  unfold portFails effectorFault
  dsimp only
  rw [hunder, if_neg Bool.false_ne_true]
  split
  · exact enterHalted_gone (hfails _) _
  · exact enterFaulted_gone (hfails _) _

/-! ### The clauses assembled -/

section
variable {o : OpenStream} {l : Lone} {t : Nat} {s : State} (hl : s.cs.lone = some l) (he : l.ending = none) (hu : o.user = .lone)
include hl he hu

theorem done_eq (d : Data) : s.acceptReport o d .done = match l.owner, s.motionStopped with
    | .retreat side, false => State.retreatDone side { s.doneClosed o with cs.lone := none }
    | .retreat _, true => { s.doneClosed o with cs.lone := some { l with placed := false, stopAsked := false } }
    | .park, false => { s.doneClosed o with cs.lone := none, ws.park := .no }
    | .park, true => { s.doneClosed o with cs.lone := none, ws.park := .waitingForClearance } := by
  rw [acceptReport_lone_done hu, loneDone_running ((congrArg (·.lone) (doneClosed_cs o s)).trans hl) he]

theorem park_done (hc : o.command = .travel t) (hown : l.owner = .park) (hgoes : s.motionStopped = false) (d : Data) :
    (s.acceptReport o d .done).cs.lone = none ∧ (s.acceptReport o d .done).ws.park = .no
    ∧ (s.acceptReport o d .done).ep.ownPos = some t := by
  have hpos := (doneClosed_travel hc s).1
  rw [hgoes, if_neg Bool.false_ne_true] at hpos
  rw [done_eq hl he hu, hown, hgoes]
  exact ⟨rfl, rfl, hpos⟩

theorem park_stopped (hown : l.owner = .park) (hstopped : s.motionStopped = true) (d : Data) :
    (s.acceptReport o d .done).cs.lone = none ∧ (s.acceptReport o d .done).ws.park = .waitingForClearance := by
  rw [done_eq hl he hu, hown, hstopped]
  exact ⟨rfl, rfl⟩

theorem retreat_done {side : Side} (hown : l.owner = .retreat side) (hgoes : s.motionStopped = false)
    (hz : (s.zone side).state = .heldOwn) (hp : (s.zone side).progress = .retreating) (d : Data) :
    (s.acceptReport o d .done).cs.lone = none ∧ ((s.acceptReport o d .done).zone side).progress = .sent
    ∧ (s.acceptReport o d .done).offered .zc (.zone side .release) := by
  have hzone : State.zone { s.doneClosed o with cs.lone := none } side = s.zone side := doneClosed_zone o s side
  rw [done_eq hl he hu, hown, hgoes]
  dsimp only
  rw [retreatDone_releases (hzone ▸ hz) (hzone ▸ hp)]
  exact ⟨congrArg (·.lone) (released_cs ..), released_sent .., released_offered ..⟩

theorem retreat_stopped {side : Side} (hown : l.owner = .retreat side) (hstopped : s.motionStopped = true) (d : Data) :
    (s.acceptReport o d .done).cs.lone = some { l with placed := false, stopAsked := false } := by
  rw [done_eq hl he hu, hown, hstopped]

end

end State

open State in
/-- Settles O58: each clause from the equations of placing, DONE, ending, carrying out a release and failing; the retreat's target is
the position beside the zone, which every other place for a retreat leaves permitted and nearer. -/
theorem loneMotions : Obligations.LoneMotions := by
  refine ⟨fun s hcy => ⟨stepPark_rests (.inl (not_motionFree hcy)), fun l hl he hp => stepLone_withCycle hcy hl he hp⟩,
    fun s hpark hactive hcy hl hq hcan hready => ⟨fun hperm hlow hhigh hz => ?_, fun hno => stepPark_rests (.inr (travelAllowed_false hno))⟩,
    fun l side s hl hown he hp hcy hq hretreats hcan hready hlow hhigh => ?_,
    fun o d l t s hl he hu hc => ⟨fun hown hgoes => park_done hl he hu hc hown hgoes d,
      fun hown hstopped => park_stopped hl he hu hown hstopped d,
      fun side hown hgoes hz hp => retreat_done hl he hu hown hgoes hz hp d,
      fun side hown hstopped => retreat_stopped hl he hu hown hstopped d⟩,
    fun how l s hl => ⟨fun he hp => by simp [endLone, hl, he, hp], fun he hp => by simp [endLone, hl, he, hp],
      fun he => by simp [endLone, hl, Option.isSome_iff_ne_none.mpr he]⟩,
    fun l s hl he ht => ⟨fun hm hstopped hcan hready => ?_, fun hstream => ?_⟩,
    fun side lo hi s hz hp hb hcy => ⟨fun hout htravel => ?_, fun hlo hhi hl hq hleft hright P hP => ?_, fun h hno =>
      carryRelease_waits hz hp hb hcy h hno⟩,
    fun kind o l s ho hl hp => portFails_gone ho hl hp kind⟩
  · rw [stepPark_travels hpark hactive ((motionFree_iff s).mpr ⟨hcy, hq⟩) hl hcan hready (travelAllowed_true hperm hlow hhigh hz)]
    exact ⟨rfl, rfl, rfl, _, rfl, rfl, rfl⟩
  · have hmoot : s.retreatMoot l = false := by simp [retreatMoot, hown, hretreats]
    refine ⟨fun hperm hz => ?_, fun hno => stepLone_waits hl he hp hmoot (travelAllowed_false (hno.imp_right (.inr ∘ .inr)))⟩
    rw [stepLone_travels hl he hp hmoot ((motionFree_iff s).mpr ⟨hcy, hq⟩) hcan hready (travelAllowed_true hperm hlow hhigh hz)]
    exact ⟨rfl, _, rfl, rfl, rfl⟩
  · rw [stepLone_ended hl he ht, if_pos hm, if_pos (by simp [hstopped, hcan]), placeCommand_ready hready]
    exact ⟨rfl, rfl⟩
  · rw [stepLone_ended hl he ht, if_neg (by simp [motionStream, hstream])]
  · have h : ¬ s.onZoneGround lo hi := by
      rintro (h | ⟨t, ht, h⟩)
      · omega
      · have := htravel t ht
        omega
    rw [carryRelease_outside hz hp hb hcy h]
    exact ⟨released_offered side s, released_sent side s⟩
  · have hin : s.onZoneGround lo hi := .inl ⟨hlo, hhi⟩
    have place : ∀ t, P t ↔ s.RetreatPlace side lo hi t := fun t => (hP t).trans
      ⟨fun ⟨hlow, hhigh, hout, hfar, hperm⟩ => ⟨hlow, hhigh, hout, hfar, hperm⟩,
       fun h => ⟨h.low, h.high, h.outside, h.far, h.permitted⟩⟩
    refine ⟨fun t ht hnearest => ?_, fun hnone => ?_⟩
    · have hbeside := ((place t).mp ht).beside hb hlo hhi hleft hright
      obtain rfl := ((place t).mp ht).eq_beside hb hlo hhi (hnearest _ ((place _).mpr hbeside))
      exact carryRelease_retreats hz hp hb hcy hin hl hq (retreatTarget_some hb hlo hhi hbeside)
    · refine carryRelease_stays hz hp hb hcy hin (Option.eq_none_iff_forall_ne_some.mpr fun t ht => ?_)
      exact hnone t ((place t).mpr (retreatPlace_of_target hb hlo hhi ht))

end Sys2Proof.Machine
end

section
/-! PROOFS. What a frame cycle start sets back: LC's frames, the zones, and the rest of the table (R52, R84, R85, R88, R128, R148). -/

namespace Sys2Proof.Machine

open Sys2Proof (Byte Word Data Stamp Datum Side Instr)

namespace State

/-! ### What admission leaves of LC's record (R49) -/


/-- LC's record but for its frames and the next name. -/
def linkRest (s : State) : LinkController := { s.lc with queue := [], held := [], nextId := 0 }

theorem queueOwed_linkRest (h : Nat) (s : State) : (s.queueOwed h).linkRest = s.linkRest := by
  unfold queueOwed
  split
  · rfl
  · dsimp only
    rw [linkRest, putEntry_lc]
    rfl

theorem admitOne_linkRest (s : State) : s.admitOne.linkRest = s.linkRest := by
  unfold admitOne
  split
  · split
    · rfl
    · dsimp only
      split
      · split
        · exact queueOwed_linkRest _ _
        · rfl
      · rfl
  · rfl

theorem admitHeld_linkRest (s : State) : s.admitHeld.linkRest = s.linkRest :=
  repeatState_keeps (P := fun t => t.linkRest = s.linkRest) (fun t ht => (admitOne_linkRest t).trans ht) _ s rfl

/-- The same frames wait with LC, and none of them is HT's place for a correction owed. -/
def SameFrames (s t : State) : Prop :=
  (∀ f, f ∈ t.lc.queue ++ t.lc.held ↔ f ∈ s.lc.queue ++ s.lc.held) ∧ ∀ f ∈ t.lc.held, f.body ≠ .owed

theorem admitOne_frames {s : State} (h : ∀ f ∈ s.lc.held, f.body ≠ .owed) : SameFrames s s.admitOne := by
  unfold admitOne
  split
  · split
    · exact ⟨fun _ => .rfl, h⟩
    · rename_i f hf
      have hheld := nextHeld_mem hf
      have hno := h f hheld
      dsimp only
      split
      · contradiction
      · refine ⟨fun g => ?_, fun g hg => h g (List.mem_of_mem_erase hg)⟩
        simp only [List.mem_append, mem_insertByClass]
        by_cases heq : g = f
        · simp [heq, hheld]
        · simp [heq, List.mem_erase_of_ne heq]
  · exact ⟨fun _ => .rfl, h⟩

/-- Without a correction owed LC's admission moves frames and makes none. -/
theorem admitHeld_frames {s : State} (h : ∀ f ∈ s.lc.held, f.body ≠ .owed) : SameFrames s s.admitHeld :=
  repeatState_keeps (P := SameFrames s) (fun _ ht => by
    obtain ⟨hframes, howed⟩ := admitOne_frames ht.2
    exact ⟨fun f => (hframes f).trans (ht.1 f), howed⟩) _ s ⟨fun _ => .rfl, h⟩

/-- A frame marked void waits as it did. -/
theorem voidInFlight_frames (p : Body → Bool) (s : State) : (s.voidInFlight p).lc.held = s.lc.held
    ∧ ∃ g : TxFrame → TxFrame, (∀ f, (g f).id = f.id ∧ (g f).owner = f.owner ∧ (g f).body = f.body)
      ∧ (s.voidInFlight p).lc.queue = s.lc.queue.map g := by
  unfold voidInFlight
  split
  · split
    · refine ⟨rfl, _, fun f => ?_, rfl⟩
      split <;> exact ⟨rfl, rfl, rfl⟩
    · exact ⟨rfl, id, fun _ => ⟨rfl, rfl, rfl⟩, (List.map_id _).symm⟩
  · exact ⟨rfl, id, fun _ => ⟨rfl, rfl, rfl⟩, (List.map_id _).symm⟩

theorem voidInFlight_linkRest (p : Body → Bool) (s : State) :
    (s.voidInFlight p).linkRest = { s.linkRest with attempt := (s.voidInFlight p).lc.attempt } := by
  unfold voidInFlight
  split
  · split <;> rfl
  · rfl

theorem voidInFlight_zc (p : Body → Bool) (s : State) : (s.voidInFlight p).zc = s.zc := by
  unfold voidInFlight
  split
  · split <;> rfl
  · rfl

theorem voidInFlight_offered (p : Body → Bool) (o : Owner) (b : Body) (s : State) :
    (s.voidInFlight p).offered o b ↔ s.offered o b := by
  obtain ⟨hheld, g, hg, hqueue⟩ := voidInFlight_frames p s
  simp only [offered, hheld, hqueue, List.mem_append, List.mem_map, or_and_right, exists_or]
  refine or_congr ⟨?_, ?_⟩ .rfl
  · rintro ⟨_, ⟨f, hf, rfl⟩, howner, hbody⟩
    exact ⟨f, hf, (hg f).2.1.symm.trans howner, (hg f).2.2.symm.trans hbody⟩
  · rintro ⟨f, hf, howner, hbody⟩
    exact ⟨g f, ⟨f, hf, rfl⟩, (hg f).2.1.trans howner, (hg f).2.2.trans hbody⟩

/-! ### LC at a frame cycle start (R52) -/

def zoneFrame : Body → Bool
  | .zone .. => true
  | _ => false

def datumFrame : Body → Bool
  | .datum .. => true
  | _ => false

theorem zoneFrame_iff (b : Body) : zoneFrame b = true ↔ ∃ side a, b = .zone side a := by
  cases b <;> simp [zoneFrame]

/-- Every frame but the ZONE frames is gone (R52). -/
def zoneFramesOnly (s : State) : State :=
  { s with lc.queue := s.lc.queue.filter fun f => zoneFrame f.body, lc.held := s.lc.held.filter fun f => zoneFrame f.body }

theorem linkFrameStart_eq (s : State) : s.linkFrameStart = (s.voidInFlight datumFrame).zoneFramesOnly.admitHeld := rfl

theorem mem_zoneFramesOnly (f : TxFrame) (s : State) : f ∈ s.zoneFramesOnly.lc.queue ++ s.zoneFramesOnly.lc.held
    ↔ f ∈ s.lc.queue ++ s.lc.held ∧ zoneFrame f.body = true := by
  simp only [zoneFramesOnly, List.mem_append, List.mem_filter, or_and_right]

theorem mem_linkFrameStart (f : TxFrame) (s : State) : f ∈ s.linkFrameStart.lc.queue ++ s.linkFrameStart.lc.held
    ↔ f ∈ (s.voidInFlight datumFrame).lc.queue ++ (s.voidInFlight datumFrame).lc.held ∧ zoneFrame f.body = true := by
  have hno : ∀ g ∈ (s.voidInFlight datumFrame).zoneFramesOnly.lc.held, g.body ≠ .owed := fun g hg howed => by
    have hzone := ((mem_zoneFramesOnly g _).mp (List.mem_append_right _ hg)).2
    rw [howed] at hzone
    cases hzone
  rw [linkFrameStart_eq, (admitHeld_frames hno).1 f, mem_zoneFramesOnly]

theorem linkFrameStart_zoneFrames (s : State) : ∀ f ∈ s.linkFrameStart.lc.queue ++ s.linkFrameStart.lc.held, ∃ side a, f.body = .zone side a :=
  fun f hf => (zoneFrame_iff _).mp ((mem_linkFrameStart f s).mp hf).2

/-- The ZONE frames that wait are those that waited. -/
theorem linkFrameStart_offered (side : Side) (a : ZoneAction) (s : State) :
    s.linkFrameStart.offered .zc (.zone side a) ↔ s.offered .zc (.zone side a) := by
  rw [← voidInFlight_offered datumFrame .zc (.zone side a) s]
  unfold offered
  refine exists_congr fun f => ?_
  rw [mem_linkFrameStart, and_assoc]
  refine and_congr_right fun _ => ⟨fun ⟨_, h⟩ => h, fun h => ⟨?_, h⟩⟩
  rw [h.2]
  rfl

theorem linkFrameStart_linkRest (s : State) :
    s.linkFrameStart.linkRest = { s.linkRest with attempt := (s.voidInFlight datumFrame).lc.attempt } := by
  rw [linkFrameStart_eq, admitHeld_linkRest]
  exact voidInFlight_linkRest datumFrame s

theorem linkFrameStart_zc (s : State) : s.linkFrameStart.zc = s.zc := by
  rw [linkFrameStart_eq, admitHeld_zc]
  exact voidInFlight_zc datumFrame s

/-! ### The zones set back (R79, R84, R85) -/

/-- What the state of a zone set back is taken from: the neighbour, the setup, the plan and the zone's record. -/
structure SameGround (side : Side) (s t : State) : Prop where
  pt : t.pt = s.pt
  setup : t.setup = s.setup
  ps : t.ps = s.ps
  zone : t.zone side = s.zone side

theorem LinkStep.sameGround {side : Side} {s t : State} (h : LinkStep s t) (hz : t.zone side = s.zone side) : SameGround side s t :=
  ⟨h.pt, h.setup, h.ps, hz⟩

theorem SameGround.sideInfo {side : Side} {s t : State} (h : SameGround side s t) : t.sideInfo side = s.sideInfo side := by
  unfold State.sideInfo State.cfg State.peer
  rw [h.pt, h.setup]

theorem SameGround.zoneCleared {side : Side} {s t u : State} (h : SameGround side s t) (hc : t.zoneCleared u side) :
    s.zoneCleared u side := by
  have hplan : t.planDiffers side = s.planDiffers side := by
    unfold State.planDiffers State.planCheck
    rw [h.sideInfo, h.ps]
  have hinside : t.neighbourInside side = s.neighbourInside side := by
    unfold State.neighbourInside
    rw [h.sideInfo, h.zone]
  unfold State.zoneCleared at hc ⊢
  rw [h.zone, h.sideInfo, hplan, hinside] at hc
  exact hc

theorem zoneCleared_of_zone {side : Side} {s u v : State} (hz : v.zone side = u.zone side) (h : s.zoneCleared u side) :
    s.zoneCleared v side := by
  unfold zoneCleared
  rw [hz]
  exact h

theorem resetZone_noZone {side : Side} {s : State} (h : (s.zone side).state = .noZone) : s.resetZone side = s := if_pos h

theorem resetZone_zone {side : Side} {s : State} (h : (s.zone side).state ≠ .noZone) :
    (s.resetZone side).zone side = { state := s.firstState side, bounds := (s.zone side).bounds } := by
  rw [resetZone, if_neg h, putZone_zone]

theorem resetZone_zone_other {side other : Side} (h : other ≠ side) (s : State) : (s.resetZone side).zone other = s.zone other := by
  unfold resetZone
  dsimp only
  split
  · rfl
  · exact putZone_zone_other h _ s

theorem resetZone_cleared (side : Side) (s : State) : s.zoneCleared (s.resetZone side) side := by
  refine ⟨fun h => by rw [resetZone_noZone h, h], fun i h hi => ?_⟩
  rw [resetZone_zone h, (firstState_rests hi).1]

theorem resetZone_notHeld (side : Side) (s : State) : ((s.resetZone side).zone side).state ≠ .heldOwn := by
  by_cases h : (s.zone side).state = .noZone
  · rw [resetZone_noZone h, h]
    decide
  · rw [resetZone_zone h]
    exact (firstState_settles side s).2

theorem resetZones_cleared (side : Side) (s : State) : s.zoneCleared s.resetZones side := by
  cases side with
  | left => exact zoneCleared_of_zone (resetZone_zone_other (by decide) _) (resetZone_cleared .left s)
  | right =>
    exact ((resetZone_linkStep .left s).sameGround (resetZone_zone_other (by decide) s)).zoneCleared (resetZone_cleared .right _)

theorem resetZones_notHeld (side : Side) (s : State) : (s.resetZones.zone side).state ≠ .heldOwn := by
  cases side with
  | left =>
    have h : s.resetZones.zone .left = (s.resetZone .left).zone .left := resetZone_zone_other (by decide) _
    rw [h]
    exact resetZone_notHeld .left s
  | right => exact resetZone_notHeld .right _

theorem resetZones_lc (s : State) : s.resetZones.lc = s.lc := (resetZone_lc .right _).trans (resetZone_lc .left s)

/-! ### The frame cycle start put together (R88) -/

/-- A frame cycle start as LC takes it: WAITING and a fresh table before it, its frames set back. -/
def frameLinked (s : State) : State := State.linkFrameStart { s.setWork .waiting with ht := s.ps.freshTable }

/-- A frame cycle start up to its zones. -/
def frameBegun (s : State) : State := State.setProber .due none none (State.dropDatums s.frameLinked)

/-- The draws, the cycle's ending and WS's record set back. -/
def frameEnded (u : State) : State :=
  let t := u.resetDraw.onCycle fun cy => { cy with ending := cy.ending.map (fun e => { e with void := true }), left := [] }
  { t with ws.selection := none, ws.claim := none, ws.park := .no, ws.jigOpened := false }

theorem frameCycleStart_eq (s : State) : s.frameCycleStart = s.frameBegun.resetZones.frameEnded := by
  unfold frameCycleStart frameBegun frameLinked frameEnded
  rfl

section
variable (u : State)

@[simp] theorem frameEnded_lc : u.frameEnded.lc = u.lc := rfl
@[simp] theorem frameEnded_zone (side : Side) : u.frameEnded.zone side = u.zone side := rfl
@[simp] theorem frameEnded_ps : u.frameEnded.ps = u.ps := rfl
@[simp] theorem frameEnded_setup : u.frameEnded.setup = u.setup := rfl
@[simp] theorem frameEnded_pt : u.frameEnded.pt = u.pt := rfl
@[simp] theorem frameEnded_pu : u.frameEnded.pu = u.pu := rfl
@[simp] theorem frameEnded_eu : u.frameEnded.eu = u.eu := rfl
@[simp] theorem frameEnded_ep : u.frameEnded.ep = u.ep := rfl
@[simp] theorem frameEnded_sa : u.frameEnded.sa = u.sa := rfl

theorem frameEnded_ws : u.frameEnded.ws.selection = none ∧ u.frameEnded.ws.claim = none ∧ u.frameEnded.ws.park = .no
    ∧ u.frameEnded.ws.jigOpened = false := ⟨rfl, rfl, rfl, rfl⟩

theorem frameEnded_du : u.frameEnded.du.own = {} ∧ u.frameEnded.du.supplyWaits = 0 := ⟨rfl, rfl⟩

theorem frameEnded_drawEntry (j : Nat) : u.frameEnded.drawEntry j = none := by
  show ((List.replicate 8 (none : Option DrawEntry))[j - 1]?).join = none
  rw [List.getElem?_replicate]
  split <;> rfl

/-- An ending under way has nothing left to write (R128). -/
theorem frameEnded_cycle {cy : Cycle} {u : State} (h : u.frameEnded.cs.cycle = some cy) :
    cy.left = [] ∧ ∀ e, cy.ending = some e → e.void = true := by
  obtain ⟨cy', -, rfl⟩ := Option.map_eq_some_iff.mp (h : u.cs.cycle.map _ = some cy)
  refine ⟨rfl, fun e he => ?_⟩
  obtain ⟨e', -, rfl⟩ := Option.map_eq_some_iff.mp (he : cy'.ending.map _ = some e)
  rfl

end

theorem frameLinked_linkStep (s : State) : LinkStep { s.setWork .waiting with ht := s.ps.freshTable } s.frameLinked :=
  linkFrameStart_linkStep _

theorem dropDatums_setProber_frame (st : ProberStatus) (t : Option Nat) (m : Option (Nat × Nat)) (u : State) :
    State.setProber st t m u.dropDatums = { u with pu := (State.setProber st t m u.dropDatums).pu } := by
  unfold setProber
  split <;> rfl

/-- Beside PU's record a frame cycle start up to its zones has the fields it has after LC's part. -/
theorem frameBegun_frame (s : State) : s.frameBegun = { s.frameLinked with pu := s.frameBegun.pu } :=
  dropDatums_setProber_frame .due none none s.frameLinked

theorem frameBegun_lc (s : State) : s.frameBegun.lc = s.frameLinked.lc := by rw [frameBegun_frame]

theorem frameBegun_sameGround (side : Side) (s : State) : SameGround side s s.frameBegun := by
  have hlink := s.frameLinked_linkStep
  have hzc : s.frameLinked.zc = s.zc := linkFrameStart_zc _
  rw [frameBegun_frame]
  refine ⟨hlink.pt, hlink.setup, hlink.ps, ?_⟩
  show s.frameLinked.zc.zone side = s.zc.zone side
  rw [hzc]

theorem frameBegun_pu (s : State) : s.frameBegun.pu = { s.pu with
    datumA := {}, datumB := {}, correction := none, concern := none, prober := s.pu.prober.map fun _ => ⟨.due, none, none⟩ } := by
  have hpu : s.frameLinked.pu = s.pu := s.frameLinked_linkStep.pu
  rw [frameBegun, ← hpu]
  generalize s.frameLinked = u
  cases h : u.pu.prober <;> simp [setProber, dropDatums, h]

/-- Plan, setup, peers, events, port and analysis are not touched. -/
theorem frameCycleStart_keeps (s : State) : s.frameCycleStart.ps = s.ps ∧ s.frameCycleStart.setup = s.setup
    ∧ s.frameCycleStart.pt = s.pt ∧ s.frameCycleStart.eu = s.eu ∧ s.frameCycleStart.ep = s.ep ∧ s.frameCycleStart.sa = s.sa := by
  have hlink := s.frameLinked_linkStep
  have hzones := resetZones_linkStep s.frameBegun
  have hsa : s.frameLinked.sa = s.sa := by rw [hlink.frame]; rfl
  have hsaz : s.frameBegun.resetZones.sa = s.frameBegun.sa := by rw [hzones.frame]
  have hbegun := s.frameBegun_frame
  rw [frameCycleStart_eq, frameEnded_ps, frameEnded_setup, frameEnded_pt, frameEnded_eu, frameEnded_ep, frameEnded_sa,
    hzones.ps, hzones.setup, hzones.pt, hzones.eu, hzones.ep, hsaz, hbegun]
  refine ⟨?_, ?_, ?_, ?_, ?_, ?_⟩
  · exact hlink.ps
  · exact hlink.setup
  · exact hlink.pt
  · exact hlink.eu
  · exact hlink.ep
  · exact hsa

theorem frameCycleStart_lc (s : State) : s.frameCycleStart.lc = s.frameLinked.lc := by
  rw [frameCycleStart_eq, frameEnded_lc, resetZones_lc, frameBegun_lc]

theorem frameLinked_linkRest (s : State) : s.frameLinked.lc.stamp = s.lc.stamp ∧ s.frameLinked.lc.failures = s.lc.failures := by
  have h := linkFrameStart_linkRest { s.setWork .waiting with ht := s.ps.freshTable }
  exact ⟨congrArg (·.stamp) h, congrArg (·.failures) h⟩

theorem frameCycleStart_pu (s : State) : s.frameCycleStart.pu = { s.pu with
    datumA := {}, datumB := {}, correction := none, concern := none, prober := s.pu.prober.map fun _ => ⟨.due, none, none⟩ } := by
  rw [frameCycleStart_eq, frameEnded_pu, (resetZones_linkStep _).pu, frameBegun_pu]

theorem frameCycleStart_zone (side : Side) (s : State) : s.frameCycleStart.zone side = s.frameBegun.resetZones.zone side := by
  rw [frameCycleStart_eq, frameEnded_zone]

theorem frameCycleStart_cleared (side : Side) (s : State) : s.zoneCleared s.frameCycleStart side :=
  zoneCleared_of_zone (frameCycleStart_zone side s) ((s.frameBegun_sameGround side).zoneCleared (resetZones_cleared side s.frameBegun))

theorem frameCycleStart_notHeld (side : Side) (s : State) : (s.frameCycleStart.zone side).state ≠ .heldOwn := by
  rw [frameCycleStart_zone]
  exact resetZones_notHeld side s.frameBegun

end State

open State in
/-- Settles O18: the parts of the frame cycle start one after the other, LC's, PU's, ZC's, DU's, CS's and WS's. -/
theorem frameCycleStartSetsBack : Obligations.FrameCycleStartSetsBack := by
  intro s
  obtain ⟨htable, hwork⟩ := s.frameCycleStart_table
  obtain ⟨hps, hsetup, hpt, heu, hep, hsa⟩ := s.frameCycleStart_keeps
  obtain ⟨hstamp, hfailures⟩ := s.frameLinked_linkRest
  have hended := s.frameCycleStart_eq
  obtain ⟨hselection, hclaim, hpark, hopened⟩ := hended ▸ s.frameBegun.resetZones.frameEnded_ws
  obtain ⟨hown, hwaits⟩ := hended ▸ s.frameBegun.resetZones.frameEnded_du
  have hpu := s.frameCycleStart_pu
  have hlc := s.frameCycleStart_lc
  refine ⟨hwork, htable, ?_, ?_, ?_, fun h => ?_, fun h => ?_, ?_, hended ▸ s.frameBegun.resetZones.frameEnded_drawEntry, hown, hwaits,
    hselection, hclaim, hpark, hopened, s.frameCycleStart_notHeld .left, s.frameCycleStart_notHeld .right,
    fun side => s.frameCycleStart_cleared side, fun side a => ?_, fun cy hcy => frameEnded_cycle (hended ▸ hcy),
    hps, hsetup, hpt, heu, hep, hsa, ?_, ?_⟩
  · rw [hpu]
  · rw [hpu]
  · rw [hpu]
  · obtain ⟨p, hp⟩ := Option.ne_none_iff_exists'.mp h
    rw [proberStatus, hpu, hp]
    rfl
  · rw [hpu, h]
    rfl
  · rw [hlc]
    exact linkFrameStart_zoneFrames _
  · unfold offered
    rw [hlc]
    exact linkFrameStart_offered side a _
  · rw [hlc, hstamp]
  · rw [hlc, hfailures]

end Sys2Proof.Machine
end

section
/-! PROOFS. What giving up frames does to LC's queue and its attempt: which leave, which stay, and which are new (R49, R51, R85, R159). -/

namespace Sys2Proof.Machine

open Sys2Proof (Byte Word Data Stamp Datum Side Instr)

/-- The attempt, its frame void if it was or if it is made so (R85). -/
def Attempt.voidIf (v : Bool) (a : Attempt) : Attempt := { a with frame := { a.frame with void := a.frame.void || v } }

/-- The frames that may be new: HT's corrections among them, and none of PU's. -/
structure MayBegin (P : Owner → Body → Prop) : Prop where
  pu : ∀ b, ¬ P .pu b
  ht : ∀ c, P .ht (.correction c)

namespace State

/-- A name that ZC, WS or DU keeps to have LC remove its frame (R51, R74, R100, R159). -/
def keepsName (s : State) (id : Nat) : Prop :=
  (∃ side, (s.zone side).outstanding ≠ .no ∧ (s.zone side).frameId = id)
  ∨ (∃ x, s.ws.selection = some x ∧ (x.stage = .claimQueued ∨ x.stage = .claimWithdrawn) ∧ x.frameId = id)
  ∨ (s.du.own.state = .queued ∧ s.du.own.intentId = some id)

/-- A name whose frame may be removed: one kept, or that of a frame of PU's. -/
def asks (s : State) (id : Nat) : Prop := s.keepsName id ∨ ∃ f ∈ s.lc.queue ++ s.lc.held, f.owner = .pu ∧ f.id = id

/-- Every frame that waits in t waited in s, or is one that may be new. -/
def Only (P : Owner → Body → Prop) (s t : State) : Prop :=
  ∀ f ∈ t.lc.queue ++ t.lc.held, s.frameWaits f.id f.owner f.body ∨ P f.owner f.body

theorem Only.refl (P : Owner → Body → Prop) (s : State) : Only P s s := fun f hf => .inl ⟨f, hf, rfl, rfl, rfl⟩

theorem Only.of_frames {P : Owner → Body → Prop} {s t : State} (h : ∀ f ∈ t.lc.queue ++ t.lc.held, f ∈ s.lc.queue ++ s.lc.held) :
    Only P s t := fun f hf => .inl ⟨f, h f hf, rfl, rfl, rfl⟩

theorem Only.trans {P : Owner → Body → Prop} {s t u : State} (h : Only P s t) (h' : Only P t u) : Only P s u := fun f hf => by
  rcases h' f hf with ⟨g, hg, hid, howner, hbody⟩ | hnew
  · rw [← hid, ← howner, ← hbody]
    exact h g hg
  · exact .inr hnew

/-- From s to t frames are given up: no name is kept but an old one, a frame under no name asked for stays, no frame is new but one that
may be, and the attempt goes on, its frame made void at most. -/
structure Clearing (P : Owner → Body → Prop) (s t : State) : Prop where
  queue : QueueKept s t
  names : ∀ id, t.keepsName id → s.keepsName id
  keeps : ∀ id o b, b ≠ .owed → ¬ s.asks id → s.frameWaits id o b → t.frameWaits id o b
  only : Only P s t
  attempt : ∃ v, t.lc.attempt = s.lc.attempt.map (Attempt.voidIf v)

section
variable {P : Owner → Body → Prop} (hP : MayBegin P)

theorem attempt_same (a : Option Attempt) : ∃ v, a = a.map (Attempt.voidIf v) := by
  refine ⟨false, ?_⟩
  cases a <;> simp [Attempt.voidIf]

include hP in
theorem Clearing.asks {s t : State} (h : Clearing P s t) {id : Nat} (hid : t.asks id) : s.asks id := by
  rcases hid with hid | ⟨f, hf, howner, rfl⟩
  · exact .inl (h.names id hid)
  · rcases h.only f hf with ⟨g, hg, hgid, hgowner, -⟩ | hnew
    · exact .inr ⟨g, hg, hgowner.trans howner, hgid⟩
    · exact absurd (howner ▸ hnew) (hP.pu _)

include hP in
theorem Clearing.trans {s t u : State} (h : Clearing P s t) (h' : Clearing P t u) : Clearing P s u where
  queue := h.queue.trans h'.queue
  names id hid := h.names id (h'.names id hid)
  keeps id o b hb hno hwaits := h'.keeps id o b hb (fun hid => hno (h.asks hP hid)) (h.keeps id o b hb hno hwaits)
  only := h.only.trans h'.only
  attempt := by
    obtain ⟨v, hv⟩ := h.attempt
    obtain ⟨w, hw⟩ := h'.attempt
    refine ⟨v || w, ?_⟩
    rw [hw, hv, Option.map_map]
    cases s.lc.attempt <;> simp [Attempt.voidIf, Bool.or_assoc]

/-- LC's record stays as it is, and no name is kept but an old one. -/
theorem Clearing.of_lc {s t : State} (hlc : t.lc = s.lc) (hqueue : QueueKept s t) (hnames : ∀ id, t.keepsName id → s.keepsName id) :
    Clearing P s t where
  queue := hqueue
  names := hnames
  keeps _ _ _ _ _ := .of_lc hlc
  only := .of_frames fun f hf => hlc ▸ hf
  attempt := by
    rw [hlc]
    exact attempt_same _

theorem Clearing.refl (s : State) : Clearing P s s := .of_lc rfl (.refl s) fun _ h => h

/-- The names that ZC, WS and DU keep rest on their records alone. -/
theorem keepsName_of_records {s t : State} (hzc : t.zc = s.zc) (hselection : t.ws.selection = s.ws.selection) (hdu : t.du = s.du) {id : Nat}
    (h : t.keepsName id) : s.keepsName id := by
  unfold keepsName zone at h ⊢
  rw [hzc, hselection, hdu] at h
  exact h

/-! ### LC's own operations -/

section
include hP

theorem queueOwed_only (n : Nat) (s : State) : Only P s (s.queueOwed n) := by
  unfold queueOwed
  split
  · exact .refl P s
  · dsimp only
    intro f hf
    rw [putEntry_lc] at hf
    rcases List.mem_append.mp hf with hf | hf
    · rcases (mem_insertByClass _ _ _).mp hf with rfl | hf
      · exact .inr (hP.ht _)
      · exact .inl ⟨f, List.mem_append_left _ hf, rfl, rfl, rfl⟩
    · exact .inl ⟨f, List.mem_append_right _ hf, rfl, rfl, rfl⟩

theorem admitOne_only (s : State) : Only P s s.admitOne := by
  unfold admitOne
  split
  · split
    · exact .refl P s
    · rename_i g hg
      have herased : Only P s { s with lc.held := s.lc.held.erase g } := .of_frames fun f hf => by
        rcases List.mem_append.mp hf with hf | hf
        · exact List.mem_append_left _ hf
        · exact List.mem_append_right _ (List.mem_of_mem_erase hf)
      dsimp only
      split
      · split
        · exact herased.trans (queueOwed_only hP _ _)
        · exact herased
      · refine .of_frames fun f hf => ?_
        rcases List.mem_append.mp hf with hf | hf
        · rcases (mem_insertByClass _ _ _).mp hf with rfl | hf
          · exact List.mem_append_right _ (nextHeld_mem hg)
          · exact List.mem_append_left _ hf
        · exact List.mem_append_right _ (List.mem_of_mem_erase hf)
  · exact .refl P s

theorem admitHeld_only (s : State) : Only P s s.admitHeld :=
  repeatState_keeps (P := Only P s) (fun t ht => ht.trans (admitOne_only hP t)) _ s (.refl P s)

theorem removeFrame_only (id : Nat) (s : State) : Only P s (s.removeFrame id) := by
  unfold removeFrame
  split
  · exact .refl P s
  · refine Only.trans (.of_frames fun f hf => ?_) (admitHeld_only hP _)
    rcases List.mem_append.mp hf with hf | hf
    · exact List.mem_append_left _ (List.mem_of_mem_filter hf)
    · exact List.mem_append_right _ (List.mem_of_mem_filter hf)

omit hP in
theorem removeFrame_attempt (id : Nat) (s : State) : (s.removeFrame id).lc.attempt = s.lc.attempt := by
  unfold removeFrame
  split
  · rfl
  · exact (congrArg (·.attempt) (admitHeld_linkRest _) :)

/-- A frame removed under a name asked for before. -/
theorem Clearing.removeFrame {id : Nat} {s t : State} (h : Clearing P s t) (hid : s.asks id) : Clearing P s (t.removeFrame id) where
  queue := h.queue.trans (removeFrame_queueKept id t)
  names n hn := h.names n (keepsName_of_records (removeFrame_zc id t) (removeFrame_linkStep id t).selection (removeFrame_du id t) hn)
  keeps n o b hb hno hwaits := removeFrame_frameWaits hb (fun hn : id = n => hno (hn ▸ hid)) (h.keeps n o b hb hno hwaits)
  only := h.only.trans (removeFrame_only hP id t)
  attempt := by
    rw [removeFrame_attempt]
    exact h.attempt

theorem removeFrame_clearing {id : Nat} {s : State} (hid : s.asks id) : Clearing P s (s.removeFrame id) :=
  (Clearing.refl s).removeFrame hP hid

theorem removeFrames_clearing {ids : List Nat} {s t : State} (h : Clearing P s t) (hids : ∀ id ∈ ids, s.asks id) :
    Clearing P s (ids.foldl (fun t id => t.removeFrame id) t) := by
  induction ids generalizing t with
  | nil => exact h
  | cons n ids ih =>
    exact ih (h.removeFrame hP (hids n (List.mem_cons_self ..))) fun id hid => hids id (List.mem_cons_of_mem _ hid)

end

theorem voidInFlight_attempt (s : State) : (s.voidInFlight fun _ => true).lc.attempt = s.lc.attempt.map (Attempt.voidIf true) := by
  unfold voidInFlight
  split
  · rename_i a ha
    rw [if_pos rfl, ha]
    simp [Attempt.voidIf]
  · rename_i ha
    rw [ha]
    rfl

theorem voidInFlight_clearing (s : State) : Clearing P s (s.voidInFlight fun _ => true) where
  queue := voidInFlight_queueKept _ s
  names n hn := keepsName_of_records (voidInFlight_zc _ s) (voidInFlight_linkStep _ s).selection
    (congrArg (·.du) (voidInFlight_linkStep _ s).frame) hn
  keeps _ _ _ _ _ hwaits := voidInFlight_frameWaits _ hwaits
  only f hf := by
    obtain ⟨hheld, g, hg, hqueue⟩ := voidInFlight_frames (fun _ => true) s
    rw [hheld, hqueue] at hf
    refine .inl ?_
    rcases List.mem_append.mp hf with hf | hf
    · obtain ⟨x, hx, rfl⟩ := List.mem_map.mp hf
      obtain ⟨hid, howner, hbody⟩ := hg x
      exact ⟨x, List.mem_append_left _ hx, hid.symm, howner.symm, hbody.symm⟩
    · exact ⟨f, List.mem_append_right _ hf, rfl, rfl, rfl⟩
  attempt := ⟨true, voidInFlight_attempt s⟩

theorem offer_clearing {o : Owner} {b : Body} (hnew : P o b) (s : State) : Clearing P s (s.offer o b) where
  queue := offer_queueKept o b s
  names n hn := keepsName_of_records (offer_zc o b s) (offer_linkStep o b s).selection (congrArg (·.du) (offer_linkStep o b s).frame) hn
  keeps _ _ _ _ _ hwaits := offer_frameWaits o b hwaits
  only f hf := by
    unfold offer at hf
    dsimp only at hf
    split at hf
    · rcases List.mem_append.mp hf with hf | hf
      · rcases (mem_insertByClass _ _ _).mp hf with rfl | hf
        · exact .inr hnew
        · exact .inl ⟨f, List.mem_append_left _ hf, rfl, rfl, rfl⟩
      · exact .inl ⟨f, List.mem_append_right _ hf, rfl, rfl, rfl⟩
    · rcases List.mem_append.mp hf with hf | hf
      · exact .inl ⟨f, List.mem_append_left _ hf, rfl, rfl, rfl⟩
      · rcases List.mem_append.mp hf with hf | hf
        · exact .inl ⟨f, List.mem_append_right _ hf, rfl, rfl, rfl⟩
        · obtain rfl := List.mem_singleton.mp hf
          exact .inr hnew
  attempt := by
    have hrest : (s.offer o b).lc.attempt = s.lc.attempt := by rw [offer_eq]
    rw [hrest]
    exact attempt_same _

theorem Clearing.inFlight {s t : State} (h : Clearing P s t) (id : Nat) : t.inFlight id = s.inFlight id := by
  obtain ⟨v, hv⟩ := h.attempt
  unfold State.inFlight
  rw [hv]
  cases s.lc.attempt <;> rfl

/-- The attempt at a frame, made void. -/
def attemptVoid (id : Nat) (s : State) : Prop := ∃ a, s.lc.attempt = some a ∧ a.frame.id = id ∧ a.frame.void = true

theorem Clearing.attemptVoid {s t : State} (h : Clearing P s t) {id : Nat} (ha : s.attemptVoid id) : t.attemptVoid id := by
  obtain ⟨v, hv⟩ := h.attempt
  obtain ⟨a, ha, hid, hvoid⟩ := ha
  refine ⟨a.voidIf v, ?_, hid, ?_⟩
  · rw [hv, ha]
    rfl
  · simp [Attempt.voidIf, hvoid]

theorem voidInFlight_void {id : Nat} {s : State} (h : s.inFlight id = true) : (s.voidInFlight fun _ => true).attemptVoid id := by
  unfold inFlight at h
  split at h
  · rename_i a ha
    refine ⟨a.voidIf true, ?_, of_decide_eq_true h, ?_⟩
    · rw [voidInFlight_attempt, ha]
      rfl
    · simp [Attempt.voidIf]
  · cases h

theorem Clearing.offered_old {s t : State} (h : Clearing P s t) {o : Owner} {b : Body} (hno : ¬ P o b) (hoff : t.offered o b) :
    s.offered o b := by
  obtain ⟨f, hf, rfl, rfl⟩ := hoff
  exact ((h.only f hf).resolve_right hno).offered

/-! ### A zone given up (R85) -/

/-- ZC's outstanding frame removed, or in flight made void. -/
def outstandingGivenUp (side : Side) (s : State) : State :=
  if (s.zone side).outstanding = .no then s
  else if s.inFlight (s.zone side).frameId then s.voidInFlight (fun _ => true)
  else s.removeFrame (s.zone side).frameId

/-- ZC's own part of giving up a zone, before its record is set back. -/
def zoneFramesGivenUp (side : Side) (s : State) : State :=
  if (s.zone side).state = .heldOwn then (s.outstandingGivenUp side).offerZone side .release else s.outstandingGivenUp side

theorem giveUpZone_eq (side : Side) (s : State) : s.giveUpZone side = (s.zoneFramesGivenUp side).resetZone side := rfl

theorem outstandingGivenUp_linkStep (side : Side) (s : State) : LinkStep s (s.outstandingGivenUp side) := by
  unfold outstandingGivenUp
  split
  · exact .refl s
  · split
    · exact voidInFlight_linkStep _ s
    · exact removeFrame_linkStep _ s

theorem outstandingGivenUp_zc (side : Side) (s : State) : (s.outstandingGivenUp side).zc = s.zc := by
  unfold outstandingGivenUp
  split
  · rfl
  · split
    · exact voidInFlight_zc _ s
    · exact removeFrame_zc _ s

include hP in
theorem outstandingGivenUp_clearing (side : Side) (s : State) : Clearing P s (s.outstandingGivenUp side) := by
  unfold outstandingGivenUp
  split
  · exact .refl s
  · rename_i hout
    split
    · exact voidInFlight_clearing s
    · exact removeFrame_clearing hP (.inl (.inl ⟨side, hout, rfl⟩))

theorem zoneFramesGivenUp_linkStep (side : Side) (s : State) : LinkStep s (s.zoneFramesGivenUp side) := by
  unfold zoneFramesGivenUp
  split
  · exact (outstandingGivenUp_linkStep side s).trans (offer_linkStep .zc _ _)
  · exact outstandingGivenUp_linkStep side s

theorem zoneFramesGivenUp_zc (side : Side) (s : State) : (s.zoneFramesGivenUp side).zc = s.zc := by
  unfold zoneFramesGivenUp
  split
  · exact (offer_zc ..).trans (outstandingGivenUp_zc side s)
  · exact outstandingGivenUp_zc side s

include hP in
theorem zoneFramesGivenUp_clearing {side : Side} {s : State} (hrelease : (s.zone side).state = .heldOwn → P .zc (.zone side .release)) :
    Clearing P s (s.zoneFramesGivenUp side) := by
  unfold zoneFramesGivenUp
  split
  · rename_i hheld
    exact (outstandingGivenUp_clearing hP side s).trans hP (offer_clearing (hrelease hheld) _)
  · exact outstandingGivenUp_clearing hP side s

/-- What follows the outstanding frame's end when a zone is given up. -/
theorem outstandingGivenUp_then (side : Side) (s : State) : QueueKept (s.outstandingGivenUp side) (s.giveUpZone side)
    ∧ (s.giveUpZone side).lc.attempt = (s.outstandingGivenUp side).lc.attempt := by
  rw [giveUpZone_eq, resetZone_lc]
  unfold zoneFramesGivenUp
  split
  · refine ⟨.trans (offer_queueKept .zc _ _) (resetZone_queueKept side _), ?_⟩
    rw [offerZone, offer_eq]
  · exact ⟨resetZone_queueKept side _, rfl⟩

theorem resetZone_clearing (side : Side) (s : State) : Clearing P s (s.resetZone side) := by
  have hlink := resetZone_linkStep side s
  refine .of_lc (resetZone_lc side s) (resetZone_queueKept side s) fun id hid => ?_
  rcases hid with ⟨z, hout, hid⟩ | hid | hid
  · by_cases hz : z = side
    · subst hz
      by_cases hno : (s.zone z).state = .noZone
      · rw [resetZone_noZone hno] at hout hid
        exact .inl ⟨z, hout, hid⟩
      · rw [resetZone_zone hno] at hout
        exact absurd rfl hout
    · rw [resetZone_zone_other hz] at hout hid
      exact .inl ⟨z, hout, hid⟩
  · rw [hlink.selection] at hid
    exact .inr (.inl hid)
  · have hdu : (s.resetZone side).du = s.du := by rw [hlink.frame]
    rw [hdu] at hid
    exact .inr (.inr hid)

include hP in
theorem giveUpZone_clearing {side : Side} {s : State} (hrelease : (s.zone side).state = .heldOwn → P .zc (.zone side .release)) :
    Clearing P s (s.giveUpZone side) :=
  (zoneFramesGivenUp_clearing hP hrelease).trans hP (resetZone_clearing side _)

/-- The RELEASE of a hold given up waits under a name of its own. -/
theorem giveUpZone_release {side : Side} {s : State} (hheld : (s.zone side).state = .heldOwn) :
    ∃ n, s.lc.nextId ≤ n ∧ (s.giveUpZone side).frameWaits n .zc (.zone side .release) := by
  have hnext : s.lc.nextId ≤ (s.outstandingGivenUp side).lc.nextId := by
    unfold outstandingGivenUp
    split
    · exact Nat.le_refl _
    · split
      · exact (voidInFlight_queueKept _ s).nextId
      · exact (removeFrame_queueKept _ s).nextId
  refine ⟨_, hnext, .of_lc (resetZone_lc side _) ?_⟩
  show (s.zoneFramesGivenUp side).frameWaits _ _ _
  rw [zoneFramesGivenUp, if_pos hheld]
  exact offer_mem .zc (.zone side .release) _

/-- An outstanding frame not in flight is gone. -/
theorem giveUpZone_gone {side : Side} {s : State} (hout : (s.zone side).outstanding ≠ .no)
    (hid : (s.zone side).frameId < s.lc.nextId) (hflight : s.inFlight (s.zone side).frameId = false) :
    ∀ f ∈ (s.giveUpZone side).lc.queue ++ (s.giveUpZone side).lc.held, f.id ≠ (s.zone side).frameId := by
  have hgone := removeFrame_gone hid hflight
  have hkept := (outstandingGivenUp_then side s).1
  rw [outstandingGivenUp, if_neg hout, if_neg (by rw [hflight]; exact Bool.false_ne_true)] at hkept
  exact hkept.gone _ (hid.trans_le (removeFrame_queueKept _ s).nextId) hgone

/-- An outstanding frame in flight is made void. -/
theorem giveUpZone_void {side : Side} {s : State} (hout : (s.zone side).outstanding ≠ .no)
    (hflight : s.inFlight (s.zone side).frameId = true) : (s.giveUpZone side).attemptVoid (s.zone side).frameId := by
  have hvoid := voidInFlight_void hflight
  have hattempt := (outstandingGivenUp_then side s).2
  rw [outstandingGivenUp, if_neg hout, if_pos hflight] at hattempt
  unfold attemptVoid
  rw [hattempt]
  exact hvoid

/-- The record of a zone given up, set back from the ground it was left on (R79, R84). -/
theorem giveUpZone_cleared (side : Side) (s : State) : s.zoneCleared (s.giveUpZone side) side := by
  have hzone : (s.zoneFramesGivenUp side).zone side = s.zone side := by
    unfold zone
    rw [zoneFramesGivenUp_zc]
  exact ((zoneFramesGivenUp_linkStep side s).sameGround hzone).zoneCleared (resetZone_cleared side _)

theorem giveUpZone_idleEntry (side : Side) (s : State) : (s.giveUpZone side).zc.idleEntry = s.zc.idleEntry := by
  have hreset : ∀ t : State, (t.resetZone side).zc.idleEntry = t.zc.idleEntry := fun t => by
    unfold resetZone
    dsimp only
    split
    · rfl
    · cases side <;> rfl
  rw [giveUpZone_eq, hreset, zoneFramesGivenUp_zc]

/-! ### The selection given up (R89, R93) -/

theorem dropSelection_selection (s : State) {x : Selection} (hx : s.dropSelection.ws.selection = some x) : x.stage = .claimWithdrawn := by
  unfold dropSelection at hx
  split at hx
  · rename_i hnone
    rw [hnone] at hx
    cases hx
  · split at hx
    case h_1 | h_2 =>
      split at hx
      · obtain rfl := Option.some.inj hx
        rfl
      · rw [(removeFrame_linkStep _ _).selection] at hx
        cases hx
    all_goals cases hx

theorem dropSelection_linkStep (s : State) : LinkStep { s with ws.selection := s.dropSelection.ws.selection } s.dropSelection := by
  unfold dropSelection
  split
  · exact .refl s
  · split
    case h_1 | h_2 =>
      split
      · exact .refl _
      · rw [(removeFrame_linkStep _ _).selection]
        exact removeFrame_linkStep _ _
    all_goals exact .refl _

theorem keepsName_noSelection {s : State} {id : Nat} (h : keepsName { s with ws.selection := none } id) : s.keepsName id := by
  rcases h with h | ⟨x, hx, -⟩ | h
  · exact .inl h
  · cases hx
  · exact .inr (.inr h)

theorem selectionNone_clearing (s : State) : Clearing P s { s with ws.selection := none } :=
  .of_lc rfl (QueueKept.of_shrinks { claim := fun _ h => nomatch h }) fun _ => keepsName_noSelection

include hP in
/-- A selection dropped while its CLAIM is with LC (R93). -/
theorem claimDropped_clearing {x : Selection} {s : State} (hx : s.ws.selection = some x)
    (hstage : x.stage = .claimQueued ∨ x.stage = .claimWithdrawn) : Clearing P s (if s.inFlight x.frameId
      then { s with ws.selection := some { x with stage := .claimWithdrawn } }
      else State.removeFrame x.frameId { s with ws.selection := none }) := by
  split
  · refine .of_lc rfl (QueueKept.of_shrinks { claim := fun id h => ?_ }) fun id hid => ?_
    · show s.ws.selection.bind _ = _
      rw [hx, Option.bind_some, Selection.frameName, if_pos hstage]
      exact h
    · rcases hid with hid | ⟨y, hy, -, rfl⟩ | hid
      · exact .inl hid
      · obtain rfl := Option.some.inj hy
        exact .inr (.inl ⟨x, hx, hstage, rfl⟩)
      · exact .inr (.inr hid)
  · exact (selectionNone_clearing s).removeFrame hP (.inl (.inr (.inl ⟨x, hx, hstage, rfl⟩)))

include hP in
theorem dropSelection_clearing (s : State) : Clearing P s s.dropSelection := by
  unfold dropSelection
  split
  · exact .refl s
  · rename_i x hx
    split
    case h_1 h => exact claimDropped_clearing hP hx (.inl h)
    case h_2 h => exact claimDropped_clearing hP hx (.inr h)
    all_goals exact selectionNone_clearing s

/-! ### The own intent given up (R159) -/

/-- What DU's record becomes: an intent that stands is emptied from the table, and none is left but one in SQUEEZING. -/
def givenUpDraw (k : Nat) (d : DrawUnit) : DrawUnit :=
  match d.own.state with
  | .no | .squeezing => d
  | .queued | .waiting => { d with own := d.own.ended .no }
  | .settling | .supplyCheck | .allowed => { d with table := d.table.set (k - 1) none, own := d.own.ended .no }

theorem giveUpIntent_du (s : State) : s.giveUpIntent.du = givenUpDraw s.k s.du := by
  unfold giveUpIntent givenUpDraw
  cases hstate : s.du.own.state
  case queued =>
    dsimp only
    cases s.du.own.intentId with
    | none => rfl
    | some id =>
      rw [onIntent_du, removeFrame_du]
  case settling | supplyCheck | allowed =>
    dsimp only
    rw [onIntent_du, offerDraw, offer_eq]
    rfl
  all_goals rfl

theorem giveUpIntent_linkStep (s : State) : LinkStep { s with du := s.giveUpIntent.du } s.giveUpIntent := by
  have with_du : ∀ (t u : State) (d : DrawUnit), LinkStep t u → LinkStep { t with du := d } { u with du := d } := fun t u d h =>
    ⟨by rw [h.frame], h.entries⟩
  unfold giveUpIntent
  split
  case h_3 =>
    dsimp only
    split
    · exact with_du _ _ _ (removeFrame_linkStep _ s)
    · exact .refl _
  case h_4 | h_5 | h_6 =>
    exact with_du (s.setDraw s.k none) (State.offer .du (.draw .withdraw 0 s.du.own.hole) (s.setDraw s.k none)) _ (offer_linkStep ..)
  all_goals exact .refl _

theorem giveUpIntent_zc (s : State) : s.giveUpIntent.zc = s.zc := by
  unfold giveUpIntent
  split
  case h_3 =>
    dsimp only
    rw [onIntent_zc]
    split
    · exact removeFrame_zc _ s
    · rfl
  case h_4 | h_5 | h_6 => exact offer_zc .du (.draw .withdraw 0 s.du.own.hole) (s.setDraw s.k none)
  all_goals rfl

include hP in
theorem giveUpIntent_clearing {s : State} (hwithdraw : s.du.own.state = .settling ∨ s.du.own.state = .supplyCheck ∨ s.du.own.state = .allowed →
    P .du (.draw .withdraw 0 s.du.own.hole)) : Clearing P s s.giveUpIntent := by
  have ended : ∀ t : State, Clearing P t (t.onIntent (OwnIntent.ended .no)) := fun t =>
    .of_lc rfl (ended_queueKept .no t) fun id hid => by
      rcases hid with hid | hid | ⟨hstate, -⟩
      · exact .inl hid
      · exact .inr (.inl hid)
      · cases hstate
  have withdrawn : P .du (.draw .withdraw 0 s.du.own.hole) →
      Clearing P s (((s.setDraw s.k none).offerDraw .withdraw 0 s.du.own.hole).onIntent (OwnIntent.ended .no)) := fun hnew => by
    have emptied : Clearing P s (s.setDraw s.k none) := .of_lc rfl (.refl s) fun _ h => h
    exact (emptied.trans hP (offer_clearing hnew _)).trans hP (ended _)
  unfold giveUpIntent
  split
  case h_1 | h_2 => exact .refl s
  case h_3 hstate =>
    dsimp only
    split
    · rename_i id hid
      exact (removeFrame_clearing hP (.inl (.inr (.inr ⟨hstate, hid⟩)))).trans hP (ended _)
    · exact ended s
  case h_4 h => exact withdrawn (hwithdraw (.inl h))
  case h_5 h => exact withdrawn (hwithdraw (.inr (.inl h)))
  case h_6 h => exact withdrawn (hwithdraw (.inr (.inr h)))
  case h_7 => exact ended s

/-- The WITHDRAW of an intent that stood waits under a name of its own. -/
theorem giveUpIntent_withdraw {s : State} (h : s.du.own.state = .settling ∨ s.du.own.state = .supplyCheck ∨ s.du.own.state = .allowed) :
    s.giveUpIntent.frameWaits s.lc.nextId .du (.draw .withdraw 0 s.du.own.hole) := by
  have hoffered := offer_mem .du (.draw .withdraw 0 s.du.own.hole) (s.setDraw s.k none)
  unfold giveUpIntent
  rcases h with h | h | h <;> rw [h] <;> exact hoffered

/-- The INTENT of a queued intent, not in flight, is gone. -/
theorem giveUpIntent_gone {id : Nat} {s : State} (hstate : s.du.own.state = .queued) (hintent : s.du.own.intentId = some id)
    (hid : id < s.lc.nextId) (hflight : s.inFlight id = false) :
    ∀ f ∈ s.giveUpIntent.lc.queue ++ s.giveUpIntent.lc.held, f.id ≠ id := by
  have hgone := removeFrame_gone hid hflight
  unfold giveUpIntent
  rw [hstate]
  dsimp only
  rw [hintent]
  exact hgone

/-! ### The datums given up (R27) -/

/-- No frame of PU's bears a name. -/
def datumGone (id : Nat) (s : State) : Prop := ∀ f ∈ s.lc.queue ++ s.lc.held, f.owner = .pu → f.id ≠ id

include hP

theorem Only.datumGone {s t : State} (h : Only P s t) {id : Nat} (hgone : s.datumGone id) : t.datumGone id := fun f hf howner hid => by
  rcases h f hf with ⟨g, hg, hgid, hgowner, -⟩ | hnew
  · exact hgone g hg (hgowner.trans howner) (hgid.trans hid)
  · exact hP.pu _ (howner ▸ hnew)

theorem removeFrame_datumGone {id : Nat} {s : State} (hflight : s.inFlight id = false) : (s.removeFrame id).datumGone id := by
  unfold removeFrame
  rw [if_neg (by rw [hflight]; exact Bool.false_ne_true)]
  refine Only.datumGone hP (admitHeld_only hP _) fun f hf _ => ?_
  rcases List.mem_append.mp hf with hf | hf
  · simpa using List.of_mem_filter hf
  · simpa using List.of_mem_filter hf

/-- Of PU's frames removed in turn one not in flight is gone. -/
theorem removeFrames_datumGone {ids : List Nat} {s : State} {id : Nat} (hmem : id ∈ ids) (hflight : s.inFlight id = false) :
    (ids.foldl (fun t n => t.removeFrame n) s).datumGone id := by
  have hrest : ∀ (ids : List Nat) (t : State), Only P t (ids.foldl (fun t n => t.removeFrame n) t) := fun ids => by
    induction ids with
    | nil => exact fun t => .refl P t
    | cons n ids ih => exact fun t => (removeFrame_only hP n t).trans (ih _)
  induction ids generalizing s with
  | nil => cases hmem
  | cons n ids ih =>
    rcases List.mem_cons.mp hmem with rfl | hmem
    · exact (hrest ids _).datumGone hP (removeFrame_datumGone hP hflight)
    · refine ih hmem ?_
      unfold inFlight at hflight ⊢
      rw [removeFrame_attempt]
      exact hflight

theorem removeDatums_clearing (s : State) : Clearing P s s.removeDatums := by
  refine removeFrames_clearing hP (.refl s) fun id hid => .inr ?_
  obtain ⟨f, hf, rfl⟩ := List.mem_map.mp hid
  obtain ⟨hf, howner⟩ := List.mem_filter.mp hf
  exact ⟨f, hf, of_decide_eq_true howner, rfl⟩

/-- After their removal a frame of PU's that still waits is in flight. -/
theorem removeDatums_inFlight {f : TxFrame} {s : State} (hf : f ∈ s.removeDatums.lc.queue ++ s.removeDatums.lc.held) (howner : f.owner = .pu) :
    s.inFlight f.id = true := by
  rcases (removeDatums_clearing hP s).only f hf with ⟨g, hg, hgid, hgowner, -⟩ | hnew
  · by_contra hflight
    have hmem : f.id ∈ ((s.lc.queue ++ s.lc.held).filter (fun f => f.owner = .pu)).map (·.id) :=
      List.mem_map.mpr ⟨g, List.mem_filter.mpr ⟨hg, decide_eq_true (hgowner.trans howner)⟩, hgid⟩
    exact removeFrames_datumGone hP hmem (Bool.eq_false_of_not_eq_true hflight) f hf howner rfl
  · exact absurd (howner ▸ hnew) (hP.pu _)

omit hP

theorem removeDatums_linkStep (s : State) : LinkStep s s.removeDatums := by
  have hfold : ∀ (ids : List Nat) (t : State), LinkStep t (ids.foldl (fun t n => t.removeFrame n) t) := fun ids => by
    induction ids with
    | nil => exact fun t => .refl t
    | cons n ids ih => exact fun t => (removeFrame_linkStep n t).trans (ih _)
  exact hfold _ s

theorem removeDatums_zc (s : State) : s.removeDatums.zc = s.zc := by
  have hfold : ∀ (ids : List Nat) (t : State), (ids.foldl (fun t n => t.removeFrame n) t).zc = t.zc := fun ids => by
    induction ids with
    | nil => exact fun t => rfl
    | cons n ids ih => exact fun t => (ih _).trans (removeFrame_zc n t)
  exact hfold _ s

theorem proberReset_frame (s : State) : s.proberReset = { s with pu.prober := s.proberReset.pu.prober } := by
  unfold proberReset
  split
  · exact setProber_frame ..
  · exact setProber_frame ..
  · rfl

end

end State
end Sys2Proof.Machine
end

section
/-! PROOFS. The jig closes and opens (R27, R79, R84 to R86, R88, R89, R93, R127, R128, R159). -/

namespace Sys2Proof.Machine

open Sys2Proof (Byte Word Data Stamp Datum Side Instr)

namespace State

/-! ### Zones and own intent given up in the course of a passage (R85, R159) -/

/-- The frames that giving up the zones and the own intent may bring: a RELEASE for each hold, the WITHDRAW of an intent that stands,
and HT's corrections. -/
def GivingUp (s : State) (o : Owner) (b : Body) : Prop :=
  (o = .ht ∧ ∃ c, b = .correction c)
  ∨ (o = .zc ∧ ∃ side, (s.zone side).state = .heldOwn ∧ b = .zone side .release)
  ∨ (o = .du ∧ (s.du.own.state = .settling ∨ s.du.own.state = .supplyCheck ∨ s.du.own.state = .allowed)
      ∧ b = .draw .withdraw 0 s.du.own.hole)

theorem GivingUp.release {side : Side} {s : State} (h : (s.zone side).state = .heldOwn) : s.GivingUp .zc (.zone side .release) :=
  .inr (.inl ⟨rfl, side, h, rfl⟩)

theorem GivingUp.withdraw {s : State} (h : s.du.own.state = .settling ∨ s.du.own.state = .supplyCheck ∨ s.du.own.state = .allowed) :
    s.GivingUp .du (.draw .withdraw 0 s.du.own.hole) := .inr (.inr ⟨rfl, h, rfl⟩)

theorem givingUp_mayBegin (s : State) : MayBegin s.GivingUp where
  pu b h := by simp [GivingUp] at h
  ht c := .inl ⟨rfl, c, rfl⟩

/-- Every name asked for is given. -/
def NamesBelow (s : State) : Prop := ∀ id, s.asks id → id < s.lc.nextId

theorem namesBelow_of_namesGiven {s : State} (h : s.namesGiven) : s.NamesBelow := by
  obtain ⟨hframes, hzones, hselection, hintent⟩ := h
  rintro id ((⟨side, hout, rfl⟩ | ⟨x, hx, hstage, rfl⟩ | ⟨-, hid⟩) | ⟨f, hf, -, rfl⟩)
  · exact (hzones side hout).1
  · exact (hselection x hx hstage).1
  · exact hintent id hid
  · exact (hframes f hf).1

/-- A frame of DU's is asked for by its own intent alone. -/
theorem not_asks_of_du {s : State} (h : s.namesGiven) (hstate : s.du.own.state ≠ .queued) {f : TxFrame}
    (hf : f ∈ s.lc.queue ++ s.lc.held) (howner : f.owner = .du) : ¬ s.asks f.id := by
  obtain ⟨hframes, hzones, hselection, -⟩ := h
  rintro ((⟨side, hout, hid⟩ | ⟨x, hx, hstage, hid⟩ | ⟨hqueued, -⟩) | ⟨g, hg, hgowner, hid⟩)
  · exact (hzones side hout).2 f hf hid.symm howner
  · exact (hselection x hx hstage).2 f hf hid.symm howner
  · exact hstate hqueued
  · have hsame := (hframes f hf).2 g hg hid
    rw [hgowner, howner] at hsame
    cases hsame

/-- A frame that waits under a name of its own goes on waiting while frames are given up. -/
theorem Clearing.waits_on {P : Owner → Body → Prop} (hP : MayBegin P) {s t u : State} (hst : Clearing P s t) (htu : Clearing P t u)
    (hnames : s.NamesBelow) {o : Owner} {b : Body} (hb : b ≠ .owed)
    (h : ∃ n, s.lc.nextId ≤ n ∧ t.frameWaits n o b) : ∃ n, s.lc.nextId ≤ n ∧ u.frameWaits n o b := by
  obtain ⟨n, hn, hwaits⟩ := h
  exact ⟨n, hn, htu.keeps n o b hb (fun hid => absurd (hnames n (hst.asks hP hid)) (Nat.not_lt.mpr hn)) hwaits⟩

/-- From s to t a zone's frames have been given up: its RELEASE waits, its outstanding frame is gone or void. -/
structure ZoneFramesDone (side : Side) (s t : State) : Prop where
  release : (s.zone side).state = .heldOwn → ∃ n, s.lc.nextId ≤ n ∧ t.frameWaits n .zc (.zone side .release)
  gone : (s.zone side).outstanding ≠ .no → (s.zone side).frameId < s.lc.nextId → s.inFlight (s.zone side).frameId = false →
    ∀ f ∈ t.lc.queue ++ t.lc.held, f.id ≠ (s.zone side).frameId
  void : (s.zone side).outstanding ≠ .no → s.inFlight (s.zone side).frameId = true → t.attemptVoid (s.zone side).frameId

/-- From s to t the own intent's frames have been given up: its WITHDRAW waits, or its INTENT is gone. -/
structure IntentFramesDone (s t : State) : Prop where
  withdraw : s.du.own.state = .settling ∨ s.du.own.state = .supplyCheck ∨ s.du.own.state = .allowed →
    ∃ n, s.lc.nextId ≤ n ∧ t.frameWaits n .du (.draw .withdraw 0 s.du.own.hole)
  gone : s.du.own.state = .queued → ∀ id, s.du.own.intentId = some id → id < s.lc.nextId → s.inFlight id = false →
    ∀ f ∈ t.lc.queue ++ t.lc.held, f.id ≠ id

section
variable {P : Owner → Body → Prop} (hP : MayBegin P) {s t u : State} (hst : Clearing P s t)
include hst

theorem giveUpZone_done {side : Side} (hz : t.zone side = s.zone side) : ZoneFramesDone side s (t.giveUpZone side) where
  release hheld := by
    obtain ⟨n, hn, hwaits⟩ := giveUpZone_release (side := side) (s := t) (hz ▸ hheld)
    exact ⟨n, hst.queue.nextId.trans hn, hwaits⟩
  gone hout hid hflight := by
    rw [← hz] at hout hid hflight ⊢
    exact giveUpZone_gone hout (hid.trans_le hst.queue.nextId) ((hst.inFlight _).trans hflight)
  void hout hflight := by
    rw [← hz] at hout hflight ⊢
    exact giveUpZone_void hout ((hst.inFlight _).trans hflight)

theorem giveUpIntent_done (hdu : t.du = s.du) : IntentFramesDone s t.giveUpIntent where
  withdraw h := by
    rw [← hdu] at h ⊢
    exact ⟨_, hst.queue.nextId, giveUpIntent_withdraw h⟩
  gone hstate id hintent hid hflight := by
    rw [← hdu] at hstate hintent
    exact giveUpIntent_gone hstate hintent (hid.trans_le hst.queue.nextId) ((hst.inFlight _).trans hflight)

include hP

theorem ZoneFramesDone.after {side : Side} (h : ZoneFramesDone side s t) (htu : Clearing P t u) (hnames : s.NamesBelow) :
    ZoneFramesDone side s u where
  release hheld := hst.waits_on hP htu hnames nofun (h.release hheld)
  gone hout hid hflight := htu.queue.gone _ (hid.trans_le hst.queue.nextId) (h.gone hout hid hflight)
  void hout hflight := htu.attemptVoid (h.void hout hflight)

theorem IntentFramesDone.after (h : IntentFramesDone s t) (htu : Clearing P t u) (hnames : s.NamesBelow) : IntentFramesDone s u where
  withdraw hstate := hst.waits_on hP htu hnames nofun (h.withdraw hstate)
  gone hstate id hintent hid hflight := htu.queue.gone _ (hid.trans_le hst.queue.nextId) (h.gone hstate id hintent hid hflight)

end

/-- What the frames given up say of a zone, in the terms of the statements. -/
theorem ZoneFramesDone.zoneGivenUp {side : Side} {s t : State} (h : ZoneFramesDone side s t) (hst : Clearing s.GivingUp s t)
    (hgiven : s.namesGiven) (hcleared : s.zoneCleared t side) : s.zoneGivenUp t side := by
  refine ⟨hcleared, fun hheld => ?_, fun hno => hst.offered_old ?_, fun hout hflight => h.gone hout (hgiven.2.1 side hout).1 hflight, h.void⟩
  · obtain ⟨n, -, hwaits⟩ := h.release hheld
    exact hwaits.offered
  · simp [GivingUp, hno]

theorem givenUpDraw_idem (k : Nat) (d : DrawUnit) : givenUpDraw k (givenUpDraw k d) = givenUpDraw k d := by
  unfold givenUpDraw
  cases hstate : d.own.state <;> simp [OwnIntent.ended, hstate]

theorem givenUpDraw_state (k : Nat) (d : DrawUnit) : (givenUpDraw k d).own.state = .no ∨ (givenUpDraw k d).own.state = .squeezing := by
  unfold givenUpDraw
  cases hstate : d.own.state <;> simp [OwnIntent.ended, hstate]

theorem givenUpDraw_ended {k : Nat} {d : DrawUnit} (h : d.own.state ≠ .squeezing) : (givenUpDraw k d).own.state = .no := by
  unfold givenUpDraw
  cases hstate : d.own.state <;> simp_all [OwnIntent.ended]

theorem givenUpDraw_keeps (k : Nat) (d : DrawUnit) : (givenUpDraw k d).own.announced = d.own.announced
    ∧ (givenUpDraw k d).supplyWaits = d.supplyWaits := by
  unfold givenUpDraw
  cases d.own.state <;> exact ⟨rfl, rfl⟩

theorem givenUpDraw_squeezing {k : Nat} {d : DrawUnit} (h : d.own.state = .squeezing) : givenUpDraw k d = d := by
  rw [givenUpDraw, h]

theorem givenUpDraw_table {k : Nat} {d : DrawUnit} (h : ¬ (d.own.state = .settling ∨ d.own.state = .supplyCheck ∨ d.own.state = .allowed)) :
    (givenUpDraw k d).table = d.table := by
  unfold givenUpDraw
  cases hstate : d.own.state <;> simp_all

theorem givenUpDraw_withdrawn {k : Nat} {d : DrawUnit} (h : d.own.state = .settling ∨ d.own.state = .supplyCheck ∨ d.own.state = .allowed) :
    (givenUpDraw k d).table = d.table.set (k - 1) none := by
  rcases h with h | h | h <;> rw [givenUpDraw, h]

/-- An intent that does not stand brings no DRAW frame. -/
theorem not_givingUp_draw {s : State} (h : ¬ (s.du.own.state = .settling ∨ s.du.own.state = .supplyCheck ∨ s.du.own.state = .allowed))
    (a : DrawAction) (n hole : Nat) : ¬ s.GivingUp .du (.draw a n hole) := by
  simp [GivingUp, h]

theorem draw_offered_iff {s t : State} (hst : Clearing s.GivingUp s t) (hgiven : s.namesGiven) (hqueued : s.du.own.state ≠ .queued)
    (h : ¬ (s.du.own.state = .settling ∨ s.du.own.state = .supplyCheck ∨ s.du.own.state = .allowed)) (a : DrawAction) (n hole : Nat) :
    t.offered .du (.draw a n hole) ↔ s.offered .du (.draw a n hole) := by
  refine ⟨hst.offered_old (not_givingUp_draw h a n hole), ?_⟩
  rintro ⟨f, hf, howner, hbody⟩
  exact (hst.keeps f.id .du (.draw a n hole) nofun (not_asks_of_du hgiven hqueued hf howner) ⟨f, hf, rfl, howner, hbody⟩).offered

/-- What the frames given up and DU's record say of the own intent, in the terms of the statements. -/
theorem IntentFramesDone.intentGivenUp {s t : State} (h : IntentFramesDone s t) (hst : Clearing s.GivingUp s t)
    (hgiven : s.namesGiven) (hdu : t.du = givenUpDraw s.k s.du) : s.intentGivenUp t := by
  obtain ⟨hannounced, hwaits⟩ := givenUpDraw_keeps s.k s.du
  unfold State.intentGivenUp
  rw [hdu]
  refine ⟨hannounced, hwaits, givenUpDraw_squeezing, givenUpDraw_ended, fun hrests => ?_, fun hqueued => ?_, fun hstands => ?_⟩
  · have hnot : ¬ (s.du.own.state = .settling ∨ s.du.own.state = .supplyCheck ∨ s.du.own.state = .allowed) := by
      rcases hrests with hrests | hrests | hrests <;> simp [hrests]
    refine ⟨givenUpDraw_table hnot, fun a n hole => draw_offered_iff hst hgiven ?_ hnot a n hole⟩
    rcases hrests with hrests | hrests | hrests <;> simp [hrests]
  · have hnot : ¬ (s.du.own.state = .settling ∨ s.du.own.state = .supplyCheck ∨ s.du.own.state = .allowed) := by
      simp [hqueued]
    exact ⟨givenUpDraw_table hnot, fun a n hole => hst.offered_old (not_givingUp_draw hnot a n hole),
      fun id hid hflight => h.gone hqueued id hid (hgiven.2.2.2 id hid) hflight⟩
  · obtain ⟨n, -, hwaits⟩ := h.withdraw hstands
    have hentry : ∀ j, t.drawEntry j = (s.setDraw s.k none).drawEntry j := fun j => by
      unfold drawEntry
      rw [hdu, givenUpDraw_withdrawn hstands]
      rfl
    refine ⟨hwaits.offered, (hentry _).trans (setDraw_none_drawEntry ..), fun j hj hk hother => (hentry j).trans ?_⟩
    exact setDraw_drawEntry_other (by omega) none s

/-! ### The ending of a cycle and a lone motion (R127, R128) -/

/-- A cause of early ending changes the cycle's record, and may give up the own intent. -/
theorem takeEnding_eq (cause : EndCause) (through : Bool) (s : State) : ∃ cs,
    s.takeEnding cause through = { s with cs := cs } ∨ s.takeEnding cause through = State.giveUpIntent { s with cs := cs } := by
  unfold takeEnding
  split
  · exact ⟨s.cs, .inl rfl⟩
  · split
    · exact ⟨_, .inl rfl⟩
    · dsimp only
      split
      · exact ⟨_, .inl rfl⟩
      · split
        · exact ⟨_, .inr rfl⟩
        · exact ⟨_, .inl rfl⟩

theorem takeEnding_noCycle {s : State} (h : s.cs.cycle = none) (cause : EndCause) (through : Bool) : s.takeEnding cause through = s := by
  unfold takeEnding
  rw [h]

theorem takeEnding_begun {cy : Cycle} {s : State} (hcy : s.cs.cycle = some cy) (h : cy.ending ≠ none) (cause : EndCause) :
    (s.takeEnding cause false).cs.cycle = some cy := by
  obtain ⟨e, he⟩ := Option.ne_none_iff_exists'.mp h
  simp only [takeEnding, hcy, he, setCycle, Bool.or_false]
  rw [← he]

theorem takeEnding_begins {cy : Cycle} {s : State} (hcy : s.cs.cycle = some cy) (h : cy.ending = none) (cause : EndCause) (through : Bool) :
    ∃ cy' e, (s.takeEnding cause through).cs.cycle = some cy' ∧ cy'.work = cy.work ∧ cy'.stage = cy.stage ∧ cy'.ending = some e
      ∧ e.cause = cause ∧ e.through = through ∧ e.stage = cy.stage := by
  unfold takeEnding
  simp only [hcy, h]
  split
  · exact ⟨_, _, rfl, rfl, rfl, rfl, rfl, rfl, rfl⟩
  · split
    · rw [giveUpIntent_cs]
      exact ⟨_, _, rfl, rfl, rfl, rfl, rfl, rfl, rfl⟩
    · exact ⟨_, _, rfl, rfl, rfl, rfl, rfl, rfl, rfl⟩

theorem endLone_lone {l : Lone} {s : State} (hl : s.cs.lone = some l) (how : LoneEnd) : (s.endLone how).cs.lone
    = if l.ending ≠ none then some l else if l.placed = true then some { l with ending := some how } else none := by
  unfold endLone
  rw [hl]
  dsimp only
  cases he : l.ending with
  | none => cases hp : l.placed <;> simp
  | some e => simpa using hl

theorem endLone_cycle (how : LoneEnd) (s : State) : (s.endLone how).cs.cycle = s.cs.cycle := by
  unfold endLone
  split
  · rfl
  · split
    · rfl
    · split <;> rfl

/-! ### The jig opens (R86, R89) -/

/-- Entry into IDLE with the line inactive. -/
def jigLeft (s : State) : State := State.toIdle { s with lines.jigClosed := false }

/-- The cycle's ending and the lone motion's taken. -/
def jigEnded (s : State) : State := (s.jigLeft.takeEnding .jigOpen false).endLone .plain

/-- WS's record set back. -/
def jigDropped (s : State) : State := { s.jigEnded.dropSelection with ws.claim := none, ws.park := .no }

/-- The zones and the own intent given up. -/
def jigGivenUp (s : State) : State := s.jigDropped.giveUpZones.giveUpIntent

/-- The states that the jig's opening takes to IDLE. -/
def inFrame (s : State) : Prop := s.ws.state = .waiting ∨ s.ws.state = .working ∨ s.ws.state = .finished

theorem jigOpens_eq {s : State} (h : s.inFrame) : s.jigOpens
    = (if s.jigGivenUp.proberStatus = some .awaitingReadBack then s.jigGivenUp.removeDatums else s.jigGivenUp).proberReset := by
  unfold jigOpens
  dsimp only
  split
  case h_1 | h_2 | h_3 => rfl
  all_goals
    rename_i hw
    simp [inFrame, hw] at h

theorem jigOpens_posture {s : State} (h : s.inFrame) : s.jigOpens.posture = ({ s.posture with jigClosed := false }).inWork .idle := by
  rw [jigOpens_eq h, proberReset_posture]
  have hgiven : s.jigGivenUp.posture = s.jigDropped.posture := by simp [jigGivenUp]
  have hdropped : s.jigDropped.posture = s.jigEnded.dropSelection.posture := rfl
  have hended : s.jigEnded.dropSelection.posture = s.jigLeft.posture := by simp [jigEnded]
  split
  · rw [removeDatums_posture, hgiven, hdropped, hended]
    rfl
  · rw [hgiven, hdropped, hended]
    rfl

/-! ### The jig opens: what has been given up on the way to WS's record (R89, R128, R159) -/

/-- Up to the zones: DU's record as it was, or the own intent given up. -/
def IntentTrack (s t : State) : Prop := t.du = s.du ∨ t.du = givenUpDraw s.k s.du ∧ IntentFramesDone s t

/-- The way from the jig's opening to a later state of it: the frames given up, what zones and PU rest on, and DU's record. -/
structure Opening (s t : State) : Prop where
  clearing : Clearing s.GivingUp s t
  pt : t.pt = s.pt
  setup : t.setup = s.setup
  ps : t.ps = s.ps
  pu : t.pu = s.pu
  idleEntry : t.zc.idleEntry = some s.clock
  du : t.du = s.du ∨ t.du = givenUpDraw s.k s.du
  intent : s.NamesBelow → IntentTrack s t

namespace Opening

theorem sameGround {side : Side} {s t : State} (h : Opening s t) (hz : t.zone side = s.zone side) : SameGround side s t :=
  ⟨h.pt, h.setup, h.ps, hz⟩

theorem jigLeft (s : State) : Opening s s.jigLeft where
  clearing := .of_lc rfl (.refl s) fun _ h => h
  pt := rfl
  setup := rfl
  ps := rfl
  pu := rfl
  idleEntry := rfl
  du := .inl rfl
  intent _ := .inl rfl

section
variable {s t u : State} (h : Opening s t)
include h

theorem step (hclearing : Clearing s.GivingUp t u) (hpt : u.pt = t.pt) (hsetup : u.setup = t.setup) (hps : u.ps = t.ps)
    (hpu : u.pu = t.pu) (hidle : u.zc.idleEntry = t.zc.idleEntry) (hdu : u.du = t.du) : Opening s u where
  clearing := h.clearing.trans s.givingUp_mayBegin hclearing
  pt := hpt.trans h.pt
  setup := hsetup.trans h.setup
  ps := hps.trans h.ps
  pu := hpu.trans h.pu
  idleEntry := hidle.trans h.idleEntry
  du := hdu ▸ h.du
  intent hnames := (h.intent hnames).imp hdu.trans fun ⟨hgiven, hdone⟩ =>
    ⟨hdu.trans hgiven, hdone.after s.givingUp_mayBegin h.clearing hclearing hnames⟩

theorem linkStep (hclearing : Clearing s.GivingUp t u) (hlink : LinkStep t u) (hidle : u.zc.idleEntry = t.zc.idleEntry) : Opening s u :=
  h.step hclearing hlink.pt hlink.setup hlink.ps hlink.pu hidle (by rw [hlink.frame])

theorem k : t.k = s.k := congrArg Setup.station (cfg_congr h.setup)

theorem giveUpIntent_du : t.giveUpIntent.du = givenUpDraw s.k s.du := by
  rw [State.giveUpIntent_du, h.k]
  rcases h.du with hdu | hdu <;> rw [hdu]
  exact givenUpDraw_idem s.k s.du

theorem giveUpIntent_clearing : Clearing s.GivingUp t t.giveUpIntent := by
  refine State.giveUpIntent_clearing s.givingUp_mayBegin fun hstands => ?_
  rcases h.du with hdu | hdu
  · rw [hdu] at hstands ⊢
    exact .withdraw hstands
  · rw [hdu] at hstands
    rcases givenUpDraw_state s.k s.du with hstate | hstate <;> simp [hstate] at hstands

theorem intentFrames (hnames : s.NamesBelow) : IntentFramesDone s t.giveUpIntent :=
  (h.intent hnames).elim (giveUpIntent_done h.clearing) fun hdone =>
    hdone.2.after s.givingUp_mayBegin h.clearing h.giveUpIntent_clearing hnames

theorem giveUpIntent : Opening s t.giveUpIntent where
  clearing := h.clearing.trans s.givingUp_mayBegin h.giveUpIntent_clearing
  pt := t.giveUpIntent_linkStep.pt.trans h.pt
  setup := t.giveUpIntent_linkStep.setup.trans h.setup
  ps := t.giveUpIntent_linkStep.ps.trans h.ps
  pu := t.giveUpIntent_linkStep.pu.trans h.pu
  idleEntry := by
    rw [giveUpIntent_zc]
    exact h.idleEntry
  du := .inr h.giveUpIntent_du
  intent hnames := .inr ⟨h.giveUpIntent_du, h.intentFrames hnames⟩

theorem with_cs (cs : CycleSequencer) : Opening s { t with cs := cs } :=
  h.step (.of_lc rfl (.refl t) fun _ h => h) rfl rfl rfl rfl rfl rfl

theorem takeEnding (cause : EndCause) (through : Bool) : Opening s (t.takeEnding cause through) := by
  obtain ⟨cs, he | he⟩ := takeEnding_eq cause through t <;> rw [he]
  · exact h.with_cs cs
  · exact (h.with_cs cs).giveUpIntent

theorem endLone (how : LoneEnd) : Opening s (t.endLone how) := by
  rw [endLone_frame]
  exact h.with_cs _

theorem dropSelection : Opening s t.dropSelection := by
  have hlink := t.dropSelection_linkStep
  refine h.step (dropSelection_clearing s.givingUp_mayBegin t) hlink.pt hlink.setup hlink.ps hlink.pu ?_ ?_
  · rw [dropSelection_zc]
  · rw [hlink.frame]

theorem giveUpZone {side : Side} (hz : t.zone side = s.zone side) : Opening s (t.giveUpZone side) :=
  h.linkStep (giveUpZone_clearing s.givingUp_mayBegin fun hheld => .release (hz ▸ hheld)) (giveUpZone_linkStep side t)
    (giveUpZone_idleEntry side t)

/-- A zone given up on the way is given up from the beginning. -/
theorem zoneGivenUp {side : Side} (hz : t.zone side = s.zone side) : s.zoneCleared (t.giveUpZone side) side
    ∧ ((t.giveUpZone side).zone side).state ≠ .heldOwn ∧ ZoneFramesDone side s (t.giveUpZone side) :=
  ⟨(h.sameGround hz).zoneCleared (giveUpZone_cleared side t), resetZone_notHeld side _, giveUpZone_done h.clearing hz⟩

end

end Opening

/-! ### The jig opens: the chain (R89) -/

theorem takeEnding_zc (cause : EndCause) (through : Bool) (s : State) : (s.takeEnding cause through).zc = s.zc := by
  obtain ⟨cs, he | he⟩ := takeEnding_eq cause through s <;> rw [he]
  exact giveUpIntent_zc _

theorem endLone_zc (how : LoneEnd) (s : State) : (s.endLone how).zc = s.zc := by rw [endLone_frame]

theorem jigEnded_zone (side : Side) (s : State) : s.jigEnded.zone side = s.zone side := by
  have hzc : s.jigEnded.zc = s.jigLeft.zc := (endLone_zc ..).trans (takeEnding_zc ..)
  unfold zone
  rw [hzc]
  rfl

theorem jigDropped_zone (side : Side) (s : State) : s.jigDropped.zone side = s.zone side := by
  rw [← jigEnded_zone side s]
  unfold zone
  rw [← dropSelection_zc s.jigEnded]
  rfl

theorem jigDropped_opening (s : State) : Opening s s.jigDropped :=
  (((Opening.jigLeft s).takeEnding .jigOpen false).endLone .plain).dropSelection.step (.of_lc rfl (.refl _) fun _ h => h)
    rfl rfl rfl rfl rfl rfl

theorem leftGivenUp_zone (s : State) : (s.jigDropped.giveUpZone .left).zone .right = s.zone .right :=
  (giveUpZone_zone_other (by decide) _).trans (jigDropped_zone .right s)

theorem leftGivenUp_opening (s : State) : Opening s (s.jigDropped.giveUpZone .left) :=
  s.jigDropped_opening.giveUpZone (jigDropped_zone .left s)

theorem zonesGivenUp_opening (s : State) : Opening s s.jigDropped.giveUpZones :=
  s.leftGivenUp_opening.giveUpZone s.leftGivenUp_zone

theorem jigGivenUp_opening (s : State) : Opening s s.jigGivenUp := s.zonesGivenUp_opening.giveUpIntent

theorem jigGivenUp_zone (side : Side) (s : State) : s.jigGivenUp.zone side = s.jigDropped.giveUpZones.zone side := by
  unfold zone jigGivenUp
  rw [giveUpIntent_zc]

theorem giveUpZones_left (t : State) : t.giveUpZones.zone .left = (t.giveUpZone .left).zone .left :=
  giveUpZone_zone_other (by decide) (t.giveUpZone .left)

/-- Each zone's record after the jig has opened. -/
theorem jigGivenUp_cleared (side : Side) (s : State) : s.zoneCleared s.jigGivenUp side ∧ (s.jigGivenUp.zone side).state ≠ .heldOwn := by
  have hleft := s.jigDropped_opening.zoneGivenUp (jigDropped_zone .left s)
  have hright := s.leftGivenUp_opening.zoneGivenUp s.leftGivenUp_zone
  have hz := jigGivenUp_zone side s
  refine ⟨zoneCleared_of_zone hz ?_, ?_⟩
  · cases side with
    | left => exact zoneCleared_of_zone (giveUpZones_left _) hleft.1
    | right => exact hright.1
  · rw [hz]
    cases side with
    | left =>
      rw [giveUpZones_left]
      exact hleft.2.1
    | right => exact hright.2.1

/-- Each zone's frames after the jig has opened. -/
theorem jigGivenUp_zoneFrames (side : Side) {s : State} (hnames : s.NamesBelow) : ZoneFramesDone side s s.jigGivenUp := by
  have hP := s.givingUp_mayBegin
  have hdone : ZoneFramesDone side s s.jigDropped.giveUpZones := by
    cases side with
    | left =>
      have hright : Clearing s.GivingUp (s.jigDropped.giveUpZone .left) s.jigDropped.giveUpZones :=
        giveUpZone_clearing hP fun hheld => .release (s.leftGivenUp_zone ▸ hheld)
      exact (s.jigDropped_opening.zoneGivenUp (jigDropped_zone .left s)).2.2.after hP s.leftGivenUp_opening.clearing hright hnames
    | right => exact (s.leftGivenUp_opening.zoneGivenUp s.leftGivenUp_zone).2.2
  exact hdone.after hP s.zonesGivenUp_opening.clearing s.zonesGivenUp_opening.giveUpIntent_clearing hnames

theorem LinkStep.ws {s t : State} (h : LinkStep s t) : t.ws.claim = s.ws.claim ∧ t.ws.park = s.ws.park ∧ t.ws.selection = s.ws.selection := by
  refine ⟨?_, ?_, h.selection⟩ <;> rw [h.frame]

theorem giveUpIntent_ws (s : State) : s.giveUpIntent.ws.claim = s.ws.claim ∧ s.giveUpIntent.ws.park = s.ws.park
    ∧ s.giveUpIntent.ws.selection = s.ws.selection := s.giveUpIntent_linkStep.ws

theorem giveUpZones_ws (s : State) : s.giveUpZones.ws.claim = s.ws.claim ∧ s.giveUpZones.ws.park = s.ws.park
    ∧ s.giveUpZones.ws.selection = s.ws.selection := ((giveUpZone_linkStep .left s).trans (giveUpZone_linkStep .right _)).ws

/-- WS's record after the jig has opened: no claim and no park, and no selection but a CLAIM withdrawn in flight. -/
theorem jigGivenUp_ws (s : State) : s.jigGivenUp.ws.claim = none ∧ s.jigGivenUp.ws.park = .no
    ∧ ∀ x, s.jigGivenUp.ws.selection = some x → x.stage = .claimWithdrawn := by
  obtain ⟨hclaim, hpark, hselection⟩ := s.jigDropped.giveUpZones_ws
  obtain ⟨hclaim', hpark', hselection'⟩ := s.jigDropped.giveUpZones.giveUpIntent_ws
  have hdropped : s.jigDropped.ws.claim = none ∧ s.jigDropped.ws.park = .no
      ∧ s.jigDropped.ws.selection = s.jigEnded.dropSelection.ws.selection := ⟨rfl, rfl, rfl⟩
  unfold jigGivenUp
  rw [hclaim', hpark', hselection', hclaim, hpark, hselection]
  refine ⟨hdropped.1, hdropped.2.1, fun x hx => s.jigEnded.dropSelection_selection (hdropped.2.2 ▸ hx)⟩

theorem jigGivenUp_cs (s : State) : s.jigGivenUp.cs = s.jigEnded.cs :=
  (giveUpIntent_cs _).trans ((giveUpZones_cs _).trans (dropSelection_cs s.jigEnded))

/-! ### The jig opens: PU's part (R27) -/

/-- The own DATUM that waits for its read-back taken out of the queue. -/
def datumsGivenUp (s : State) : State := if s.proberStatus = some .awaitingReadBack then s.removeDatums else s

theorem datumsGivenUp_linkStep (s : State) : LinkStep s s.datumsGivenUp := by
  unfold datumsGivenUp
  split
  · exact removeDatums_linkStep s
  · exact .refl s

theorem datumsGivenUp_zc (s : State) : s.datumsGivenUp.zc = s.zc := by
  unfold datumsGivenUp
  split
  · exact removeDatums_zc s
  · rfl

theorem datumsGivenUp_clearing {P : Owner → Body → Prop} (hP : MayBegin P) (s : State) : Clearing P s s.datumsGivenUp := by
  unfold datumsGivenUp
  split
  · exact removeDatums_clearing hP s
  · exact .refl s

theorem proberReset_clearing (P : Owner → Body → Prop) (s : State) : Clearing P s s.proberReset := by
  refine .of_lc ?_ (proberReset_queueKept s) fun id hid => ?_
  · rw [proberReset_frame]
  · rw [proberReset_frame] at hid
    exact hid

theorem proberReset_due {s : State} (h : s.proberStatus = some .inCycle ∨ s.proberStatus = some .awaitingReadBack) :
    s.proberReset.proberStatus = some .due := by
  have hprober : s.pu.prober ≠ none := fun hnone => by simp [proberStatus, hnone] at h
  unfold proberReset
  rcases h with h | h <;> rw [h] <;> exact setProber_status hprober ..

theorem proberReset_rests {s : State} (hcycle : s.proberStatus ≠ some .inCycle) (hread : s.proberStatus ≠ some .awaitingReadBack) :
    s.proberReset = s := by
  unfold proberReset
  split
  · contradiction
  · contradiction
  · rfl

/-- Beside LC's frames and PU's prober nothing that ZC, DU, CS and WS hold has changed. -/
theorem datumsGivenUp_proberReset_frame (t : State) : t.datumsGivenUp.proberReset.zc = t.zc ∧ t.datumsGivenUp.proberReset.du = t.du
    ∧ t.datumsGivenUp.proberReset.cs = t.cs ∧ t.datumsGivenUp.proberReset.ws.claim = t.ws.claim
    ∧ t.datumsGivenUp.proberReset.ws.park = t.ws.park ∧ t.datumsGivenUp.proberReset.ws.selection = t.ws.selection := by
  have hlink := datumsGivenUp_linkStep t
  obtain ⟨hclaim, hpark, hselection⟩ := hlink.ws
  have hdu : t.datumsGivenUp.du = t.du := by rw [hlink.frame]
  rw [proberReset_frame]
  exact ⟨datumsGivenUp_zc t, hdu, hlink.cs, hclaim, hpark, hselection⟩

theorem datumsGivenUp_pu (s : State) : s.jigGivenUp.datumsGivenUp.pu = s.pu :=
  (datumsGivenUp_linkStep _).pu.trans s.jigGivenUp_opening.pu

/-- The state that the jig's opening leaves is reached by giving up zones and intent, and then PU's frames and its prober. -/
theorem jigOpens_datums {s : State} (h : s.inFrame) : s.jigOpens = s.jigGivenUp.datumsGivenUp.proberReset := jigOpens_eq h

section
variable {s : State} (h : s.inFrame)
include h

theorem jigOpens_clearing : Clearing s.GivingUp s.jigGivenUp s.jigOpens := by
  rw [jigOpens_datums h]
  exact (datumsGivenUp_clearing s.givingUp_mayBegin _).trans s.givingUp_mayBegin (proberReset_clearing _ _)

theorem jigOpens_frame : s.jigOpens.zc = s.jigGivenUp.zc ∧ s.jigOpens.du = s.jigGivenUp.du ∧ s.jigOpens.cs = s.jigGivenUp.cs
    ∧ s.jigOpens.ws.claim = s.jigGivenUp.ws.claim ∧ s.jigOpens.ws.park = s.jigGivenUp.ws.park
    ∧ s.jigOpens.ws.selection = s.jigGivenUp.ws.selection := by
  rw [jigOpens_datums h]
  exact datumsGivenUp_proberReset_frame _

theorem jigOpens_pu : s.jigOpens.pu = { s.pu with prober := s.jigOpens.pu.prober } := by
  rw [jigOpens_datums h, proberReset_frame, datumsGivenUp_pu]

theorem jigOpens_proberDue (hprober : s.proberStatus = some .inCycle ∨ s.proberStatus = some .awaitingReadBack) :
    s.jigOpens.proberStatus = some .due := by
  rw [jigOpens_datums h]
  refine proberReset_due ?_
  unfold proberStatus at hprober ⊢
  rw [datumsGivenUp_pu]
  exact hprober

theorem jigOpens_proberRests (hcycle : s.proberStatus ≠ some .inCycle) (hread : s.proberStatus ≠ some .awaitingReadBack) :
    s.jigOpens.pu.prober = s.pu.prober := by
  have hstatus : s.jigGivenUp.datumsGivenUp.proberStatus = s.proberStatus := by rw [proberStatus, datumsGivenUp_pu, proberStatus]
  rw [jigOpens_datums h, proberReset_rests (fun hc => hcycle (hstatus.symm.trans hc)) fun hr => hread (hstatus.symm.trans hr),
    datumsGivenUp_pu]

/-- A DATUM that is in the queue still is in flight. -/
theorem jigOpens_datum (hread : s.proberStatus = some .awaitingReadBack) {f : TxFrame} (hf : f ∈ s.jigOpens.lc.queue ++ s.jigOpens.lc.held)
    (howner : f.owner = .pu) : s.inFlight f.id = true := by
  have hstatus : s.jigGivenUp.proberStatus = some .awaitingReadBack := by
    rw [proberStatus, s.jigGivenUp_opening.pu]
    exact hread
  have hlc : s.jigOpens.lc = s.jigGivenUp.removeDatums.lc := by
    rw [jigOpens_datums h, proberReset_frame, datumsGivenUp, if_pos hstatus]
  rw [hlc] at hf
  rw [← s.jigGivenUp_opening.clearing.inFlight]
  exact removeDatums_inFlight s.givingUp_mayBegin hf howner

end

/-! ### The line's two rows (R86) -/

theorem exec_jigClosed (s : State) : exec .jigClosed s = .next s.jigCloses.settle := rfl

theorem exec_jigOpen (s : State) : exec .jigOpen s = .next s.jigOpens.settle := rfl

theorem jigCloses_idle {s : State} (h : s.ws.state = .idle) : s.jigCloses = State.frameCycleStart { s with lines.jigClosed := true } :=
  if_pos h

theorem jigCloses_elsewhere {s : State} (h : s.ws.state ≠ .idle) : s.jigCloses = { s with lines.jigClosed := true } := if_neg h

theorem jigOpens_faulted {s : State} (h : s.ws.state = .faulted) :
    s.jigOpens = { s with lines.jigClosed := false, ws.jigOpened := true } := by
  unfold jigOpens
  dsimp only
  rw [h]

theorem jigOpens_elsewhere {s : State} (h : s.ws.state = .unconfigured ∨ s.ws.state = .idle ∨ s.ws.state = .halted) :
    s.jigOpens = { s with lines.jigClosed := false } := by
  unfold jigOpens
  dsimp only
  rcases h with h | h | h <;> rw [h]

end State

open State in
/-- Settles O17: the jig's closing by the station state; its opening as a chain of passages, each of which gives up frames, so that what
waits, what is gone and what is void at its end is what one of them made so. -/
theorem jigLine : Obligations.JigLine := by
  intro s
  refine ⟨fun hidle => ?_, fun hno => ?_, fun hframe => ⟨s.jigOpens, rfl, ?_⟩, fun hfaulted => ?_, fun hrests => ?_⟩
  · rw [exec_jigClosed, jigCloses_idle hidle]
  · rw [exec_jigClosed, jigCloses_elsewhere hno]
  · have hposture := jigOpens_posture hframe
    have hopening := s.jigGivenUp_opening
    obtain ⟨hzc, hdu, hcs, hclaim, hpark, hselection⟩ := jigOpens_frame hframe
    obtain ⟨hnoClaim, hnoPark, hwithdrawn⟩ := s.jigGivenUp_ws
    have hdraw : s.jigOpens.du = givenUpDraw s.k s.du := hdu.trans s.zonesGivenUp_opening.giveUpIntent_du
    have hzone : ∀ side, s.jigOpens.zone side = s.jigGivenUp.zone side := fun side => congrArg (·.zone side) hzc
    have hcleared : ∀ side, s.zoneCleared s.jigOpens side := fun side =>
      zoneCleared_of_zone (hzone side) (jigGivenUp_cleared side s).1
    have hheld : ∀ side, (s.jigOpens.zone side).state ≠ .heldOwn := fun side => by
      rw [hzone]
      exact (jigGivenUp_cleared side s).2
    have htail := jigOpens_clearing hframe
    have hclearing := hopening.clearing.trans s.givingUp_mayBegin htail
    have hended : s.jigOpens.cs = s.jigEnded.cs := hcs.trans s.jigGivenUp_cs
    have hcycle : s.jigOpens.cs.cycle = (s.jigLeft.takeEnding .jigOpen false).cs.cycle := by
      rw [hended]
      exact endLone_cycle ..
    have hlone : (s.jigLeft.takeEnding .jigOpen false).cs.lone = s.cs.lone := takeEnding_lone ..
    have hpu := jigOpens_pu hframe
    refine ⟨congrArg Posture.work hposture, congrArg Posture.jigClosed hposture, congrArg Posture.finishedLine hposture,
      hclaim.trans hnoClaim, hpark.trans hnoPark, fun x hx => hwithdrawn x (hselection.symm.trans hx), hheld .left, hheld .right,
      (congrArg (·.idleEntry) hzc).trans hopening.idleEntry, by rw [hdraw]; exact givenUpDraw_state s.k s.du,
      congrArg Posture.plan hposture, congrArg Posture.setup hposture,
      hcleared, fun hgiven => ⟨fun side => ?_, ?_⟩, by rw [hpu], by rw [hpu], by rw [hpu], fun hno => ?_, fun cy hcy he => ?_,
      fun cy hcy he => ?_, fun hno => ?_, fun l hl => ?_, jigOpens_proberDue hframe, jigOpens_proberRests hframe,
      fun hread f hf howner => jigOpens_datum hframe hread hf howner⟩
    · have hnames := namesBelow_of_namesGiven hgiven
      exact ((jigGivenUp_zoneFrames side hnames).after s.givingUp_mayBegin hopening.clearing htail hnames).zoneGivenUp hclearing hgiven
        (hcleared side)
    · have hnames := namesBelow_of_namesGiven hgiven
      exact ((s.zonesGivenUp_opening.intentFrames hnames).after s.givingUp_mayBegin hopening.clearing htail hnames).intentGivenUp hclearing
        hgiven hdraw
    · rw [hcycle, takeEnding_noCycle (s := s.jigLeft) hno]
      exact hno
    · rw [hcycle]
      exact takeEnding_begins (s := s.jigLeft) hcy he .jigOpen false
    · rw [hcycle]
      exact takeEnding_begun (s := s.jigLeft) hcy he .jigOpen
    · rw [hended]
      exact endLone_none _ (hlone.trans hno)
    · rw [hended]
      exact endLone_lone (hlone.trans hl) .plain
  · rw [exec_jigOpen, jigOpens_faulted hfaulted]
  · rw [exec_jigOpen, jigOpens_elsewhere hrests]

end Sys2Proof.Machine
end
